-- ==== Sys2Proof/Word.lean ====
section
/-! DEFINITION. The word types of the DWA-84 model: the byte of a frame and the raw count of a scale head. -/

namespace Sys2Proof

/-- One byte of a frame, a ticket line or a store record. -/
abbrev Byte := BitVec 8

/-- The raw converter count of a sample frame, two's complement (11 section 11.6). -/
abbrev Count24 := BitVec 24

/-- A hall counter or other 64-bit figure, counting in two's complement (05 section 5.7). -/
abbrev Word64 := BitVec 64

end Sys2Proof
end

