-- ==== Sys2Proof/Config.lean ====
section
/-! DEFINITION. What the part fixes (capacities, fixed timer lengths, limits) and the one free value of the model. -/

namespace Sys2Proof.Config

/-- The lot table holds at most 1,024 living lots (02 section 2.1). -/
abbrev maxLots : Nat := 1024
/-- A lot holds at most 16 weighings (02 section 2.1, R29). -/
abbrev maxWeighings : Nat := 16
/-- The greatest gross of a lot, in grams (R31). -/
abbrev maxGross : Nat := 9600000
/-- The account table holds at most 512 records (R95). -/
abbrev maxAccounts : Nat := 512
/-- The largest balance an account can hold, in cents (05 section 5.1). -/
abbrev maxBalance : Int := 2000000000
/-- The largest limit of an account, in cents (05 section 5.1). -/
abbrev maxLimit : Nat := 50000000
/-- The largest payment, in cents (R103, R104). -/
abbrev maxPayment : Nat := 1000000000
/-- A rostrum queue holds at most 128 lots (R49). -/
abbrev maxQueue : Nat := 128
/-- A rostrum holds at most 16 desk answers (R73). -/
abbrev maxAnswers : Nat := 16
/-- A lane's ticket queue holds at most 4 lines (R20). -/
abbrev maxTickets : Nat := 4
/-- The top of every 16-bit count that holds at its top. -/
abbrev maxCount16 : Nat := 65535
/-- A session counts at most 999 crates of a type, and 999 rejected frames (R123). -/
abbrev maxSession : Nat := 999
/-- The top of the bunker stock, in grams (R145). -/
abbrev maxBunker : Nat := 2000000000
/-- The highest clock price, in cents per kilogram (00 section 4.1). -/
abbrev maxPrice : Nat := 99999

/-- The silence timer's length in milliseconds (R2). -/
abbrev silenceTime : Nat := 250
/-- Detection is suspended for 2 ms (R162). -/
abbrev suspendTime : Nat := 2
/-- The recovery timer's length in milliseconds (R164). -/
abbrev recoveryTime : Nat := 50

/-- FREE VALUE (log 10). The byte that stands at `position` in the cells of a record found torn at a cold start, for the
torn record of number `occurrence`. R151: a torn record "reads with whatever contents its cells hold". No body: nothing can be
proved about it. Position 12 is the cell of the check byte. -/
opaque tornByte (occurrence position : Nat) : Byte

end Sys2Proof.Config
end

