-- ==== Sys2Proof/Syntax.lean ====
section
/-! DEFINITION. The commands of the DWA-84: one constructor for each row of spec/opcode_table.json. -/

namespace Sys2Proof

/-- The two rostra (00 section 4.3). -/
inductive RostrumId where
  | a
  | b
  deriving DecidableEq, Repr

/-- A station line on which frames are received (R178). Lane index 0 is lane 1, gate index 0 is gate 1. -/
inductive StationLine where
  | lane (i : Fin 8)
  | rostrum (r : RostrumId)
  | gate (g : Fin 2)
  deriving DecidableEq, Repr

/-- The commands. A request carries its arguments as the numbers its frame carries (11 section 11.2), in the order of that table;
an argument outside its range is refused by the owning block, so no argument is cut here. `part` is the lot's part index and
`partNo` the part number of byte 13 (R177). An override of 0 is an absent one. Station frames carry their bytes. Line commands
name their unit by index (index 0 is unit 1). Supply commands that compare carry the main supply's value at that moment, in
millivolts (log 18). -/
inductive Instr where
  /-- STATUS (R173). -/
  | status
  /-- PORT SET (R174). -/
  | portSet (setting limit : Nat)
  /-- A frame shorter than the frame length (R169). -/
  | shortFrame
  /-- A frame that fails its CRC check, with the request code as received (R170, R172). -/
  | crcErr (code : Byte)
  /-- A frame whose request code names no request or whose byte 14 is not 0 (R171). -/
  | unknownRequest (code byte14 : Byte)
  /-- LANE SET (R15). -/
  | laneSet (lane enable k band m : Nat)
  /-- LANE ZERO (R14). -/
  | laneZero (lane : Nat)
  /-- LANE READ (R21). -/
  | laneRead (lane partNo : Nat)
  /-- OPEN LOT (R27). -/
  | openLot (boat species crateType : Nat)
  /-- TAKE WEIGHING (R29). -/
  | takeWeighing (number part lane crates : Nat)
  /-- CLOSE LOT (R33). -/
  | closeLot (number part : Nat)
  /-- CANCEL LOT (R36). -/
  | cancelLot (number part : Nat)
  /-- QUEUE LOT (R37). -/
  | queueLot (number part rostrum position override : Nat)
  /-- UNQUEUE LOT (R39). -/
  | unqueueLot (number part : Nat)
  /-- RETURN LOT (R40). -/
  | returnLot (number part : Nat)
  /-- RETIRE LOT (R41). -/
  | retireLot (number part : Nat)
  /-- LOT READ (R45). -/
  | lotRead (selector number part page partNo : Nat)
  /-- DAY CLOSE (R26). -/
  | dayClose
  /-- ROSTRUM START (R55). -/
  | rostrumStart (rostrum : Nat)
  /-- ROSTRUM HOLD (R56). -/
  | rostrumHold (rostrum : Nat)
  /-- ROSTRUM RESUME (R57). -/
  | rostrumResume (rostrum : Nat)
  /-- ROSTRUM STOP (R58). -/
  | rostrumStop (rostrum : Nat)
  /-- ROSTRUM READ (R74). -/
  | rostrumRead (rostrum page partNo : Nat)
  /-- DESK ASSIGN (R59). -/
  | deskAssign (rostrum desk buyer : Nat)
  /-- DESK RELEASE (R60). -/
  | deskRelease (rostrum desk : Nat)
  /-- ADD ACCOUNT (R97). -/
  | addAccount (number kind limit cls : Nat)
  /-- ACCOUNT SET (R98). -/
  | accountSet (number presence limit cls state : Nat)
  /-- ACCOUNT READ (R100). -/
  | accountRead (number page partNo : Nat)
  /-- ACCOUNT NEXT (R101). -/
  | accountNext (number : Nat)
  /-- CLOSE ACCOUNT (R102). -/
  | closeAccount (number : Nat)
  /-- PAYMENT IN (R103). -/
  | paymentIn (number amount : Nat)
  /-- PAYMENT OUT (R104). -/
  | paymentOut (number amount : Nat)
  /-- HALL TOTALS (R113). -/
  | hallTotals (page : Nat)
  /-- CRATE ISSUE (R120). -/
  | crateIssue (account crateType n : Nat)
  /-- RETURN OPEN (R122). -/
  | returnOpen (gate account : Nat)
  /-- RETURN CLOSE (R125). -/
  | returnClose (gate : Nat)
  /-- CRATE TRANSFER (R128). -/
  | crateTransfer (giver taker crateType n : Nat)
  /-- FLEET ADJUST (R129). -/
  | fleetAdjust (crateType : Nat) (n : Int)
  /-- YARD READ (R130). -/
  | yardRead (page : Nat)
  /-- ICE ORDER (R135). -/
  | iceOrder (account bay q : Nat)
  /-- ICE ABORT (R142). -/
  | iceAbort (bay : Nat)
  /-- ICE STOCK ADD (R145). -/
  | iceStockAdd (grams : Nat)
  /-- BAY READ (R146). -/
  | bayRead (bay page partNo : Nat)
  /-- STORE READ (R153). -/
  | storeRead (selector partNo : Nat)
  /-- STORE WRITE (R154), with its twelve content bytes. -/
  | storeWrite (selector : Nat) (contents : List Byte)
  /-- LOAD PROTECTION (R158). -/
  | loadProtection
  /-- METROLOGY LOCK (R159). -/
  | metrologyLock (check : Nat)
  /-- SUPPLY SET (R163). -/
  | supplySet (level filter : Nat)
  /-- RECORDS CLEAR (R168). -/
  | recordsClear
  /-- A sample frame arrives at a lane (R1). -/
  | sampleFrame (lane : Fin 8) (status : Byte) (count : Count24)
  /-- The silence timer of a lane expires (R2). -/
  | silenceTimerExpiry (lane : Fin 8)
  /-- The stability timer of a pending weighing expires (R18). -/
  | stabilityTimerExpiry (lane : Fin 8)
  /-- The last character of a ticket line is sent (R20). -/
  | ticketLineSent (lane : Fin 8)
  /-- A byte run of the wrong length, or with a stop-bit error, arrives on a line (R178). -/
  | malformedLineFrame (line : StationLine)
  /-- A press frame arrives at a rostrum (R61). -/
  | pressFrame (rostrum : RostrumId) (desk quantity check : Byte)
  /-- The step timer of a rostrum expires (R53). -/
  | stepTimerExpiry (rostrum : RostrumId)
  /-- The show timer of a rostrum expires (R54). -/
  | showTimerExpiry (rostrum : RostrumId)
  /-- A clock frame or desk answer finishes transmission (R72, R73). -/
  | rostrumFrameSent (rostrum : RostrumId)
  /-- A gate frame arrives at a gate (R123, R124). -/
  | gateFrame (gate : Fin 2) (typeCode check : Byte)
  /-- A pulse arrives on a bay's pulse input (R139). -/
  | bayPulse (bay : Fin 4)
  /-- The pulse timer of a bay expires (R140). -/
  | pulseTimerExpiry (bay : Fin 4)
  /-- The run-on timer of a bay expires (R141). -/
  | runOnTimerExpiry (bay : Fin 4)
  /-- Store programming ends (R155). -/
  | programmingCompletion
  /-- The main supply falls to a value below the detection level (R162). -/
  | supplyFall (millivolts : Nat)
  /-- The main supply rises to a value at or above the detection level (R162). -/
  | supplyRise (millivolts : Nat)
  /-- The persistence timer expires (R162). -/
  | persistenceTimerExpiry
  /-- The 2 ms detection suspension ends, with the supply as it stands then (R162). -/
  | detectionSuspendEnd (millivolts : Nat)
  /-- In HOLD the supply rises above the level plus 0.10 V (R164). -/
  | recoveryRise (millivolts : Nat)
  /-- In RECOVERING the supply falls to or below the level plus 0.10 V (R164). -/
  | recoveryFall (millivolts : Nat)
  /-- The recovery timer expires (R164). -/
  | recoveryTimerExpiry
  /-- The main supply falls below 3.0 V (R165). -/
  | supplyAbsent
  /-- The backup supply falls below 2.2 V (R165). -/
  | backupLow
  /-- The main supply rises above 3.0 V (R165). -/
  | powerOn
  /-- The reset line is asserted (R166). -/
  | resetLineAssert
  /-- The reset line is released (R166). -/
  | resetLineRelease
  deriving DecidableEq, Repr

end Sys2Proof
end

