-- ==== Sys2Proof/Machine/Operands.lean ====
section
/-! DEFINITION. Operand forms: byte order of frame fields (R177), the CRC-8 (R170), request codes (11 section 11.2), the ranges that
name a unit, and the rounded divisions of 00 section 4.2. -/

namespace Sys2Proof.Machine

/-! ## Bytes and fields -/

/-- A field of `w` bytes, most significant byte first (R177). -/
def be : Nat → Nat → List Byte
  | 0, _ => []
  | w + 1, v => BitVec.ofNat 8 (v / 256 ^ w) :: be w v

/-- A signed field of `w` bytes in two's complement (R177). -/
def beInt (w : Nat) (v : Int) : List Byte := be w (v % (256 : Int) ^ w).toNat

/-- The value of a field sent most significant byte first. -/
def ofBytes (bs : List Byte) : Nat := bs.foldl (fun acc b => acc * 256 + b.toNat) 0

/-- The two's complement value of a field of `w` bytes. -/
def ofBytesInt (w : Nat) (bs : List Byte) : Int :=
  let v := ofBytes bs
  if 2 * v < 256 ^ w then (v : Int) else (v : Int) - (256 : Int) ^ w

/-- The `w` bytes of a byte run from position `at` on (position 0 is the first byte), as a number; a byte beyond the run is 0. -/
def field (bs : List Byte) (pos w : Nat) : Nat :=
  ofBytes ((bs.drop pos ++ List.replicate w 0#8).take w)

/-- The same field read as two's complement. -/
def fieldInt (bs : List Byte) (pos w : Nat) : Int :=
  ofBytesInt w ((bs.drop pos ++ List.replicate w 0#8).take w)

/-- A run of bytes made exactly `n` long: cut, or filled with 0 (R177: bytes after the last listed field are sent as 0). -/
def padTo (n : Nat) (bs : List Byte) : List Byte := (bs ++ List.replicate n 0#8).take n

/-- The last `n` entries of a list. -/
def lastN {α : Type} (n : Nat) (xs : List α) : List α := xs.drop (xs.length - n)

/-- A flag as one byte, 0 or 1. -/
def flagByte (b : Bool) : Byte := if b then 1#8 else 0#8

/-- Flags packed into one byte, the first in bit 0. -/
def packBits : List Bool → Byte
  | [] => 0#8
  | b :: bs => flagByte b ||| (packBits bs <<< 1)

/-! ## The CRC-8 (R170) -/

/-- One shift of the CRC register: when the bit shifted out was 1, the register is combined with 29. -/
def crcShift (r : Byte) : Byte := if r.msb then (r <<< 1) ^^^ 29#8 else r <<< 1

/-- One byte: combined with the register by exclusive-or, then eight shifts. -/
def crcByte (r b : Byte) : Byte :=
  crcShift (crcShift (crcShift (crcShift (crcShift (crcShift (crcShift (crcShift (r ^^^ b))))))))

/-- The CRC-8: the register starts at 255, with no final inversion (R170). -/
def crc8 (bs : List Byte) : Byte := bs.foldl crcByte 255#8

/-! ## Parity (01 section 1.3) -/

/-- The number of one bits of the lowest `w` bits of `v`. -/
def onesBelow : Nat → Nat → Nat
  | 0, _ => 0
  | w + 1, v => v % 2 + onesBelow w (v / 2)

/-- A sample frame is good when the number of one bits across its 32 bits is even (R1). -/
def evenParity (status : Byte) (count : Count24) : Bool :=
  (onesBelow 8 status.toNat + onesBelow 24 count.toNat) % 2 == 0

/-- Bit 6 of a sample frame's status byte: converter overrange (11 section 11.6). -/
def overrange (status : Byte) : Bool := status.getLsbD 6

/-! ## Request codes (11 section 11.2) -/

/-- The request codes of the table of section 11.2; code 00h and every other code name no request. -/
def requestCodes : List Byte :=
  [0x01, 0x02, 0x10, 0x11, 0x12] ++
  [0x20, 0x21, 0x22, 0x23, 0x24, 0x25, 0x26, 0x27, 0x28, 0x29] ++
  [0x30, 0x31, 0x32, 0x33, 0x34, 0x35, 0x36] ++
  [0x40, 0x41, 0x42, 0x43, 0x44, 0x45, 0x46, 0x47] ++
  [0x50, 0x51, 0x52, 0x53, 0x54, 0x55] ++
  [0x60, 0x61, 0x62, 0x63, 0x70, 0x71, 0x72, 0x73, 0x78, 0x79]

/-- A code that names a request (R171). -/
def namesRequest (code : Byte) : Bool := requestCodes.contains code

/-! ## Unit numbers -/

/-- A unit number from 1 to `n` as an index. -/
def unitIndex? (n number : Nat) : Option (Fin n) :=
  if h : 1 ≤ number ∧ number ≤ n then some ⟨number - 1, by omega⟩ else none

/-- The number of a unit: its index plus 1. -/
def unitNumber {n : Nat} (i : Fin n) : Nat := i.val + 1

/-- A rostrum argument: 0 for A and 1 for B (11 section 11.2). -/
def rostrum? (code : Nat) : Option RostrumId :=
  if code = 0 then some .a else if code = 1 then some .b else none

/-- The code of a rostrum in an answer. -/
def rostrumCode : RostrumId → Byte
  | .a => 0#8
  | .b => 1#8

/-- An account number lies in 1 to 9,999 (R95). -/
def accountNumberOk (n : Nat) : Bool := decide (1 ≤ n ∧ n ≤ 9999)

/-- A lot key lies in 1 to 9,999 and 0 to 7 (02 section 2.1). -/
def keyOk (number part : Nat) : Bool := decide (1 ≤ number ∧ number ≤ 9999 ∧ part ≤ 7)

/-! ## Rounding (00 section 4.2) -/

/-- A quotient rounded to the nearest integer, half away from zero (R9). -/
def roundHalfAway (num : Int) (den : Nat) : Int :=
  let q : Nat := (2 * num.natAbs + den) / (2 * den)
  if num < 0 then -(q : Int) else (q : Int)

/-- A product with a rate per mil, or of grams with cents per kilogram: divided by 1,000 and rounded half up (R80, R81). -/
def perMil (a b : Nat) : Nat := (a * b + 500) / 1000

/-! ## Decimal text (R20, 11 section 11.6) -/

/-- `w` decimal digits with leading zeros, in ASCII. -/
def decDigits : Nat → Nat → List Byte
  | 0, _ => []
  | w + 1, n => BitVec.ofNat 8 (48 + n / 10 ^ w % 10) :: decDigits w n

/-- A number below 10,000,000 in decimal without leading zeros. -/
def plainDigits (n : Nat) : List Byte :=
  match (decDigits 7 n).dropWhile (· == 48#8) with
  | [] => [48#8]
  | ds => ds

/-- Text right-aligned in `w` characters with spaces. -/
def padLeft (w : Nat) (bs : List Byte) : List Byte := List.replicate (w - bs.length) 32#8 ++ bs

/-- A weight in grams as kilograms with the decimals of R20: three for divisions of 1, 2 and 5 g, two for 10, 20 and 50 g, one
for 100 g. -/
def kilogramText (e grams : Nat) : List Byte :=
  let decimals :=
    if e < 10 then decDigits 3 (grams % 1000)
    else if e < 100 then decDigits 2 (grams % 1000 / 10)
    else decDigits 1 (grams % 1000 / 100)
  plainDigits (grams / 1000) ++ [46#8] ++ decimals

end Sys2Proof.Machine
end

