-- ==== Sys2Proof/WellFormed.lean ====
section
/-! DEFINITION. Well-formed commands: the operands a frame can carry. Arguments that a frame can carry and that lie outside their
range are well formed: the owning block refuses them. -/

namespace Sys2Proof

/-- A number that a field of `w` bytes can carry. -/
def fits (w v : Nat) : Bool := decide (v < 256 ^ w)

/-- A signed number that a field of `w` bytes can carry. -/
def fitsInt (w : Nat) (v : Int) : Bool := decide (-(256 : Int) ^ w ≤ 2 * v ∧ 2 * v < (256 : Int) ^ w)

/-- The check, by constructor: each argument fits its field of 11 section 11.2; STORE WRITE carries twelve content bytes; an
UNKNOWN_REQUEST frame has a code that names no request or a byte 14 that is not 0 (R171). -/
def Instr.wf : Instr → Bool
  | .status => true
  | .portSet setting limit => fits 1 setting && fits 1 limit
  | .shortFrame => true
  | .crcErr _ => true
  | .unknownRequest code byte14 => !Machine.namesRequest code || byte14 != 0#8
  | .laneSet lane enable k band m => fits 1 lane && fits 1 enable && fits 1 k && fits 1 band && fits 1 m
  | .laneZero lane => fits 1 lane
  | .laneRead lane partNo => fits 1 lane && fits 1 partNo
  | .openLot boat species crateType => fits 2 boat && fits 1 species && fits 1 crateType
  | .takeWeighing number part lane crates => fits 2 number && fits 1 part && fits 1 lane && fits 1 crates
  | .closeLot number part => fits 2 number && fits 1 part
  | .cancelLot number part => fits 2 number && fits 1 part
  | .queueLot number part rostrum position override =>
    fits 2 number && fits 1 part && fits 1 rostrum && fits 1 position && fits 3 override
  | .unqueueLot number part => fits 2 number && fits 1 part
  | .returnLot number part => fits 2 number && fits 1 part
  | .retireLot number part => fits 2 number && fits 1 part
  | .lotRead selector number part page partNo =>
    fits 1 selector && fits 2 number && fits 1 part && fits 1 page && fits 1 partNo
  | .dayClose => true
  | .rostrumStart rostrum => fits 1 rostrum
  | .rostrumHold rostrum => fits 1 rostrum
  | .rostrumResume rostrum => fits 1 rostrum
  | .rostrumStop rostrum => fits 1 rostrum
  | .rostrumRead rostrum page partNo => fits 1 rostrum && fits 1 page && fits 1 partNo
  | .deskAssign rostrum desk buyer => fits 1 rostrum && fits 1 desk && fits 2 buyer
  | .deskRelease rostrum desk => fits 1 rostrum && fits 1 desk
  | .addAccount number kind limit cls => fits 2 number && fits 1 kind && fits 4 limit && fits 1 cls
  | .accountSet number presence limit cls state =>
    fits 2 number && fits 1 presence && fits 4 limit && fits 1 cls && fits 1 state
  | .accountRead number page partNo => fits 2 number && fits 1 page && fits 1 partNo
  | .accountNext number => fits 2 number
  | .closeAccount number => fits 2 number
  | .paymentIn number amount => fits 2 number && fits 4 amount
  | .paymentOut number amount => fits 2 number && fits 4 amount
  | .hallTotals page => fits 1 page
  | .crateIssue account crateType n => fits 2 account && fits 1 crateType && fits 2 n
  | .returnOpen gate account => fits 1 gate && fits 2 account
  | .returnClose gate => fits 1 gate
  | .crateTransfer giver taker crateType n => fits 2 giver && fits 2 taker && fits 1 crateType && fits 2 n
  | .fleetAdjust crateType n => fits 1 crateType && fitsInt 4 n
  | .yardRead page => fits 1 page
  | .iceOrder account bay q => fits 2 account && fits 1 bay && fits 2 q
  | .iceAbort bay => fits 1 bay
  | .iceStockAdd grams => fits 4 grams
  | .bayRead bay page partNo => fits 1 bay && fits 1 page && fits 1 partNo
  | .storeRead selector partNo => fits 1 selector && fits 1 partNo
  | .storeWrite selector contents => fits 1 selector && decide (contents.length = 12)
  | .loadProtection => true
  | .metrologyLock check => fits 1 check
  | .supplySet level filter => fits 1 level && fits 1 filter
  | .recordsClear => true
  | .sampleFrame _ _ _ => true
  | .silenceTimerExpiry _ => true
  | .stabilityTimerExpiry _ => true
  | .ticketLineSent _ => true
  | .malformedLineFrame _ => true
  | .pressFrame _ _ _ _ => true
  | .stepTimerExpiry _ => true
  | .showTimerExpiry _ => true
  | .rostrumFrameSent _ => true
  | .gateFrame _ _ _ => true
  | .bayPulse _ => true
  | .pulseTimerExpiry _ => true
  | .runOnTimerExpiry _ => true
  | .programmingCompletion => true
  | .supplyFall _ => true
  | .supplyRise _ => true
  | .persistenceTimerExpiry => true
  | .detectionSuspendEnd _ => true
  | .recoveryRise _ => true
  | .recoveryFall _ => true
  | .recoveryTimerExpiry => true
  | .supplyAbsent => true
  | .backupLow => true
  | .powerOn => true
  | .resetLineAssert => true
  | .resetLineRelease => true

end Sys2Proof
end

