-- ==== Sys2Proof/Decode.lean ====
section
/-! DEFINITION. The command a table word spells (none: no row of the table has bits), the reception of a clocked byte run by the
request port (R169 to R171, R177), and the frame of each request. -/

namespace Sys2Proof

open Sys2Proof.Machine

/-- No row of spec/opcode_table.json gives bits, so a table word spells no command. -/
def decodeTableWord (_nbits _w : Nat) : Option Instr := none

/-- The request that the 15 bytes of a received frame name, with its arguments from byte 1 and its part number in byte 13
(R171, R177); none where the code names no request. -/
def requestOf (f : List Byte) : Option Instr :=
  let b := field f
  match b 0 1 with
  | 0x01 => some .status
  | 0x02 => some (.portSet (b 1 1) (b 2 1))
  | 0x10 => some (.laneSet (b 1 1) (b 2 1) (b 3 1) (b 4 1) (b 5 1))
  | 0x11 => some (.laneZero (b 1 1))
  | 0x12 => some (.laneRead (b 1 1) (b 13 1))
  | 0x20 => some (.openLot (b 1 2) (b 3 1) (b 4 1))
  | 0x21 => some (.takeWeighing (b 1 2) (b 3 1) (b 4 1) (b 5 1))
  | 0x22 => some (.closeLot (b 1 2) (b 3 1))
  | 0x23 => some (.cancelLot (b 1 2) (b 3 1))
  | 0x24 => some (.queueLot (b 1 2) (b 3 1) (b 4 1) (b 5 1) (b 6 3))
  | 0x25 => some (.unqueueLot (b 1 2) (b 3 1))
  | 0x26 => some (.returnLot (b 1 2) (b 3 1))
  | 0x27 => some (.retireLot (b 1 2) (b 3 1))
  | 0x28 => some (.lotRead (b 1 1) (b 2 2) (b 4 1) (b 5 1) (b 13 1))
  | 0x29 => some .dayClose
  | 0x30 => some (.rostrumStart (b 1 1))
  | 0x31 => some (.rostrumHold (b 1 1))
  | 0x32 => some (.rostrumResume (b 1 1))
  | 0x33 => some (.rostrumStop (b 1 1))
  | 0x34 => some (.rostrumRead (b 1 1) (b 2 1) (b 13 1))
  | 0x35 => some (.deskAssign (b 1 1) (b 2 1) (b 3 2))
  | 0x36 => some (.deskRelease (b 1 1) (b 2 1))
  | 0x40 => some (.addAccount (b 1 2) (b 3 1) (b 4 4) (b 8 1))
  | 0x41 => some (.accountSet (b 1 2) (b 3 1) (b 4 4) (b 8 1) (b 9 1))
  | 0x42 => some (.accountRead (b 1 2) (b 3 1) (b 13 1))
  | 0x43 => some (.accountNext (b 1 2))
  | 0x44 => some (.closeAccount (b 1 2))
  | 0x45 => some (.paymentIn (b 1 2) (b 3 4))
  | 0x46 => some (.paymentOut (b 1 2) (b 3 4))
  | 0x47 => some (.hallTotals (b 1 1))
  | 0x50 => some (.crateIssue (b 1 2) (b 3 1) (b 4 2))
  | 0x51 => some (.returnOpen (b 1 1) (b 2 2))
  | 0x52 => some (.returnClose (b 1 1))
  | 0x53 => some (.crateTransfer (b 1 2) (b 3 2) (b 5 1) (b 6 2))
  | 0x54 => some (.fleetAdjust (b 1 1) (fieldInt f 2 4))
  | 0x55 => some (.yardRead (b 1 1))
  | 0x60 => some (.iceOrder (b 1 2) (b 3 1) (b 4 2))
  | 0x61 => some (.iceAbort (b 1 1))
  | 0x62 => some (.iceStockAdd (b 1 4))
  | 0x63 => some (.bayRead (b 1 1) (b 2 1) (b 13 1))
  | 0x70 => some (.storeRead (b 1 1) (b 13 1))
  | 0x71 => some (.storeWrite (b 1 1) ((f.drop 2).take 12))
  | 0x72 => some .loadProtection
  | 0x73 => some (.metrologyLock (b 1 1))
  | 0x78 => some (.supplySet (b 1 1) (b 2 1))
  | 0x79 => some .recordsClear
  | _ => none

/-- What the port takes at the rise of select (R169 to R171), with CRC on or off: a run shorter than the frame length is a short
frame; of a longer run the last frame-length bytes are the frame; with CRC on byte 15 is checked; then the code and byte 14 are
judged (a code that names no request before byte 14: log 33). -/
def receive (crcOn : Bool) (clocked : List Byte) : Instr :=
  let len := if crcOn then 16 else 15
  if clocked.length < len then .shortFrame
  else
    let frame := lastN len clocked
    let body := frame.take 15
    if crcOn && (frame.drop 15 != [crc8 body]) then .crcErr (frame.headD 0#8)
    else
      match requestOf body with
      | none => .unknownRequest (frame.headD 0#8) ((body.drop 14).headD 0#8)
      | some i =>
        if (body.drop 14).headD 0#8 != 0#8 then .unknownRequest (frame.headD 0#8) ((body.drop 14).headD 0#8) else i

/-- Bytes 0 to 14 of a frame: the code, the arguments from byte 1 (byte 13 the part number), and byte 14, which is 0. -/
def frameBody (code : Byte) (args : List Byte) (partNo : Nat) : List Byte :=
  [code] ++ padTo 12 args ++ be 1 partNo ++ [0#8]

/-- Bytes 0 to 14 of the frame of a request (11 section 11.2); none for a command that is no request. -/
def encodeRequest : Instr → Option (List Byte)
  | .status => some (frameBody 0x01 [] 0)
  | .portSet setting limit => some (frameBody 0x02 (be 1 setting ++ be 1 limit) 0)
  | .laneSet lane enable k band m =>
    some (frameBody 0x10 (be 1 lane ++ be 1 enable ++ be 1 k ++ be 1 band ++ be 1 m) 0)
  | .laneZero lane => some (frameBody 0x11 (be 1 lane) 0)
  | .laneRead lane partNo => some (frameBody 0x12 (be 1 lane) partNo)
  | .openLot boat species crateType => some (frameBody 0x20 (be 2 boat ++ be 1 species ++ be 1 crateType) 0)
  | .takeWeighing number part lane crates =>
    some (frameBody 0x21 (be 2 number ++ be 1 part ++ be 1 lane ++ be 1 crates) 0)
  | .closeLot number part => some (frameBody 0x22 (be 2 number ++ be 1 part) 0)
  | .cancelLot number part => some (frameBody 0x23 (be 2 number ++ be 1 part) 0)
  | .queueLot number part rostrum position override =>
    some (frameBody 0x24 (be 2 number ++ be 1 part ++ be 1 rostrum ++ be 1 position ++ be 3 override) 0)
  | .unqueueLot number part => some (frameBody 0x25 (be 2 number ++ be 1 part) 0)
  | .returnLot number part => some (frameBody 0x26 (be 2 number ++ be 1 part) 0)
  | .retireLot number part => some (frameBody 0x27 (be 2 number ++ be 1 part) 0)
  | .lotRead selector number part page partNo =>
    some (frameBody 0x28 (be 1 selector ++ be 2 number ++ be 1 part ++ be 1 page) partNo)
  | .dayClose => some (frameBody 0x29 [] 0)
  | .rostrumStart rostrum => some (frameBody 0x30 (be 1 rostrum) 0)
  | .rostrumHold rostrum => some (frameBody 0x31 (be 1 rostrum) 0)
  | .rostrumResume rostrum => some (frameBody 0x32 (be 1 rostrum) 0)
  | .rostrumStop rostrum => some (frameBody 0x33 (be 1 rostrum) 0)
  | .rostrumRead rostrum page partNo => some (frameBody 0x34 (be 1 rostrum ++ be 1 page) partNo)
  | .deskAssign rostrum desk buyer => some (frameBody 0x35 (be 1 rostrum ++ be 1 desk ++ be 2 buyer) 0)
  | .deskRelease rostrum desk => some (frameBody 0x36 (be 1 rostrum ++ be 1 desk) 0)
  | .addAccount number kind limit cls =>
    some (frameBody 0x40 (be 2 number ++ be 1 kind ++ be 4 limit ++ be 1 cls) 0)
  | .accountSet number presence limit cls state =>
    some (frameBody 0x41 (be 2 number ++ be 1 presence ++ be 4 limit ++ be 1 cls ++ be 1 state) 0)
  | .accountRead number page partNo => some (frameBody 0x42 (be 2 number ++ be 1 page) partNo)
  | .accountNext number => some (frameBody 0x43 (be 2 number) 0)
  | .closeAccount number => some (frameBody 0x44 (be 2 number) 0)
  | .paymentIn number amount => some (frameBody 0x45 (be 2 number ++ be 4 amount) 0)
  | .paymentOut number amount => some (frameBody 0x46 (be 2 number ++ be 4 amount) 0)
  | .hallTotals page => some (frameBody 0x47 (be 1 page) 0)
  | .crateIssue account crateType n => some (frameBody 0x50 (be 2 account ++ be 1 crateType ++ be 2 n) 0)
  | .returnOpen gate account => some (frameBody 0x51 (be 1 gate ++ be 2 account) 0)
  | .returnClose gate => some (frameBody 0x52 (be 1 gate) 0)
  | .crateTransfer giver taker crateType n =>
    some (frameBody 0x53 (be 2 giver ++ be 2 taker ++ be 1 crateType ++ be 2 n) 0)
  | .fleetAdjust crateType n => some (frameBody 0x54 (be 1 crateType ++ beInt 4 n) 0)
  | .yardRead page => some (frameBody 0x55 (be 1 page) 0)
  | .iceOrder account bay q => some (frameBody 0x60 (be 2 account ++ be 1 bay ++ be 2 q) 0)
  | .iceAbort bay => some (frameBody 0x61 (be 1 bay) 0)
  | .iceStockAdd grams => some (frameBody 0x62 (be 4 grams) 0)
  | .bayRead bay page partNo => some (frameBody 0x63 (be 1 bay ++ be 1 page) partNo)
  | .storeRead selector partNo => some (frameBody 0x70 (be 1 selector) partNo)
  | .storeWrite selector contents => some ([0x71#8] ++ be 1 selector ++ padTo 12 contents ++ [0#8])
  | .loadProtection => some (frameBody 0x72 [] 0)
  | .metrologyLock check => some (frameBody 0x73 (be 1 check) 0)
  | .supplySet level filter => some (frameBody 0x78 (be 1 level ++ be 1 filter) 0)
  | .recordsClear => some (frameBody 0x79 [] 0)
  | .shortFrame => none
  | .crcErr _ => none
  | .unknownRequest _ _ => none
  | .sampleFrame _ _ _ => none
  | .silenceTimerExpiry _ => none
  | .stabilityTimerExpiry _ => none
  | .ticketLineSent _ => none
  | .malformedLineFrame _ => none
  | .pressFrame _ _ _ _ => none
  | .stepTimerExpiry _ => none
  | .showTimerExpiry _ => none
  | .rostrumFrameSent _ => none
  | .gateFrame _ _ _ => none
  | .bayPulse _ => none
  | .pulseTimerExpiry _ => none
  | .runOnTimerExpiry _ => none
  | .programmingCompletion => none
  | .supplyFall _ => none
  | .supplyRise _ => none
  | .persistenceTimerExpiry => none
  | .detectionSuspendEnd _ => none
  | .recoveryRise _ => none
  | .recoveryFall _ => none
  | .recoveryTimerExpiry => none
  | .supplyAbsent => none
  | .backupLow => none
  | .powerOn => none
  | .resetLineAssert => none
  | .resetLineRelease => none

/-- The whole frame of a request, with its check byte when CRC is on (R169, R170). -/
def requestFrame (crcOn : Bool) (i : Instr) : Option (List Byte) :=
  (encodeRequest i).map fun body => if crcOn then body ++ [crc8 body] else body

end Sys2Proof
end

