-- ==== Sys2Proof/Machine/State.lean ====
section
/-! DEFINITION. The state of the DWA-84: every record of its ten blocks as plain data, the queue of waiting commands, the reasons a
step can stop, and the state after the part's first power-up. -/

namespace Sys2Proof.Machine

/-! ## Weigh lanes (01 section 1.1) -/

/-- A lot key: number and part index (02 section 2.1). -/
structure Key where
  number : Nat
  part : Nat
  deriving DecidableEq, Repr

/-- Lane states (01 section 1.2). -/
inductive LaneState where
  | off
  | settling
  | active
  | fault
  deriving DecidableEq, Repr

/-- Fault causes of a lane. -/
inductive FaultCause where
  | parity
  | silent
  deriving DecidableEq, Repr

/-- Weighing results (11 section 11.3). -/
inductive WeighResult where
  | taken
  | underMinimum
  | limit
  | notStable
  | overload
  | laneFault
  | laneOff
  | calChanged
  | restart
  deriving DecidableEq, Repr

/-- Ticket status of a last result (R20). -/
inductive TicketStatus where
  | queued
  | dropped
  deriving DecidableEq, Repr

/-- The filtered value F with the gram value W_g and the legal weight W_e computed from it (R8, R9). -/
structure Reading where
  filtered : Int
  gram : Int
  legal : Int
  deriving DecidableEq, Repr

/-- A pending weighing as the lane holds it (R16): `timer` is the milliseconds left on the stability timer. -/
structure PendingWeighing where
  key : Key
  crates : Nat
  timer : Nat
  deriving DecidableEq, Repr

/-- A lane's last result (R19). -/
structure LastWeighing where
  result : WeighResult
  gross : Option Int
  key : Key
  number : Option Nat
  ticket : Option TicketStatus
  deriving DecidableEq, Repr

/-- The lane record. Timers are the milliseconds left, absent while stopped. -/
structure Lane where
  enabled : Bool
  k : Nat
  band : Nat
  m : Nat
  state : LaneState
  cause : Option FaultCause
  window : List Int
  samples : Nat
  reading : Option Reading
  zero : Int
  tracking : Int
  history : List Int
  stable : Bool
  overload : Bool
  underload : Bool
  zeroLimit : Bool
  badRun : Nat
  goodRun : Nat
  silence : Option Nat
  weighing : Option PendingWeighing
  last : Option LastWeighing
  attention : Bool
  tickets : List (List Byte)
  deriving DecidableEq, Repr

/-- A disabled lane whose volatile fields are all fresh, with the given retained settings (R23, cold column; log 16 for the
samples since settle start). -/
def Lane.fresh (enabled : Bool) (k band m : Nat) : Lane :=
  { enabled, k, band, m, state := .off, cause := none, window := [], samples := 0, reading := none, zero := 0, tracking := 0,
    history := [], stable := false, overload := false, underload := false, zeroLimit := false, badRun := 0, goodRun := 0,
    silence := none, weighing := none, last := none, attention := false, tickets := [] }

/-! ## Lots (02 section 2.1) -/

/-- Lot states. -/
inductive LotState where
  | opened
  | ready
  | queued
  | onClock
  | sold
  | unsold
  deriving DecidableEq, Repr

/-- One entry of a lot's weighing list. -/
structure Weighing where
  lane : Nat
  gross : Nat
  crates : Nat
  deriving DecidableEq, Repr

/-- A lot's pending part: the lane and the crates requested. -/
structure LotPending where
  lane : Nat
  crates : Nat
  deriving DecidableEq, Repr

/-- The snapshot fixed at CLOSE LOT (R35). -/
structure Snapshot where
  start : Nat
  withdrawal : Nat
  step : Nat
  interval : Nat
  levy : Nat
  restartSteps : Nat
  allowance : Nat
  deriving DecidableEq, Repr

/-- Tare T and allowance A of a closed lot (R34). -/
structure Deductions where
  tare : Int
  allowance : Int
  deriving DecidableEq, Repr

/-- The sale fields of a SOLD lot (R43, R89). -/
structure Sale where
  buyer : Nat
  price : Nat
  crates : Nat
  net : Nat
  amount : Nat
  commission : Nat
  levy : Nat
  fee : Nat
  deposit : Nat
  deriving DecidableEq, Repr

/-- A living lot. -/
structure Lot where
  key : Key
  boat : Nat
  species : Nat
  crateType : Fin 8
  state : LotState
  division : Option Nat
  weighings : List Weighing
  pending : Option LotPending
  n : Nat
  gross : Option Nat
  deductions : Option Deductions
  net : Option Int
  snapshot : Option Snapshot
  restartPrice : Option Nat
  override : Option Nat
  rostrum : Option RostrumId
  sale : Option Sale
  deriving DecidableEq, Repr

/-- The lot table: the living lots in key order, the lot-number counter, the day index and the day-wrap flag (R25). -/
structure LotTable where
  lots : List Lot
  counter : Nat
  day : Nat
  dayWrap : Bool
  deriving DecidableEq, Repr

/-! ## Sale clocks (03 section 3.1) -/

/-- Rostrum states. -/
inductive RostrumState where
  | idle
  | waiting
  | running
  | held
  | showing
  deriving DecidableEq, Repr

/-- The current lot with the current price and the steps taken j (present together). -/
structure Offer where
  key : Key
  price : Nat
  j : Nat
  deriving DecidableEq, Repr

/-- Lot-end results (R71). -/
inductive LotEnd where
  | sold
  | partSold
  | noSale
  | stopped
  deriving DecidableEq, Repr

/-- Buyer, crates and desk of a booked press. -/
structure Winner where
  buyer : Nat
  crates : Nat
  desk : Nat
  deriving DecidableEq, Repr

/-- A rostrum's last result (R71). -/
structure LastLotEnd where
  code : LotEnd
  key : Key
  price : Nat
  winner : Option Winner
  deriving DecidableEq, Repr

/-- Press answers (11 section 11.3). -/
inductive PressAnswer where
  | taken
  | late
  | notRunning
  | unassigned
  | suspended
  | quantity
  | partLimit
  | partTooSmall
  | tableFull
  | credit
  | range
  deriving DecidableEq, Repr

/-- What a clock frame carries (R72). -/
structure ClockFrame where
  state : RostrumState
  lot : Option (Key × Nat)
  price : Option (Nat × Nat)
  result : Option LastLotEnd
  deriving DecidableEq, Repr

/-- A desk answer (R73). -/
structure DeskAnswer where
  desk : Nat
  answer : PressAnswer
  crates : Nat
  deriving DecidableEq, Repr

/-- A frame that waits to be sent on a rostrum line. -/
inductive OutFrame where
  | clock (f : ClockFrame)
  | answer (a : DeskAnswer)
  deriving DecidableEq, Repr

/-- The rostrum record. `sending` is the frame in transmission on the rostrum line; `out` holds the waiting clock frame and the
queued desk answers behind it, in their sending order (R72, R73, log 8). -/
structure Rostrum where
  state : RostrumState
  queue : List Key
  offer : Option Offer
  stepTimer : Option Nat
  showTimer : Option Nat
  desks : Vector (Option Nat) 96
  last : Option LastLotEnd
  displacedCount : Nat
  displacedKey : Option Key
  attention : Bool
  sending : Option OutFrame
  out : List OutFrame
  rejected : Nat
  dropped : Nat
  deriving DecidableEq, Repr

/-- A rostrum with the given retained queue and desk table and every volatile field fresh (R76, POWER_ON_WARM column). -/
def Rostrum.fresh (queue : List Key) (desks : Vector (Option Nat) 96) : Rostrum :=
  { state := .idle, queue, offer := none, stepTimer := none, showTimer := none, desks, last := none, displacedCount := 0,
    displacedKey := none, attention := false, sending := none, out := [], rejected := 0, dropped := 0 }

/-! ## Accounts (05 section 5.1) -/

/-- Account kinds. -/
inductive AccountKind where
  | boat
  | buyer
  deriving DecidableEq, Repr

/-- Account states. -/
inductive AccountState where
  | opened
  | suspended
  deriving DecidableEq, Repr

/-- An account record. -/
structure Account where
  number : Nat
  kind : AccountKind
  state : AccountState
  balance : Int
  limit : Nat
  reserved : Nat
  cls : Nat
  holding : Vector Nat 8
  committed : Vector Nat 8
  liveLots : Nat
  deskCount : Nat
  deriving DecidableEq, Repr

/-- The seven hall counters, 64 bits each, wrapping (05 section 5.7). -/
structure HallCounters where
  commission : Word64
  levy : Word64
  fee : Word64
  ice : Word64
  depositFloat : Word64
  cashIn : Word64
  cashOut : Word64
  deriving DecidableEq, Repr

/-- Every counter 0 (R117). -/
def HallCounters.zero : HallCounters :=
  { commission := 0, levy := 0, fee := 0, ice := 0, depositFloat := 0, cashIn := 0, cashOut := 0 }

/-- The totals copy of HALL TOTALS (R113). -/
structure TotalsCopy where
  counters : HallCounters
  balanceSum : Int
  deriving DecidableEq, Repr

/-- The account table: the records in ascending order of number, with the two values kept for the table as a whole (R95), the
hall counters and the totals copy. -/
structure AccountTable where
  accounts : List Account
  recordCount : Nat
  balanceSum : Int
  hall : HallCounters
  totals : Option TotalsCopy
  deriving DecidableEq, Repr

/-- The empty account table (R117). -/
def AccountTable.empty : AccountTable :=
  { accounts := [], recordCount := 0, balanceSum := 0, hall := HallCounters.zero, totals := none }

/-! ## Crate pool (06 section 6.1) -/

/-- The figures of one crate type. -/
structure CrateType where
  yard : Nat
  fleet : Nat
  strays : Nat
  deriving DecidableEq, Repr

/-- A gate return session. -/
structure Session where
  account : Nat
  counted : Vector Nat 8
  rejected : Nat
  deriving DecidableEq, Repr

/-- The record of a gate's last closed session (R126). -/
structure LastClose where
  account : Nat
  credited : Vector Nat 8
  excess : Vector Nat 8
  rejected : Nat
  deposit : Nat
  deriving DecidableEq, Repr

/-- The record of one gate. -/
structure Gate where
  session : Option Session
  refused : Nat
  lastClose : Option LastClose
  deriving DecidableEq, Repr

/-- An idle gate with nothing recorded (R133). -/
def Gate.fresh : Gate := { session := none, refused := 0, lastClose := none }

/-- The crate pool. -/
structure CratePool where
  types : Vector CrateType 8
  gates : Vector Gate 2
  deriving DecidableEq, Repr

/-- The crate pool after a cold start (R133). -/
def CratePool.empty : CratePool :=
  { types := Vector.replicate 8 { yard := 0, fleet := 0, strays := 0 }, gates := Vector.replicate 2 Gate.fresh }

/-! ## Ice bays (07 section 7.1) -/

/-- Bay states. -/
inductive BayState where
  | idle
  | dispensing
  | runOn
  deriving DecidableEq, Repr

/-- An ice order in flight. -/
structure IceOrder where
  account : Nat
  q : Nat
  price : Nat
  pulseWeight : Nat
  charge : Nat
  stock : Nat
  aborted : Bool
  deriving DecidableEq, Repr

/-- Ice completion codes (11 section 11.3). -/
inductive IceCode where
  | done
  | jam
  | aborted
  | supply
  deriving DecidableEq, Repr

/-- A bay's last completion (R143). -/
structure LastIce where
  code : IceCode
  account : Nat
  q : Nat
  delivered : Nat
  kilograms : Nat
  charge : Nat
  deriving DecidableEq, Repr

/-- The record of one bay. -/
structure Bay where
  state : BayState
  order : Option IceOrder
  delivered : Nat
  runOnPulses : Nat
  pulseTimer : Option Nat
  runOnTimer : Option Nat
  release : Bool
  last : Option LastIce
  attention : Bool
  ignored : Nat
  deriving DecidableEq, Repr

/-- An idle bay with every field fresh (R148, cold column). -/
def Bay.fresh : Bay :=
  { state := .idle, order := none, delivered := 0, runOnPulses := 0, pulseTimer := none, runOnTimer := none, release := false,
    last := none, attention := false, ignored := 0 }

/-- The ice bays unit. -/
structure IceUnit where
  stock : Nat
  reservation : Nat
  bays : Vector Bay 4
  deriving DecidableEq, Repr

/-! ## Configuration store (08 sections 8.1 to 8.4) -/

/-- A store record, named by its kind and index (index 0 is entry 1). -/
inductive RecordId where
  | laneCal (i : Fin 8)
  | crateTare (i : Fin 8)
  | bayPulse (i : Fin 4)
  | crateDeposit (i : Fin 8)
  | species (i : Fin 64)
  | tariff
  | timing
  | protection
  | lock
  deriving DecidableEq, Repr

/-- A record's cells: contents in the layout of 11 section 11.5 and check byte, with the status VALID or INVALID (R151). -/
structure StoreRecord where
  valid : Bool
  contents : List Byte
  check : Byte
  deriving DecidableEq, Repr

/-- A record that has never been written reads with its contents all zero (R151); its check byte is log 11. -/
def StoreRecord.blank (length : Nat) : StoreRecord :=
  { valid := false, contents := List.replicate length 0#8, check := 0#8 }

/-- The cells of all the store's records (08 section 8.1). -/
structure StoreCells where
  laneCal : Vector StoreRecord 8
  crateTare : Vector StoreRecord 8
  bayPulse : Vector StoreRecord 4
  crateDeposit : Vector StoreRecord 8
  species : Vector StoreRecord 64
  tariff : StoreRecord
  timing : StoreRecord
  protection : StoreRecord
  lock : StoreRecord
  deriving DecidableEq, Repr

/-- A store none of whose records has been written, with the record lengths of 11 section 11.5. -/
def StoreCells.blank : StoreCells :=
  { laneCal := Vector.replicate 8 (StoreRecord.blank 10), crateTare := Vector.replicate 8 (StoreRecord.blank 2),
    bayPulse := Vector.replicate 4 (StoreRecord.blank 2), crateDeposit := Vector.replicate 8 (StoreRecord.blank 2),
    species := Vector.replicate 64 (StoreRecord.blank 12), tariff := StoreRecord.blank 12, timing := StoreRecord.blank 10,
    protection := StoreRecord.blank 1, lock := StoreRecord.blank 1 }

/-- A held write: PROGRAMMING, or SUSPENDED when `suspended` (08 section 8.4). `previous` is the target's previous contents and
status, served while the write is held. -/
structure WriteBuffer where
  target : RecordId
  contents : List Byte
  previous : StoreRecord
  suspended : Bool
  deriving DecidableEq, Repr

/-- Completion results of the store. -/
inductive StoreResult where
  | ok
  | inUse
  deriving DecidableEq, Repr

/-- The store's last completion (R155). -/
structure LastStore where
  target : RecordId
  result : StoreResult
  deriving DecidableEq, Repr

/-- The configuration store; a buffer that is absent is EMPTY. -/
structure Store where
  cells : StoreCells
  buffer : Option WriteBuffer
  activeTariff : Bool
  activeTiming : Bool
  last : Option LastStore
  attention : Bool
  deriving DecidableEq, Repr

/-! ## Supply monitor (09 section 9.1) -/

/-- Supply states. -/
inductive SupplyState where
  | normal
  | low
  | hold
  | recovering
  deriving DecidableEq, Repr

/-- Restart causes (R167). -/
inductive RestartCause where
  | none
  | powerOnWarm
  | powerOnCold
  | resetLine
  | supplyResume
  deriving DecidableEq, Repr

/-- The supply monitor. `suspend` is the 2 ms timer of the detection suspension; `starting` is the cause of a start that has begun
and waits for the release of the reset line (R166). -/
structure Supply where
  levelCode : Nat
  filterCode : Nat
  state : SupplyState
  persistence : Option Nat
  recovery : Option Nat
  suspend : Option Nat
  latch : Bool
  cause : RestartCause
  restartFlag : Bool
  absent : Bool
  resetLine : Bool
  starting : Option RestartCause
  deriving DecidableEq, Repr

/-! ## Request port (10) -/

/-- An answer frame (R172): the echoed request code, the answer code (255 for a discarded frame), the status summary, and the
twelve data bytes 3 to 14. -/
structure Answer where
  request : Byte
  code : Byte
  summary : Byte
  data : List Byte
  deriving DecidableEq, Repr

/-- The start answer (R172): attention pending (bit 0) and HOLD-recovered (bit 3) are set. -/
def Answer.start : Answer := { request := 0#8, code := 255#8, summary := 9#8, data := List.replicate 12 0#8 }

/-- The request port. `crcSetting` is the setting that PORT SET changes; `frameCrc` is the setting with which the next frame is
judged, which gives the frame length (R174, log 6). -/
structure Port where
  crcSetting : Bool
  frameCrc : Bool
  errorCount : Nat
  errorLimit : Nat
  linkFault : Bool
  answer : Answer
  deriving DecidableEq, Repr

/-- The port after every start (R176). -/
def Port.start : Port :=
  { crcSetting := true, frameCrc := true, errorCount := 0, errorLimit := 4, linkFault := false, answer := Answer.start }

/-! ## The whole part -/

/-- The state of the DWA-84, the commands that wait for it (oldest first), and the counter of the free values (log 10). -/
structure State where
  lanes : Vector Lane 8
  lotTable : LotTable
  rostrumA : Rostrum
  rostrumB : Rostrum
  accountTable : AccountTable
  crates : CratePool
  ice : IceUnit
  store : Store
  supply : Supply
  port : Port
  freeCount : Nat
  pending : List Instr
  deriving DecidableEq, Repr

/-- The part never stops with a fault: every command is answered, discarded or carried out, and the loss of its supply is a state
it is in (R165). No command raises a fault, so there is no constructor. -/
inductive Fault where
  deriving DecidableEq, Repr

/-- Reasons for a refusal by the model. -/
inductive Refusal where
  /-- Raised by `exec` alone, for a command with no meaning yet. Safe: nothing can be proved of what follows. No command raises it
  now. -/
  | notModelled (mnemonic : String)
  deriving DecidableEq, Repr

/-- The state right after the part's first power-up (log 1): the retention latch was found set (R165), so the start was cold; the
store has never been written (R151); the reset line is not asserted (log 21); the line of commands is empty. -/
def State.reset : State :=
  { lanes := Vector.replicate 8 (Lane.fresh false 2 1 5)
    lotTable := { lots := [], counter := 1, day := 0, dayWrap := false }
    rostrumA := Rostrum.fresh [] (Vector.replicate 96 none)
    rostrumB := Rostrum.fresh [] (Vector.replicate 96 none)
    accountTable := AccountTable.empty
    crates := CratePool.empty
    ice := { stock := 0, reservation := 0, bays := Vector.replicate 4 Bay.fresh }
    store :=
      { cells := StoreCells.blank, buffer := none, activeTariff := false, activeTiming := false, last := none,
        attention := false }
    supply :=
      { levelCode := 6, filterCode := 2, state := .normal, persistence := none, recovery := none,
        suspend := some Config.suspendTime, latch := false, cause := .powerOnCold, restartFlag := true, absent := false,
        resetLine := false, starting := none }
    port := Port.start
    freeCount := 0
    pending := [] }

end Sys2Proof.Machine
end

