-- ==== Sys2Proof/Machine/Records.lean ====
section
/-! DEFINITION. The store's records: selectors, sections, layouts and ranges (R150, 11 section 11.5), the live record that every
block reads (R155), and the typed views of the records that the blocks use (R152). -/

namespace Sys2Proof.Machine

/-- The eight indices of lanes and of crate types, in order. -/
def all8 : List (Fin 8) := [0, 1, 2, 3, 4, 5, 6, 7]

/-- The four bay indices, in order. -/
def all4 : List (Fin 4) := [0, 1, 2, 3]

/-- The two gate indices, in order. -/
def all2 : List (Fin 2) := [0, 1]

/-! ## Selectors and layouts (11 section 11.5) -/

/-- The record a selector names; none outside the store. -/
def RecordId.ofSelector (n : Nat) : Option RecordId :=
  match unitIndex? 8 n, unitIndex? 8 (n - 0x10), unitIndex? 4 (n - 0x20), unitIndex? 8 (n - 0x30), unitIndex? 64 (n - 0x3f) with
  | some i, _, _, _, _ => some (.laneCal i)
  | none, some i, _, _, _ => some (.crateTare i)
  | none, none, some i, _, _ => some (.bayPulse i)
  | none, none, none, some i, _ => some (.crateDeposit i)
  | none, none, none, none, some i => some (.species i)
  | none, none, none, none, none =>
    if n = 0x80 then some .tariff
    else if n = 0x81 then some .timing
    else if n = 0x82 then some .protection
    else if n = 0x83 then some .lock
    else none

/-- The selector of a record. -/
def RecordId.selector : RecordId → Byte
  | .laneCal i => BitVec.ofNat 8 (0x00 + unitNumber i)
  | .crateTare i => BitVec.ofNat 8 (0x10 + unitNumber i)
  | .bayPulse i => BitVec.ofNat 8 (0x20 + unitNumber i)
  | .crateDeposit i => BitVec.ofNat 8 (0x30 + unitNumber i)
  | .species i => BitVec.ofNat 8 (0x3f + unitNumber i)
  | .tariff => 0x80#8
  | .timing => 0x81#8
  | .protection => 0x82#8
  | .lock => 0x83#8

/-- The length of a record's contents in bytes. -/
def RecordId.length : RecordId → Nat
  | .laneCal _ => 10
  | .crateTare _ => 2
  | .bayPulse _ => 2
  | .crateDeposit _ => 2
  | .species _ => 12
  | .tariff => 12
  | .timing => 10
  | .protection => 1
  | .lock => 1

/-- The METROLOGY section (08 section 8.1). -/
def RecordId.isMetrology : RecordId → Bool
  | .laneCal _ => true
  | .crateTare _ => true
  | .bayPulse _ => true
  | .crateDeposit _ => false
  | .species _ => false
  | .tariff => false
  | .timing => false
  | .protection => false
  | .lock => false

/-- The TARIFF section (08 section 8.1). -/
def RecordId.isTariff : RecordId → Bool
  | .laneCal _ => false
  | .crateTare _ => false
  | .bayPulse _ => false
  | .crateDeposit _ => true
  | .species _ => true
  | .tariff => true
  | .timing => false
  | .protection => false
  | .lock => false

/-- The cells of a record. -/
def StoreCells.get (c : StoreCells) : RecordId → StoreRecord
  | .laneCal i => c.laneCal[i]
  | .crateTare i => c.crateTare[i]
  | .bayPulse i => c.bayPulse[i]
  | .crateDeposit i => c.crateDeposit[i]
  | .species i => c.species[i]
  | .tariff => c.tariff
  | .timing => c.timing
  | .protection => c.protection
  | .lock => c.lock

/-- The cells with one record replaced. -/
def StoreCells.set (c : StoreCells) (id : RecordId) (r : StoreRecord) : StoreCells :=
  match id with
  | .laneCal i => { c with laneCal := c.laneCal.set i r }
  | .crateTare i => { c with crateTare := c.crateTare.set i r }
  | .bayPulse i => { c with bayPulse := c.bayPulse.set i r }
  | .crateDeposit i => { c with crateDeposit := c.crateDeposit.set i r }
  | .species i => { c with species := c.species.set i r }
  | .tariff => { c with tariff := r }
  | .timing => { c with timing := r }
  | .protection => { c with protection := r }
  | .lock => { c with lock := r }

/-- Every record of the store. -/
def RecordId.all : List RecordId :=
  all8.map .laneCal ++ all8.map .crateTare ++ all4.map .bayPulse ++ all8.map .crateDeposit ++
    (List.finRange 64).map .species ++ [.tariff, .timing, .protection, .lock]

/-- The twenty METROLOGY records in the order of METROLOGY LOCK (R159). -/
def RecordId.metrology : List RecordId := all8.map .laneCal ++ all8.map .crateTare ++ all4.map .bayPulse

/-! ## The live record -/

/-- The record as every block reads it: while the write buffer holds a write to it, its previous contents and status (R155). -/
def Store.live (st : Store) (id : RecordId) : StoreRecord :=
  match st.buffer with
  | none => st.cells.get id
  | some b => if b.target = id then b.previous else st.cells.get id

/-- The live contents, when VALID: the blocks do not use the contents of an INVALID record (R151). -/
def Store.contents? (st : Store) (id : RecordId) : Option (List Byte) :=
  if (st.live id).valid then some (st.live id).contents else none

/-- The metrology lock is set: the live lock word is VALID and reads LOCKED, 5Ah (R152, R159). -/
def Store.locked (st : Store) : Bool := st.contents? .lock == some [0x5A#8]

/-! ## Typed views -/

/-- A lane calibration record. -/
structure LaneCal where
  zero : Int
  span : Nat
  e : Nat
  max : Nat
  deriving DecidableEq, Repr

/-- Layout: Z_cal signed (3); S (3); e (1); Max (3). -/
def laneCalOf (bs : List Byte) : LaneCal :=
  { zero := fieldInt bs 0 3, span := field bs 3 3, e := field bs 6 1, max := field bs 7 3 }

/-- Layout: start price (3); withdrawal price (3); step word (3) with the step in bits 22 to 10 and the step interval in bits 9 to
0; allowance (1); levy (1); restart steps (1). -/
def speciesOf (bs : List Byte) : Snapshot :=
  { start := field bs 0 3, withdrawal := field bs 3 3, step := field bs 6 3 / 1024 % 8192, interval := field bs 6 3 % 1024,
    allowance := field bs 9 1, levy := field bs 10 1, restartSteps := field bs 11 1 }

/-- The tariff record. -/
structure Tariff where
  commission : List Nat
  fee : List Nat
  iceBoat : Nat
  iceBuyer : Nat
  deriving DecidableEq, Repr

/-- Layout: commission, classes 0 to 3 (1 each); fee, classes 0 to 3 (1 each); ice price BOAT (2); ice price BUYER (2). -/
def tariffOf (bs : List Byte) : Tariff :=
  { commission := [field bs 0 1, field bs 1 1, field bs 2 1, field bs 3 1],
    fee := [field bs 4 1, field bs 5 1, field bs 6 1, field bs 7 1], iceBoat := field bs 8 2, iceBuyer := field bs 10 2 }

/-- The commission per mil of a class. -/
def Tariff.commissionOf (t : Tariff) (cls : Nat) : Nat := t.commission.getD cls 0

/-- The buyer fee per mil of a class. -/
def Tariff.feeOf (t : Tariff) (cls : Nat) : Nat := t.fee.getD cls 0

/-- The ice price of an account kind (R136). -/
def Tariff.icePrice (t : Tariff) : AccountKind → Nat
  | .boat => t.iceBoat
  | .buyer => t.iceBuyer

/-- The timing record. -/
structure Timing where
  stability : Nat
  pulse : Nat
  runOn : Nat
  showTime : Nat
  level : Nat
  filter : Nat
  deriving DecidableEq, Repr

/-- Layout: stability timeout (2); pulse timeout (2); run-on window (2); show interval (2); level code (1); filter code (1). -/
def timingOf (bs : List Byte) : Timing :=
  { stability := field bs 0 2, pulse := field bs 2 2, runOn := field bs 4 2, showTime := field bs 6 2, level := field bs 8 1,
    filter := field bs 9 1 }

/-- The defaults while the live timing record is INVALID (R152). -/
def Timing.default : Timing := { stability := 4000, pulse := 2000, runOn := 1500, showTime := 1500, level := 6, filter := 2 }

/-- The calibration of a lane, when VALID. -/
def Store.laneCal? (st : Store) (i : Fin 8) : Option LaneCal := (st.contents? (.laneCal i)).map laneCalOf

/-- The calibration a lane computes with; every entry 0 when the record is INVALID, which no enabled lane meets (R15, R161). -/
def Store.laneCal (st : Store) (i : Fin 8) : LaneCal := (st.laneCal? i).getD { zero := 0, span := 0, e := 0, max := 0 }

/-- The tare of a crate type, when VALID. -/
def Store.tare? (st : Store) (t : Fin 8) : Option Nat := (st.contents? (.crateTare t)).map (field · 0 2)

/-- The deposit of a crate type, when VALID. -/
def Store.deposit? (st : Store) (t : Fin 8) : Option Nat := (st.contents? (.crateDeposit t)).map (field · 0 2)

/-- The deposit of a crate type; 0 when INVALID, where no account holds crates of the type (R156). -/
def Store.deposit (st : Store) (t : Fin 8) : Nat := (st.deposit? t).getD 0

/-- The pulse weight of a bay, when VALID. -/
def Store.pulseWeight? (st : Store) (b : Fin 4) : Option Nat := (st.contents? (.bayPulse b)).map (field · 0 2)

/-- A species record, when VALID. -/
def Store.species? (st : Store) (i : Fin 64) : Option Snapshot := (st.contents? (.species i)).map speciesOf

/-- The tariff record, when VALID. -/
def Store.tariff? (st : Store) : Option Tariff := (st.contents? .tariff).map tariffOf

/-- The timing record, or the defaults (R152). -/
def Store.timing (st : Store) : Timing := ((st.contents? .timing).map timingOf).getD Timing.default

/-- The flags that a load takes from the protection word: TARIFF protect in bit 0, TIMING protect in bit 1; an INVALID word loads
as both clear (R158). -/
def Store.protectionFlags (st : Store) : Bool × Bool :=
  match st.contents? .protection with
  | none => (false, false)
  | some bs => ((bs.headD 0#8).getLsbD 0, (bs.headD 0#8).getLsbD 1)

/-! ## Ranges of a write (R150) -/

/-- A value within a range. -/
def within (lo v hi : Nat) : Bool := decide (lo ≤ v ∧ v ≤ hi)

/-- The divisions a lane may have. -/
def divisionOk (e : Nat) : Bool := [1, 2, 5, 10, 20, 50, 100].contains e

/-- The contents that STORE WRITE accepts for a record (R150); bytes beyond the record's length are not read. -/
def RecordId.contentsOk (id : RecordId) (bs : List Byte) : Bool :=
  match id with
  | .laneCal _ =>
    let c := laneCalOf bs
    within 1 c.span 4194303 && divisionOk c.e && within 1000 c.max 600000 && c.max % c.e == 0 && decide (c.max / c.e ≤ 10000)
  | .crateTare _ => within 0 (field bs 0 2) 20000
  | .bayPulse _ => within 100 (field bs 0 2) 5000
  | .crateDeposit _ => within 0 (field bs 0 2) 10000
  | .species _ =>
    let r := speciesOf bs
    within 1 r.start 99999 && within 1 r.withdrawal 99999 && decide (r.withdrawal ≤ r.start) && within 1 r.step 5000 &&
      within 20 r.interval 1000 && decide (field bs 6 3 < 8388608) && within 0 r.allowance 200 && within 0 r.levy 50 &&
      within 0 r.restartSteps 20
  | .tariff =>
    let t := tariffOf bs
    t.commission.all (within 0 · 80) && t.fee.all (within 0 · 50) && within 0 t.iceBoat 2500 && within 0 t.iceBuyer 2500
  | .timing =>
    let t := timingOf bs
    within 500 t.stability 10000 && within 200 t.pulse 5000 && within 0 t.runOn 3000 && within 500 t.showTime 5000 &&
      within 0 t.level 11 && within 0 t.filter 3
  | .protection => decide (field bs 0 1 < 4)
  | .lock => false

end Sys2Proof.Machine
end

