-- ==== Sys2Proof/Machine/Flags.lean ====
section
/-! DEFINITION. Flag computations: when the part trades, the attention flags and line (R175), the lane flags (R10, R11), the code
values of 11 section 11.3, and the packed flag bytes of the answers. -/

namespace Sys2Proof.Machine

/-! ## Trading and attention -/

/-- The part is in HOLD: supply state HOLD or RECOVERING (09 section 9.1). -/
def Supply.inHold (p : Supply) : Bool := p.state == .hold || p.state == .recovering

/-- The part trades: it is powered, not in HOLD, and no start waits for the release of the reset line. Only then does the port take
frames (R176) and do the blocks take arrivals and expiries (R164, log 7). -/
def Supply.trading (p : Supply) : Bool := !p.absent && !p.inHold && p.starting.isNone

/-- The part trades. -/
def State.trading (s : State) : Bool := s.supply.trading

/-- The seventeen attention flags in the order lanes 1 to 8, bays 1 to 4, rostra A and B, store, LINK_FAULT, restart (R175). -/
def State.attentionFlags (s : State) : List Bool :=
  all8.map (fun i => s.lanes[i].attention) ++ all4.map (fun b => s.ice.bays[b].attention) ++
    [s.rostrumA.attention, s.rostrumB.attention, s.store.attention, s.port.linkFault, s.supply.restartFlag]

/-- The attention line: asserted while any flag is set, and held at its idle level in HOLD, in reset and without supply (R175,
R176). -/
def State.attentionLine (s : State) : Bool := s.trading && s.attentionFlags.any id

/-- Byte 2 of an answer formed now: attention pending, SHORT, CRC_ERR, HOLD-recovered in bits 0 to 3 (R172). -/
def State.summary (s : State) (short crcErr : Bool) : Byte :=
  packBits [s.attentionLine, short, crcErr, s.supply.cause != .none]

/-! ## Data out (R172, R176) -/

/-- An answer as it is shifted out: bytes 0 to 14, and with CRC on byte 15, the CRC-8 of bytes 0 to 14 (R172). -/
def Answer.bytes (a : Answer) (crcOn : Bool) : List Byte :=
  let body := [a.request, a.code, a.summary] ++ padTo 12 a.data
  if crcOn then body ++ [crc8 body] else body

/-- Data out during a frame of `clocked` bytes: the pending answer with the length in force for that frame, byte 0 first, followed
by 0 bytes beyond its end and cut off where the clocking stops (R172); none, the idle level, while the port takes no frame (R176;
log 7 without main supply). -/
def State.dataOut (s : State) (clocked : Nat) : Option (List Byte) :=
  if s.trading then some (padTo clocked (s.port.answer.bytes s.port.frameCrc)) else none

/-! ## Lane flags -/

/-- OVERLOAD is set when W_g is greater than Max + 9e (R10). -/
def overloadAt (cal : LaneCal) (gram : Int) : Bool := decide ((cal.max : Int) + 9 * cal.e < gram)

/-- UNDERLOAD is set when W_g is less than −20e (R10). -/
def underloadAt (cal : LaneCal) (gram : Int) : Bool := decide (gram < -(20 * (cal.e : Int)))

/-- The number of divisions of the stability band (R11). -/
def bandDivisions : Nat → Nat
  | 0 => 1
  | 1 => 2
  | 2 => 4
  | _ => 6

/-- The spread of a history: its largest value less its smallest (R11). -/
def spread : List Int → Int
  | [] => 0
  | w :: ws => ws.foldl max w - ws.foldl min w

/-- The stability test (R11), on a lane whose history, OVERLOAD and UNDERLOAD already stand for the new value. -/
def Lane.isStable (l : Lane) (cal : LaneCal) : Bool :=
  l.state == .active && l.history.length == l.m && !l.overload && !l.underload &&
    decide (spread l.history ≤ (bandDivisions l.band * cal.e : Nat))

/-! ## Code values (11 section 11.3) -/

/-- Answer codes. -/
inductive AnswerCode where
  | ok
  | pending
  | clamped
  | busy
  | wrongState
  | noAccount
  | noLot
  | tableFull
  | duplicate
  | range
  | noCredit
  | cratesShort
  | underMinimum
  | divisionMismatch
  | laneFault
  | notStable
  | writeProtected
  | locked
  | invalidConfig
  | noStock
  | inUse
  | kind
  | suspended
  | mismatch
  | unknownRequest
  deriving DecidableEq, Repr

/-- The value of an answer code. -/
def AnswerCode.byte : AnswerCode → Byte
  | .ok => 0
  | .pending => 1
  | .clamped => 2
  | .busy => 3
  | .wrongState => 4
  | .noAccount => 5
  | .noLot => 6
  | .tableFull => 7
  | .duplicate => 8
  | .range => 9
  | .noCredit => 10
  | .cratesShort => 11
  | .underMinimum => 12
  | .divisionMismatch => 13
  | .laneFault => 14
  | .notStable => 15
  | .writeProtected => 16
  | .locked => 17
  | .invalidConfig => 18
  | .noStock => 19
  | .inUse => 20
  | .kind => 21
  | .suspended => 22
  | .mismatch => 23
  | .unknownRequest => 24

/-- The value of a press answer. -/
def PressAnswer.byte : PressAnswer → Byte
  | .taken => 0
  | .late => 1
  | .notRunning => 2
  | .unassigned => 3
  | .suspended => 4
  | .quantity => 5
  | .partLimit => 6
  | .partTooSmall => 7
  | .tableFull => 8
  | .credit => 9
  | .range => 10

/-- The value of a weighing result. -/
def WeighResult.byte : WeighResult → Byte
  | .taken => 0
  | .underMinimum => 1
  | .limit => 2
  | .notStable => 3
  | .overload => 4
  | .laneFault => 5
  | .laneOff => 6
  | .calChanged => 7
  | .restart => 8

/-- The value of a lot-end result. -/
def LotEnd.byte : LotEnd → Byte
  | .sold => 0
  | .partSold => 1
  | .noSale => 2
  | .stopped => 3

/-- The value of an ice completion code. -/
def IceCode.byte : IceCode → Byte
  | .done => 0
  | .jam => 1
  | .aborted => 2
  | .supply => 3

/-- The value of a lane state. -/
def LaneState.byte : LaneState → Byte
  | .off => 0
  | .settling => 1
  | .active => 2
  | .fault => 3

/-- The value of a fault cause. -/
def FaultCause.byte : FaultCause → Byte
  | .parity => 0
  | .silent => 1

/-- The value of a lot state. -/
def LotState.byte : LotState → Byte
  | .opened => 0
  | .ready => 1
  | .queued => 2
  | .onClock => 3
  | .sold => 4
  | .unsold => 5

/-- The value of a rostrum state. -/
def RostrumState.byte : RostrumState → Byte
  | .idle => 0
  | .waiting => 1
  | .running => 2
  | .held => 3
  | .showing => 4

/-- The value of a bay state. -/
def BayState.byte : BayState → Byte
  | .idle => 0
  | .dispensing => 1
  | .runOn => 2

/-- The value of an account kind. -/
def AccountKind.byte : AccountKind → Byte
  | .boat => 0
  | .buyer => 1

/-- The value of an account state. -/
def AccountState.byte : AccountState → Byte
  | .opened => 0
  | .suspended => 1

/-- The value of a ticket status. -/
def TicketStatus.byte : TicketStatus → Byte
  | .queued => 0
  | .dropped => 1

/-- The value of a restart cause. -/
def RestartCause.byte : RestartCause → Byte
  | .none => 0
  | .powerOnWarm => 1
  | .powerOnCold => 2
  | .resetLine => 3
  | .supplyResume => 4

/-- The value of a store completion result. -/
def StoreResult.byte : StoreResult → Byte
  | .ok => 0
  | .inUse => 1

/-- The value of a store status: VALID 0, INVALID 1. -/
def statusByte (valid : Bool) : Byte := if valid then 0#8 else 1#8

/-- An optional code field: 255 when absent (R177). -/
def optCode {α : Type} (f : α → Byte) : Option α → Byte
  | none => 255#8
  | some a => f a

/-- The CLOSE ACCOUNT reasons (R102). -/
inductive CloseReason where
  | balance
  | reserved
  | crates
  | lots
  | desks
  | ice
  | gate
  deriving DecidableEq, Repr

/-- The value of a CLOSE ACCOUNT reason. -/
def CloseReason.byte : CloseReason → Byte
  | .balance => 0
  | .reserved => 1
  | .crates => 2
  | .lots => 3
  | .desks => 4
  | .ice => 5
  | .gate => 6

/-! ## Flag bytes of the answers (11 section 11.4) -/

/-- The flags byte of LANE READ part 0. -/
def Lane.flagsByte (l : Lane) : Byte :=
  packBits [l.reading.isSome, l.stable, l.overload, l.underload, l.zeroLimit, l.attention, l.weighing.isSome, l.last.isSome]

/-- The presence byte of LOT READ page 0. -/
def Lot.presenceByte (l : Lot) : Byte :=
  packBits [l.division.isSome, l.pending.isSome, l.deductions.isSome, l.net.isSome, l.snapshot.isSome, l.restartPrice.isSome,
    l.override.isSome, l.sale.isSome]

/-- The lane flags byte of STATUS: bit n−1 for lane n. -/
def State.laneFlagsByte (s : State) : Byte := packBits (all8.map fun i => s.lanes[i].attention)

/-- The second flags byte of STATUS: bays in bits 0 to 3, rostra A and B, the store, LINK_FAULT. -/
def State.blockFlagsByte (s : State) : Byte :=
  packBits (all4.map (fun b => s.ice.bays[b].attention) ++
    [s.rostrumA.attention, s.rostrumB.attention, s.store.attention, s.port.linkFault])

end Sys2Proof.Machine
end

