-- ==== Sys2Proof/Machine/Ops.lean ====
section
/-! DEFINITION. The named operations over the state that the blocks share: reading and changing one record, the lot table's map, the
account table's map and its four posting operations (R105 to R108), the crate pool's three committed operations (R119), and the
port's handling of one request (R171, R172). -/

namespace Sys2Proof.Machine

/-- What a command answers with: every command of this part completes. -/
abbrev Outcome := Host.Outcome State Fault Refusal

/-! ## One record of a block -/

/-- The record of a lane. -/
def State.lane (s : State) (i : Fin 8) : Lane := s.lanes[i]

/-- Changes the record of one lane. -/
def State.modLane (s : State) (i : Fin 8) (f : Lane → Lane) : State := { s with lanes := s.lanes.set i (f s.lanes[i]) }

/-- The record of a rostrum. -/
def State.rostrum (s : State) : RostrumId → Rostrum
  | .a => s.rostrumA
  | .b => s.rostrumB

/-- Changes the record of one rostrum. -/
def State.modRostrum (s : State) (r : RostrumId) (f : Rostrum → Rostrum) : State :=
  match r with
  | .a => { s with rostrumA := f s.rostrumA }
  | .b => { s with rostrumB := f s.rostrumB }

/-- The record of a bay. -/
def State.bay (s : State) (b : Fin 4) : Bay := s.ice.bays[b]

/-- Changes the record of one bay. -/
def State.modBay (s : State) (b : Fin 4) (f : Bay → Bay) : State :=
  { s with ice := { s.ice with bays := s.ice.bays.set b (f s.ice.bays[b]) } }

/-- The figures of a crate type. -/
def State.crateType (s : State) (t : Fin 8) : CrateType := s.crates.types[t]

/-- Changes the figures of one crate type. -/
def State.modCrateType (s : State) (t : Fin 8) (f : CrateType → CrateType) : State :=
  { s with crates := { s.crates with types := s.crates.types.set t (f s.crates.types[t]) } }

/-- The record of a gate. -/
def State.gate (s : State) (g : Fin 2) : Gate := s.crates.gates[g]

/-- Changes the record of one gate. -/
def State.modGate (s : State) (g : Fin 2) (f : Gate → Gate) : State :=
  { s with crates := { s.crates with gates := s.crates.gates.set g (f s.crates.gates[g]) } }

/-- Changes the configuration store. -/
def State.modStore (s : State) (f : Store → Store) : State := { s with store := f s.store }

/-- Changes the supply monitor. -/
def State.modSupply (s : State) (f : Supply → Supply) : State := { s with supply := f s.supply }

/-- Changes the request port. -/
def State.modPort (s : State) (f : Port → Port) : State := { s with port := f s.port }

/-- Changes the hall counters. -/
def State.modHall (s : State) (f : HallCounters → HallCounters) : State :=
  { s with accountTable := { s.accountTable with hall := f s.accountTable.hall } }

/-- A count that grows by 1 and holds at a top. -/
def countUp (top n : Nat) : Nat := min (n + 1) top

/-- Changes one entry of eight. -/
def bump (v : Vector Nat 8) (t : Fin 8) (f : Nat → Nat) : Vector Nat 8 := v.set t (f v[t])

/-! ## The lot table -/

/-- Keys are ordered by number first and then by part index (R45). -/
def Key.before (a b : Key) : Bool := decide (a.number < b.number ∨ (a.number = b.number ∧ a.part < b.part))

/-- The living lot with a key. -/
def State.lot? (s : State) (key : Key) : Option Lot := s.lotTable.lots.find? (·.key == key)

/-- Changes the record of one lot. -/
def State.modLot (s : State) (key : Key) (f : Lot → Lot) : State :=
  { s with lotTable := { s.lotTable with lots := s.lotTable.lots.map fun l => if l.key = key then f l else l } }

/-- A lot put in its place in key order. -/
def insertLot (new : Lot) : List Lot → List Lot
  | [] => [new]
  | l :: ls => if new.key.before l.key then new :: l :: ls else l :: insertLot new ls

/-- Adds a lot to the table. -/
def State.addLot (s : State) (new : Lot) : State :=
  { s with lotTable := { s.lotTable with lots := insertLot new s.lotTable.lots } }

/-- Removes a lot from the table. -/
def State.removeLot (s : State) (key : Key) : State :=
  { s with lotTable := { s.lotTable with lots := s.lotTable.lots.filter fun l => l.key != key } }

/-! ## The account table -/

/-- Available credit: balance less reserved plus limit (05 section 5.1). -/
def Account.available (a : Account) : Int := a.balance - a.reserved + a.limit

/-- Free crates of a type: holding less committed (R119). -/
def Account.free (a : Account) (t : Fin 8) : Nat := a.holding[t] - a.committed[t]

/-- The record of an account. -/
def State.account? (s : State) (number : Nat) : Option Account := s.accountTable.accounts.find? (·.number == number)

/-- Changes the record of one account. -/
def State.modAccount (s : State) (number : Nat) (f : Account → Account) : State :=
  { s with accountTable :=
      { s.accountTable with accounts := s.accountTable.accounts.map fun a => if a.number = number then f a else a } }

/-- A record put in its place in number order (R95). -/
def insertAccount (new : Account) : List Account → List Account
  | [] => [new]
  | a :: as => if new.number < a.number then new :: a :: as else a :: insertAccount new as

/-- The available credit of an account; 0 where there is none. -/
def State.available (s : State) (number : Nat) : Int := ((s.account? number).map Account.available).getD 0

/-- A change of a balance, and of the balance sum by the same amount within the same event (R95). -/
def State.post (s : State) (number : Nat) (delta : Int) : State :=
  match s.account? number with
  | none => s
  | some _ =>
    let s1 := s.modAccount number fun a => { a with balance := a.balance + delta }
    { s1 with accountTable := { s1.accountTable with balanceSum := s1.accountTable.balanceSum + delta } }

/-- A debit is taken only within the available credit (R105). -/
def State.canDebit (s : State) (number : Nat) (amount : Nat) : Bool := decide ((amount : Int) ≤ s.available number)

/-- A debit lowers a balance (R105). -/
def State.debit (s : State) (number : Nat) (amount : Nat) : State := s.post number (-(amount : Int))

/-- A credit is taken only when the balance after it is no greater than 2,000,000,000 (R106). -/
def Account.canCredit (a : Account) (amount : Nat) : Bool := decide (a.balance + amount ≤ Config.maxBalance)

/-- A credit raises a balance (R106). -/
def State.credit (s : State) (number : Nat) (amount : Nat) : State := s.post number amount

/-- A reserve raises an account's reserved and leaves its balance (R107). -/
def State.reserve (s : State) (number : Nat) (amount : Nat) : State :=
  s.modAccount number fun a => { a with reserved := a.reserved + amount }

/-- A release lowers the reserved by R and, in the same step, the balance by the charge (R108). -/
def State.release (s : State) (number : Nat) (reserved charge : Nat) : State :=
  (s.modAccount number fun a => { a with reserved := a.reserved - reserved }).post number (-(charge : Int))

/-- Changes a live-lot count (R112). -/
def State.modLiveLots (s : State) (boat : Nat) (f : Nat → Nat) : State :=
  s.modAccount boat fun a => { a with liveLots := f a.liveLots }

/-- Changes a desk count (R112). -/
def State.modDeskCount (s : State) (buyer : Nat) (f : Nat → Nat) : State :=
  s.modAccount buyer fun a => { a with deskCount := f a.deskCount }

/-- Changes a holding. -/
def State.modHolding (s : State) (number : Nat) (t : Fin 8) (f : Nat → Nat) : State :=
  s.modAccount number fun a => { a with holding := bump a.holding t f }

/-! ## The crate pool's committed counts (R119) -/

/-- Commit: raises a boat's committed count of a type. -/
def State.commit (s : State) (boat : Nat) (t : Fin 8) (c : Nat) : State :=
  s.modAccount boat fun a => { a with committed := bump a.committed t (· + c) }

/-- Uncommit: lowers a boat's committed count of a type. -/
def State.uncommit (s : State) (boat : Nat) (t : Fin 8) (c : Nat) : State :=
  s.modAccount boat fun a => { a with committed := bump a.committed t (· - c) }

/-- Sale move: k crates leave the boat's holding and committed count together, and enter the buyer's holding. -/
def State.saleMove (s : State) (boat buyer : Nat) (t : Fin 8) (k : Nat) : State :=
  (s.modAccount boat fun a =>
      { a with holding := bump a.holding t (· - k), committed := bump a.committed t (· - k) }).modHolding buyer t (· + k)

/-- A crate that becomes a stray enters the yard, the fleet and the strays count (R123, R124). -/
def CrateType.addStray (c : CrateType) : CrateType :=
  { yard := c.yard + 1, fleet := c.fleet + 1, strays := countUp Config.maxCount16 c.strays }

/-! ## One request at the port -/

/-- What an owning block answers: its code and its data. -/
structure Reply where
  code : AnswerCode
  data : List Byte := []
  deriving DecidableEq, Repr

/-- A refused request: its records stay, and the answer carries its code with no data (log 12). -/
def refuse (s : State) (code : AnswerCode) : State × Reply := (s, { code })

/-- A taken request answered OK. -/
def accept (s : State) (data : List Byte := []) : State × Reply := (s, { code := .ok, data })

/-- The answer formed in a state (R172). -/
def State.formAnswer (s : State) (request code : Byte) (short crcErr : Bool) (data : List Byte) : Answer :=
  { request, code, summary := s.summary short crcErr, data := padTo 12 data }

/-- The end of a frame: the pending answer is replaced, and the setting that stood when the frame was judged holds for the next
frame (R172, R174): a PORT SET in frame n counts from frame n+2 on. -/
def State.endFrame (s : State) (setting : Bool) (a : Answer) : State :=
  s.modPort fun p => { p with answer := a, frameCrc := setting }

/-- The end of a request taken in `s` whose owner left `t`: its answer, formed after the owner's effect (log 5), becomes the pending
answer (R172). -/
def State.replied (s t : State) (request : Byte) (code : AnswerCode) (data : List Byte := []) : State :=
  t.endFrame s.port.crcSetting (t.formAnswer request code.byte false false data)

/-- One request frame: taken only while the part trades (R176). The owner judges it, and its code and data become the pending
answer. -/
def request (code : Byte) (owner : State → State × Reply) (s : State) : State :=
  if s.trading then s.replied (owner s).1 code (owner s).2.code (owner s).2.data else s

/-- An arrival, expiry or completion at a block: discarded unless the part trades (R164, log 7). -/
def event (f : State → State) (s : State) : State := if s.trading then f s else s

/-- A timer has run out: it is not stopped, and no time is left on it. Only then does its expiry happen: one that is stopped or was
restarted by an event taken first does not expire (R2, R56, R140, R162; log 3). -/
def runOut (t : Option Nat) : Bool := t == some 0

/-- A lot key as an answer carries it. -/
def Key.bytes (k : Key) : List Byte := be 2 k.number ++ be 1 k.part

/-- An optional lot key: 0 when absent (R177). -/
def keyBytes (k : Option Key) : List Byte := (k.map Key.bytes).getD (be 3 0)

end Sys2Proof.Machine
end

