-- ==== Sys2Proof/Machine/Clock.lean ====
section
/-! DEFINITION. The passing of one millisecond (log 2). -/

namespace Sys2Proof.Machine

/-- One millisecond of a timer: a running timer has one less left, down to 0; a stopped one stays stopped. -/
def tickTimer (t : Option Nat) : Option Nat := t.map (· - 1)

/-- One millisecond of a lane's silence and stability timers. -/
def Lane.tick (l : Lane) : Lane :=
  { l with silence := tickTimer l.silence, weighing := l.weighing.map fun p => { p with timer := p.timer - 1 } }

/-- One millisecond of a rostrum's step and show timers. -/
def Rostrum.tick (x : Rostrum) : Rostrum := { x with stepTimer := tickTimer x.stepTimer, showTimer := tickTimer x.showTimer }

/-- One millisecond of a bay's pulse and run-on timers. -/
def Bay.tick (x : Bay) : Bay := { x with pulseTimer := tickTimer x.pulseTimer, runOnTimer := tickTimer x.runOnTimer }

/-- One millisecond of the supply monitor's timers. -/
def Supply.tick (p : Supply) : Supply :=
  { p with persistence := tickTimer p.persistence, recovery := tickTimer p.recovery, suspend := tickTimer p.suspend }

/-- One millisecond of the part: every running timer has one less left. The expiries are commands of the table, which act once
their timer has run out (log 2). -/
def State.tick (s : State) : State :=
  let s1 := all8.foldl (fun s i => s.modLane i Lane.tick) s
  let s2 := (s1.modRostrum .a Rostrum.tick).modRostrum .b Rostrum.tick
  (all4.foldl (fun s b => s.modBay b Bay.tick) s2).modSupply Supply.tick

end Sys2Proof.Machine
end

