-- ==== Sys2Proof/Machine/Lanes.lean ====
section
/-! DEFINITION. Chapter 1, weigh lanes (R1 to R24): samples, filter, flags, zero, settings, the pending weighing as the lane holds it,
ticket lines, and LANE SET, LANE ZERO, LANE READ. -/

namespace Sys2Proof.Machine

/-! ## State entries -/

/-- What every entry into SETTLING does (R5); the causes differ in zero, ZERO_LIMIT and silence timer, which the callers set. -/
def Lane.enterSettling (l : Lane) : Lane :=
  { l with
    state := .settling, window := [], history := [], reading := none, samples := 0, stable := false, overload := false,
    underload := false, badRun := 0, goodRun := 0, cause := none }

/-- Entry into SETTLING with Z set to Z_cal, ZERO_LIMIT cleared and the silence timer started (R5, first three rows). -/
def Lane.settleAtCal (l : Lane) (cal : LaneCal) : Lane :=
  { l.enterSettling with zero := cal.zero, tracking := 0, zeroLimit := false, silence := some Config.silenceTime }

/-- Entry into OFF (R15): Z, ZERO_LIMIT, the last result and the ticket queue keep their values. The samples since settle start, of
which R15 says nothing, keep theirs: the model's choice of log 16. -/
def Lane.enterOff (l : Lane) : Lane :=
  { l with
    state := .off, window := [], history := [], reading := none, stable := false, overload := false, underload := false,
    badRun := 0, goodRun := 0, cause := none, silence := none }

/-- Entry into FAULT, steps 2 to 5 (R3); the samples since settle start, which R3 does not name, keep their value (log 16). -/
def Lane.enterFault (l : Lane) (cause : FaultCause) : Lane :=
  { l with
    state := .fault, cause := some cause, window := [], history := [], reading := none, stable := false, overload := false,
    underload := false, goodRun := 0 }

/-! ## The lot table's side of a weighing -/

/-- A weighing that ends other than TAKEN: the lot loses its pending part and the boat's crates are released (R32). -/
def State.releaseWeighing (s : State) (key : Key) (c : Nat) : State :=
  match s.lot? key with
  | none => s
  | some lot => (s.modLot key fun l => { l with pending := none }).uncommit lot.boat lot.crateType c

/-- A weighing entered into its lot (R31): the entry is appended, n and G grow, a lot without a division takes the lane's, and the
pending part goes. -/
def Lot.enter (l : Lot) (w : Weighing) (e : Nat) : Lot :=
  { l with
    weighings := l.weighings ++ [w], n := l.n + w.crates, gross := some (l.gross.getD 0 + w.gross),
    division := some (l.division.getD e), pending := none }

/-! ## Endings of a pending weighing (R19) -/

/-- Every ending: the lane removes the pending weighing, the lot table releases the crates of a result other than TAKEN, the lane
replaces its last result and sets its attention flag (R19). -/
def State.endWeighing (s : State) (i : Fin 8) (result : WeighResult) (gross : Option Int) (number : Option Nat)
    (ticket : Option TicketStatus) : State :=
  match (s.lane i).weighing with
  | none => s
  | some p =>
    let s1 := if result = .taken then s else s.releaseWeighing p.key p.crates
    s1.modLane i fun l =>
      { l with weighing := none, last := some { result, gross, key := p.key, number, ticket }, attention := true }

/-- An ending that carries neither gross nor number and forms no ticket line (R18). -/
def State.failWeighing (s : State) (i : Fin 8) (result : WeighResult) : State := s.endWeighing i result none none none

/-- The ticket line of a taken weighing: 31 ASCII characters (R20, 11 section 11.6). -/
def ticketLine (day : Nat) (lane : Fin 8) (key : Key) (number crates e grams : Nat) : List Byte :=
  decDigits 3 day ++ [32#8] ++ decDigits 1 (unitNumber lane) ++ [32#8] ++ decDigits 4 key.number ++ [47#8] ++
    decDigits 1 key.part ++ [32#8] ++ decDigits 2 number ++ [32#8] ++ decDigits 2 crates ++ [32#8] ++
    padLeft 7 (kilogramText e grams) ++ [32#8, 107#8, 103#8, 13#8, 10#8]

/-- A pending weighing completes on a stable value whose legal weight is `legal` (R17, R31): UNDER_MINIMUM, LIMIT, or TAKEN with the
weighing entered into the lot and a ticket line formed, or dropped when the queue holds 4 (R20). -/
def State.completeWeighing (s : State) (i : Fin 8) (legal : Int) : State :=
  match (s.lane i).weighing with
  | none => s
  | some p =>
    let e := (s.store.laneCal i).e
    let lot := s.lot? p.key
    let gross := (lot.bind (·.gross)).getD 0
    if legal < 20 * (e : Int) then s.endWeighing i .underMinimum (some legal) none none
    else if (Config.maxGross : Int) < gross + legal then s.endWeighing i .limit (some legal) none none
    else
      let number := (lot.map (·.weighings.length)).getD 0 + 1
      let full := decide (Config.maxTickets ≤ (s.lane i).tickets.length)
      let line := ticketLine s.lotTable.day i p.key number p.crates e legal.toNat
      let s1 := s.modLot p.key fun l => l.enter { lane := unitNumber i, gross := legal.toNat, crates := p.crates } e
      let s2 := s1.endWeighing i .taken (some legal) (some number) (some (if full then .dropped else .queued))
      if full then s2 else s2.modLane i fun l => { l with tickets := l.tickets ++ [line] }

/-! ## The filter and the filtered value -/

/-- The largest power of two not greater than the number of samples present; a window holds at most 16 (R8). -/
def windowPower (n : Nat) : Nat := if 16 ≤ n then 16 else if 8 ≤ n then 8 else if 4 ≤ n then 4 else if 2 ≤ n then 2 else 1

/-- The filtered value of a window, oldest count first: the newest p samples, their sum plus p/2, divided by p and rounded by floor
(R8). -/
def filteredOf (window : List Int) : Int :=
  let p := windowPower window.length
  ((lastN p window).sum + (p / 2 : Nat)) / (p : Int)

/-- Counts converted to grams: times S, divided by 65,536, half away from zero (R9). -/
def gramsOf (cal : LaneCal) (counts : Int) : Int := roundHalfAway (counts * cal.span) 65536

/-- A gram value rounded to the nearest multiple of the division, half away from zero (R9). -/
def legalOf (cal : LaneCal) (gram : Int) : Int := roundHalfAway gram cal.e * cal.e

/-- The reading that a filtered value gives (R9). -/
def Lane.readingOf (l : Lane) (cal : LaneCal) (f : Int) : Reading :=
  let gram := gramsOf cal (f - l.zero)
  { filtered := f, gram, legal := legalOf cal gram }

/-- Steps 1 to 3 of a new filtered value (R12): F, W_g, W_e and tracking offset; OVERLOAD and UNDERLOAD; history and STABLE. -/
def Lane.newValue (l : Lane) (cal : LaneCal) : Lane :=
  let r := l.readingOf cal (filteredOf l.window)
  let l1 : Lane :=
    { l with
      reading := some r, tracking := gramsOf cal (l.zero - cal.zero), overload := overloadAt cal r.gram,
      underload := underloadAt cal r.gram, history := lastN l.m (l.history ++ [r.gram]) }
  { l1 with stable := l1.isStable cal }

/-- Zero tracking (R13): on a stable value within half a division of zero, Z becomes F when the offset stays within Max/50, and
ZERO_LIMIT is set when it would not. -/
def Lane.trackZero (l : Lane) (cal : LaneCal) : Lane :=
  match l.reading with
  | none => l
  | some r =>
    if l.stable && decide (2 * r.gram.natAbs ≤ cal.e) then
      let offset := gramsOf cal (r.filtered - cal.zero)
      if 50 * offset.natAbs ≤ cal.max then { l with zero := r.filtered, tracking := offset } else { l with zeroLimit := true }
    else l

/-- An accepted sample enters the window; the 32nd of a settling makes the lane ACTIVE before the value is processed (R6). -/
def Lane.accept (l : Lane) (count : Int) : Lane :=
  let window := lastN (2 ^ l.k) (l.window ++ [count])
  if l.state = .settling then
    { l with window, samples := l.samples + 1, state := if 32 ≤ l.samples + 1 then .active else .settling }
  else { l with window }

/-- An accepted sample and the processing of its filtered value, steps 1 to 5 (R6, R12). -/
def State.acceptSample (s : State) (i : Fin 8) (count : Int) : State :=
  let cal := s.store.laneCal i
  let held := (s.lane i).weighing.isSome
  let s1 := s.modLane i fun l => (l.accept count).newValue cal
  if held then
    if (s1.lane i).stable then s1.completeWeighing i (((s1.lane i).reading.map (·.legal)).getD 0) else s1
  else s1.modLane i fun l => l.trackZero cal

/-- An overrange frame: OVERLOAD is set, STABLE cleared and the history emptied (R7). -/
def Lane.overrangeFrame (l : Lane) : Lane := { l with overload := true, stable := false, history := [] }

/-! ## Frames and the silence timer -/

/-- A lane enters FAULT: a pending weighing ends first (R3). -/
def State.laneFault (s : State) (i : Fin 8) (cause : FaultCause) : State :=
  (s.failWeighing i .laneFault).modLane i fun l => l.enterFault cause

/-- A frame with bad parity (R1): in FAULT the good run falls to 0; elsewhere the eighth in a row sends the lane to FAULT. -/
def State.badSample (s : State) (i : Fin 8) : State :=
  match (s.lane i).state with
  | .off => s
  | .fault => s.modLane i fun l => { l with badRun := countUp 8 l.badRun, goodRun := 0 }
  | .settling =>
    let s1 := s.modLane i fun l => { l with badRun := countUp 8 l.badRun }
    if 8 ≤ (s1.lane i).badRun then s1.laneFault i .parity else s1
  | .active =>
    let s1 := s.modLane i fun l => { l with badRun := countUp 8 l.badRun }
    if 8 ≤ (s1.lane i).badRun then s1.laneFault i .parity else s1

/-- A good frame in FAULT: the sixteenth in a row ends the fault, with Z kept (R4). -/
def Lane.recover (l : Lane) : Lane := if 16 ≤ l.goodRun + 1 then l.enterSettling else { l with goodRun := l.goodRun + 1 }

/-- A frame with good parity (R1): the bad run falls to 0 and the silence timer restarts. -/
def State.goodSample (s : State) (i : Fin 8) (overFlag : Bool) (count : Int) : State :=
  let s1 := s.modLane i fun l => { l with badRun := 0, silence := some Config.silenceTime }
  match (s.lane i).state with
  | .off => s
  | .fault => s1.modLane i Lane.recover
  | .settling => if overFlag then s1.modLane i Lane.overrangeFrame else s1.acceptSample i count
  | .active => if overFlag then s1.modLane i Lane.overrangeFrame else s1.acceptSample i count

/-- SAMPLE_FRAME (R1). -/
def execSampleFrame (lane : Fin 8) (status : Byte) (count : Count24) (s : State) : Outcome :=
  .next (event (fun s => if evenParity status count then s.goodSample lane (overrange status) count.toInt else s.badSample lane) s)

/-- The silence timer of a lane expires (R2). -/
def State.silenceExpiry (s : State) (i : Fin 8) : State :=
  if !runOut (s.lane i).silence then s
  else
    match (s.lane i).state with
    | .off => s
    | .fault =>
      s.modLane i fun l => { l with cause := some .silent, goodRun := 0, silence := some Config.silenceTime }
    | .settling => (s.laneFault i .silent).modLane i fun l => { l with silence := some Config.silenceTime }
    | .active => (s.laneFault i .silent).modLane i fun l => { l with silence := some Config.silenceTime }

/-- SILENCE_TIMER_EXPIRY (R2). -/
def execSilenceTimerExpiry (lane : Fin 8) (s : State) : Outcome := .next (event (·.silenceExpiry lane) s)

/-- The stability timer of a pending weighing expires: the weighing ends OVERLOAD or NOT_STABLE; with none pending nothing happens
(R18). -/
def State.stabilityExpiry (s : State) (i : Fin 8) : State :=
  if !runOut ((s.lane i).weighing.map (·.timer)) then s
  else s.failWeighing i (if (s.lane i).overload then .overload else .notStable)

/-- STABILITY_TIMER_EXPIRY (R18). -/
def execStabilityTimerExpiry (lane : Fin 8) (s : State) : Outcome := .next (event (·.stabilityExpiry lane) s)

/-- TICKET_LINE_SENT (R20): the oldest line leaves the queue. -/
def execTicketLineSent (lane : Fin 8) (s : State) : Outcome :=
  .next (event (·.modLane lane fun l => { l with tickets := l.tickets.drop 1 }) s)

/-! ## Requests -/

/-- Stores a lane's settings. -/
def Lane.withSettings (l : Lane) (enabled : Bool) (k band m : Nat) : Lane := { l with enabled, k, band, m }

/-- LANE SET on a lane in SETTLING or ACTIVE that stays enabled (R15). -/
def laneResettle (i : Fin 8) (k band m : Nat) (s : State) : State × Reply :=
  let l := s.lane i
  if l.k = k ∧ l.band = band ∧ l.m = m then accept s
  else if l.weighing.isSome then refuse s .busy
  else accept (s.modLane i fun l => (l.withSettings true k band m).enterSettling)

/-- The rows of R15 for a lane in range. -/
def laneSetOn (i : Fin 8) (enable : Bool) (k band m : Nat) (s : State) : State × Reply :=
  match (s.lane i).state, enable with
  | .off, true =>
    match s.store.laneCal? i with
    | none => refuse s .invalidConfig
    | some cal => accept (s.modLane i fun l => (l.withSettings true k band m).settleAtCal cal)
  | .off, false => accept (s.modLane i fun l => l.withSettings false k band m)
  | .settling, true => laneResettle i k band m s
  | .active, true => laneResettle i k band m s
  | .fault, true => accept (s.modLane i fun l => l.withSettings true k band m)
  | .settling, false => accept ((s.failWeighing i .laneOff).modLane i fun l => (l.withSettings false k band m).enterOff)
  | .active, false => accept ((s.failWeighing i .laneOff).modLane i fun l => (l.withSettings false k band m).enterOff)
  | .fault, false => accept ((s.failWeighing i .laneOff).modLane i fun l => (l.withSettings false k band m).enterOff)

/-- LANE SET as its owner judges it (R15). -/
def laneSet (lane enable k band m : Nat) (s : State) : State × Reply :=
  match unitIndex? 8 lane with
  | none => refuse s .range
  | some i =>
    if 1 < enable ∨ 4 < k ∨ 3 < band ∨ m < 2 ∨ 15 < m then refuse s .range else laneSetOn i (enable == 1) k band m s

/-- LANE_SET (R15). -/
def execLaneSet (lane enable k band m : Nat) (s : State) : Outcome := .next (request 0x10 (laneSet lane enable k band m) s)

/-- LANE ZERO as its owner judges it (R14). -/
def laneZero (lane : Nat) (s : State) : State × Reply :=
  match unitIndex? 8 lane with
  | none => refuse s .range
  | some i =>
    let l := s.lane i
    let cal := s.store.laneCal i
    if l.state = .off then refuse s .wrongState
    else if l.weighing.isSome then refuse s .busy
    else if !l.stable then refuse s .notStable
    else
      match l.reading with
      | none => refuse s .notStable
      | some r =>
        let offset := gramsOf cal (r.filtered - cal.zero)
        if cal.max < 50 * offset.natAbs then refuse s .range
        else
          accept
            (s.modLane i fun l =>
              { l with zero := r.filtered, tracking := offset, zeroLimit := false, history := [], stable := false })
            (beInt 2 offset)

/-- LANE_ZERO (R14). -/
def execLaneZero (lane : Nat) (s : State) : Outcome := .next (request 0x11 (laneZero lane) s)

/-- The data of a part of LANE READ (11 section 11.4). -/
def Lane.readPart (l : Lane) (cal : Option LaneCal) : Nat → List Byte
  | 0 =>
    [l.state.byte, optCode FaultCause.byte l.cause, flagByte l.enabled] ++ be 1 l.k ++ be 1 l.band ++ be 1 l.m ++
      be 1 ((cal.map (·.e)).getD 0) ++ be 3 ((cal.map (·.max)).getD 0) ++ be 1 l.samples ++ [l.flagsByte]
  | 1 =>
    beInt 3 ((l.reading.map (·.filtered)).getD 0) ++ beInt 4 ((l.reading.map (·.gram)).getD 0) ++
      beInt 4 ((l.reading.map (·.legal)).getD 0) ++ be 1 l.tickets.length
  | 2 =>
    beInt 2 l.tracking ++ be 1 l.badRun ++ be 1 l.goodRun ++ keyBytes (l.weighing.map (·.key)) ++
      be 1 ((l.weighing.map (·.crates)).getD 0) ++ be 2 ((l.weighing.map (·.timer)).getD 0)
  | _ =>
    [optCode (fun x : LastWeighing => x.result.byte) l.last] ++ beInt 3 ((l.last.bind (·.gross)).getD 0) ++
      keyBytes (l.last.map (·.key)) ++ be 1 ((l.last.bind (·.number)).getD 0) ++
      [optCode TicketStatus.byte (l.last.bind (·.ticket))]

/-- LANE READ as its owner judges it (R21): the lane as it stands, whose attention flag the read clears. -/
def laneRead (lane partNo : Nat) (s : State) : State × Reply :=
  match unitIndex? 8 lane with
  | none => refuse s .range
  | some i =>
    if 3 < partNo then refuse s .range
    else accept (s.modLane i fun l => { l with attention := false }) ((s.lane i).readPart (s.store.laneCal? i) partNo)

/-- LANE_READ (R21). -/
def execLaneRead (lane partNo : Nat) (s : State) : Outcome := .next (request 0x12 (laneRead lane partNo) s)

/-! ## Calibration, HOLD, starts, RECORDS CLEAR -/

/-- The completion of a write of a lane's calibration record (R22). -/
def State.calibrationChange (s : State) (i : Fin 8) : State :=
  if (s.lane i).state = .off then s
  else
    let s1 := s.failWeighing i .calChanged
    s1.modLane i fun l => l.settleAtCal (s1.store.laneCal i)

/-- A lane at the entry into HOLD (R23). The assertion of the reset line does the same: it ends a pending weighing (R23, R166); that it
already stops the silence timer and empties the ticket queue is the model's choice of log 21. -/
def State.laneHold (s : State) (i : Fin 8) : State :=
  (s.failWeighing i .restart).modLane i fun l => { l with tickets := [], silence := none }

/-- A lane at a start (R23; log 16 for the samples since settle start of a disabled lane). -/
def Lane.start (l : Lane) (cal : LaneCal) : Lane :=
  if l.enabled then { l with weighing := none, tickets := [] }.settleAtCal cal
  else { l.enterOff with weighing := none, tickets := [], zero := cal.zero, tracking := 0, zeroLimit := false, samples := 0 }

/-- A lane at RECORDS CLEAR (R24): default settings, OFF; Z keeps its value, and so do the samples since settle start (log 16). -/
def Lane.clear (l : Lane) : Lane :=
  { (l.withSettings false 2 1 5).enterOff with tickets := [], last := none, attention := false }

/-- The volatile fields of a lane are lost with the main supply (R23, POWER_ON_WARM column; log 23). -/
def Lane.lose (l : Lane) : Lane := Lane.fresh l.enabled l.k l.band l.m

end Sys2Proof.Machine
end

