-- ==== Sys2Proof/Machine/Rostra.lean ====
section
/-! DEFINITION. Chapter 3, the sale clocks, less the press (R49 to R60, R71 to R77): queues, offers, clock frames, rostrum requests,
desks and reading. -/

namespace Sys2Proof.Machine

/-! ## Frames on the rostrum line (R72, R73, 11 section 11.6) -/

/-- The clock frame that shows a rostrum as it stands (R72): the last result only in SHOWING. -/
def State.clockFrame (s : State) (r : RostrumId) : ClockFrame :=
  let x := s.rostrum r
  { state := x.state
    lot := x.offer.map fun o => (o.key, ((s.lot? o.key).map (·.n)).getD 0)
    price := x.offer.map fun o => (o.price, o.j)
    result := if x.state = .showing then x.last else none }

/-- A new clock frame replaces one that still waits, in its place in the sending order; else it is the newest frame (R72). With an
earlier clock frame still waiting at a winning press, the SHOWING frame so takes a place before the answer TAKEN: the model's choice
of log 30 between R72's place and R73's order. -/
def putClock (f : ClockFrame) : List OutFrame → List OutFrame
  | [] => [.clock f]
  | .clock _ :: rest => .clock f :: rest
  | .answer a :: rest => .answer a :: putClock f rest

/-- On an idle line the transmission of the frame first in the sending order begins (R72; the model's choice of log 8: at once). -/
def Rostrum.feedLine (x : Rostrum) : Rostrum :=
  match x.sending, x.out with
  | none, f :: rest => { x with sending := some f, out := rest }
  | _, _ => x

/-- A clock frame that the rostrum has formed joins the frames to be sent (R72). -/
def Rostrum.showClock (x : Rostrum) (f : ClockFrame) : Rostrum := Rostrum.feedLine { x with out := putClock f x.out }

/-- Forms a clock frame of the rostrum as it stands (R72). -/
def State.formClock (s : State) (r : RostrumId) : State := s.modRostrum r (·.showClock (s.clockFrame r))

/-- A desk answer. -/
def OutFrame.isAnswer : OutFrame → Bool
  | .clock _ => false
  | .answer _ => true

/-- The length of the desk answer queue: an answer leaves it when its last byte has been sent, so the one in transmission counts
(R73). -/
def Rostrum.answersQueued (x : Rostrum) : Nat := ((x.sending.toList ++ x.out).filter (·.isAnswer)).length

/-- Queues a desk answer, or counts it dropped when 16 are queued (R73). -/
def Rostrum.answer (x : Rostrum) (a : DeskAnswer) : Rostrum :=
  if Config.maxAnswers ≤ x.answersQueued then { x with dropped := countUp Config.maxCount16 x.dropped }
  else Rostrum.feedLine { x with out := x.out ++ [.answer a] }

/-- The last byte of the frame in transmission has been sent, and the next one begins (R72, R73). -/
def Rostrum.frameSent (x : Rostrum) : Rostrum := Rostrum.feedLine { x with sending := none }

/-- No frame in transmission and none waiting: the line at its idle level (R72, R75). -/
def Rostrum.silenceLine (x : Rostrum) : Rostrum := { x with sending := none, out := [] }

/-- The bytes of a clock frame (11 section 11.6). An absent lot, price, result price or winning desk is sent as 0: the model's
choice of log 31. -/
def ClockFrame.bytes (f : ClockFrame) : List Byte :=
  let body :=
    [0x01#8, f.state.byte] ++ keyBytes (f.lot.map (·.1)) ++ be 1 ((f.lot.map (·.2)).getD 0) ++
      be 3 ((f.price.map (·.1)).getD 0) ++ be 3 ((f.price.map (·.2)).getD 0) ++
      [optCode (fun x : LastLotEnd => x.code.byte) f.result] ++ be 3 ((f.result.map (·.price)).getD 0) ++
      be 1 (((f.result.bind (·.winner)).map (·.desk)).getD 0)
  body ++ [crc8 body]

/-- The bytes of a desk answer (11 section 11.6). The crates of an answer other than TAKEN are sent as 0: the model's choice of
log 31. -/
def DeskAnswer.bytes (a : DeskAnswer) : List Byte :=
  let body := [0x02#8] ++ be 1 a.desk ++ [a.answer.byte] ++ be 1 a.crates
  body ++ [crc8 body]

/-- The bytes of a frame on the rostrum line (11 section 11.6). -/
def OutFrame.bytes : OutFrame → List Byte
  | .clock f => f.bytes
  | .answer a => a.bytes

/-! ## The queue (R49, R50) -/

/-- The clock places a lot at the head of its own queue; a full queue first loses its tail entry, whose lot becomes READY with its
rostrum removed, and which the displaced report counts (R50, R42). -/
def State.headInsert (s : State) (r : RostrumId) (key : Key) : State :=
  let q := (s.rostrum r).queue
  if q.length < Config.maxQueue then s.modRostrum r fun x => { x with queue := key :: x.queue }
  else
    match q.getLast? with
    | none => s
    | some tail =>
      (s.modLot tail fun l => { l with state := .ready, rostrum := none }).modRostrum r fun x =>
        { x with
          queue := key :: x.queue.dropLast, displacedCount := countUp 255 x.displacedCount, displacedKey := some tail }

/-- The lot on the clock goes back to QUEUED at the head of its rostrum's queue (R42, R50). -/
def State.putBack (s : State) (r : RostrumId) : State :=
  match (s.rostrum r).offer with
  | none => s
  | some o => (s.modLot o.key fun l => { l with state := .queued }).headInsert r o.key

/-! ## Offers (R51 to R54) -/

/-- A lot's start: the override, else the restart price, else the snapshot start price (R38). -/
def Lot.start (l : Lot) : Nat := l.override.getD (l.restartPrice.getD ((l.snapshot.map (·.start)).getD 0))

/-- An offer starts on the lot at the head of the queue, when there is one (R51); the clock frame shows RUNNING (log 9). -/
def State.startOffer (s : State) (r : RostrumId) : State :=
  match (s.rostrum r).queue with
  | [] => s
  | key :: rest =>
    let lot := s.lot? key
    let interval := ((lot.bind (·.snapshot)).map (·.interval)).getD 0
    let s1 := s.modLot key fun l => { l with state := .onClock }
    let s2 := s1.modRostrum r fun x =>
      { x with
        state := .running, queue := rest, offer := some { key, price := (lot.map Lot.start).getD 0, j := 0 },
        stepTimer := some interval, showTimer := none }
    s2.formClock r

/-- WAITING is entered with a clock frame (R54, R55). -/
def State.enterWaiting (s : State) (r : RostrumId) : State :=
  (s.modRostrum r fun x => { x with state := .waiting, showTimer := none }).formClock r

/-- SHOWING is entered: no current lot, a clock frame with the last result, and the show timer started (R54). -/
def State.enterShowing (s : State) (r : RostrumId) : State :=
  (s.modRostrum r fun x =>
    { x with state := .showing, offer := none, stepTimer := none, showTimer := some s.store.timing.showTime }).formClock r

/-- A lot end: the last result is replaced and the attention flag set (R71). -/
def Rostrum.lotEnd (x : Rostrum) (e : LastLotEnd) : Rostrum := { x with last := some e, attention := true }

/-- The expiry of the step timer (R53): the price falls by one step, or the lot ends NO_SALE. -/
def State.stepExpiry (s : State) (r : RostrumId) : State :=
  let x := s.rostrum r
  if !runOut x.stepTimer then s
  else
    match x.offer with
    | none => s
    | some o =>
      match (s.lot? o.key).bind (·.snapshot) with
      | none => s
      | some snap =>
        if snap.withdrawal + snap.step ≤ o.price then
          (s.modRostrum r fun x =>
            { x with
              offer := some { o with price := o.price - snap.step, j := o.j + 1 }, stepTimer := some snap.interval }).formClock r
        else
          ((s.modLot o.key fun l => { l with state := .unsold }).modRostrum r fun x =>
            x.lotEnd { code := .noSale, key := o.key, price := o.price, winner := none }).enterShowing r

/-- STEP_TIMER_EXPIRY (R53). -/
def execStepTimerExpiry (rostrum : RostrumId) (s : State) : Outcome := .next (event (·.stepExpiry rostrum) s)

/-- The expiry of the show timer (R54): an offer on the queue head, or WAITING. -/
def State.showExpiry (s : State) (r : RostrumId) : State :=
  let x := s.rostrum r
  if !runOut x.showTimer then s
  else if x.queue.isEmpty then s.enterWaiting r
  else s.startOffer r

/-- SHOW_TIMER_EXPIRY (R54). -/
def execShowTimerExpiry (rostrum : RostrumId) (s : State) : Outcome := .next (event (·.showExpiry rostrum) s)

/-- ROSTRUM_FRAME_SENT (R72, R73): the frame in transmission leaves. -/
def execRostrumFrameSent (rostrum : RostrumId) (s : State) : Outcome := .next (event (·.modRostrum rostrum Rostrum.frameSent) s)

/-! ## Requests on a rostrum (R55 to R58) -/

/-- A request whose rostrum argument is other than A or B is refused RANGE. -/
def onRostrum (code : Nat) (f : RostrumId → State → State × Reply) (s : State) : State × Reply :=
  match rostrum? code with
  | none => refuse s .range
  | some r => f r s

/-- ROSTRUM START (R55). -/
def rostrumStart (r : RostrumId) (s : State) : State × Reply :=
  match (s.rostrum r).state with
  | .idle => if (s.rostrum r).queue.isEmpty then accept (s.enterWaiting r) else accept (s.startOffer r)
  | .waiting => refuse s .wrongState
  | .running => refuse s .wrongState
  | .held => refuse s .wrongState
  | .showing => refuse s .wrongState

/-- ROSTRUM_START (R55). -/
def execRostrumStart (rostrum : Nat) (s : State) : Outcome := .next (request 0x30 (onRostrum rostrum rostrumStart) s)

/-- ROSTRUM HOLD (R56). -/
def rostrumHold (r : RostrumId) (s : State) : State × Reply :=
  match (s.rostrum r).state with
  | .running => accept ((s.modRostrum r fun x => { x with state := .held, stepTimer := none }).formClock r)
  | .held => accept s
  | .idle => refuse s .wrongState
  | .waiting => refuse s .wrongState
  | .showing => refuse s .wrongState

/-- ROSTRUM_HOLD (R56). -/
def execRostrumHold (rostrum : Nat) (s : State) : Outcome := .next (request 0x31 (onRostrum rostrum rostrumHold) s)

/-- The snapshot step interval of the current lot. -/
def State.currentInterval (s : State) (r : RostrumId) : Nat :=
  (((s.rostrum r).offer.bind fun o => (s.lot? o.key).bind (·.snapshot)).map (·.interval)).getD 0

/-- ROSTRUM RESUME (R57). -/
def rostrumResume (r : RostrumId) (s : State) : State × Reply :=
  match (s.rostrum r).state with
  | .held => accept ((s.modRostrum r fun x => { x with state := .running, stepTimer := some (s.currentInterval r) }).formClock r)
  | .running => accept s
  | .idle => refuse s .wrongState
  | .waiting => refuse s .wrongState
  | .showing => refuse s .wrongState

/-- ROSTRUM_RESUME (R57). -/
def execRostrumResume (rostrum : Nat) (s : State) : Outcome := .next (request 0x32 (onRostrum rostrum rostrumResume) s)

/-- IDLE is entered: timers stopped, no current lot. -/
def Rostrum.toIdle (x : Rostrum) : Rostrum := { x with state := .idle, offer := none, stepTimer := none, showTimer := none }

/-- The lot on the clock at ROSTRUM STOP goes back and ends STOPPED at the price as it stands (R58, R71). -/
def State.stopOffer (s : State) (r : RostrumId) : State :=
  match (s.rostrum r).offer with
  | none => s
  | some o => (s.putBack r).modRostrum r fun x => x.lotEnd { code := .stopped, key := o.key, price := o.price, winner := none }

/-- ROSTRUM STOP (R58). -/
def rostrumStop (r : RostrumId) (s : State) : State × Reply :=
  match (s.rostrum r).state with
  | .idle => refuse s .wrongState
  | .waiting => accept ((s.modRostrum r Rostrum.toIdle).formClock r)
  | .showing => accept ((s.modRostrum r Rostrum.toIdle).formClock r)
  | .running => accept (((s.stopOffer r).modRostrum r Rostrum.toIdle).formClock r)
  | .held => accept (((s.stopOffer r).modRostrum r Rostrum.toIdle).formClock r)

/-- ROSTRUM_STOP (R58). -/
def execRostrumStop (rostrum : Nat) (s : State) : Outcome := .next (request 0x33 (onRostrum rostrum rostrumStop) s)

/-! ## Desks (R59, R60) -/

/-- The desk entry of a desk index. -/
def Rostrum.desk (x : Rostrum) (d : Fin 96) : Option Nat := x.desks[d]

/-- DESK ASSIGN (R59). -/
def deskAssign (rostrum desk buyer : Nat) (s : State) : State × Reply :=
  match rostrum? rostrum, unitIndex? 96 desk with
  | some r, some d =>
    if !accountNumberOk buyer then refuse s .range
    else
      match s.account? buyer with
      | none => refuse s .noAccount
      | some a =>
        if a.kind = .boat then refuse s .kind
        else if a.state = .suspended then refuse s .suspended
        else
          match (s.rostrum r).desk d with
          | some b => if b = buyer then accept s else refuse s .inUse
          | none => accept ((s.modRostrum r fun x => { x with desks := x.desks.set d (some buyer) }).modDeskCount buyer (· + 1))
  | _, _ => refuse s .range

/-- DESK_ASSIGN (R59). -/
def execDeskAssign (rostrum desk buyer : Nat) (s : State) : Outcome := .next (request 0x35 (deskAssign rostrum desk buyer) s)

/-- DESK RELEASE (R60). -/
def deskRelease (rostrum desk : Nat) (s : State) : State × Reply :=
  match rostrum? rostrum, unitIndex? 96 desk with
  | some r, some d =>
    match (s.rostrum r).desk d with
    | none => refuse s .wrongState
    | some b => accept ((s.modRostrum r fun x => { x with desks := x.desks.set d none }).modDeskCount b (· - 1)) (be 2 b)
  | _, _ => refuse s .range

/-- DESK_RELEASE (R60). -/
def execDeskRelease (rostrum desk : Nat) (s : State) : Outcome := .next (request 0x36 (deskRelease rostrum desk) s)

/-! ## Reading (R74) -/

/-- The pages of ROSTRUM READ with their number of parts (11 section 11.4); none for a page not in the table. -/
def rostrumPageParts (page : Nat) : Option Nat :=
  if page = 0 then some 2
  else if page = 1 then some 2
  else if page = 2 then some 1
  else if 16 ≤ page ∧ page ≤ 47 then some 1
  else if 64 ≤ page ∧ page ≤ 69 then some 3
  else none

/-- The remainder key of a PART_SOLD result: the parent's number with the part index one higher (R74). -/
def remainderKey (x : Rostrum) : Option Key :=
  match x.last with
  | none => none
  | some e => if e.code = .partSold then some { number := e.key.number, part := e.key.part + 1 } else none

/-- The number of desks assigned. -/
def Rostrum.desksAssigned (x : Rostrum) : Nat := (x.desks.toList.filter (·.isSome)).length

/-- The data of ROSTRUM READ (11 section 11.4). -/
def State.rostrumPage (s : State) (r : RostrumId) (page partNo : Nat) : List Byte :=
  let x := s.rostrum r
  if page = 0 then
    if partNo = 0 then
      [x.state.byte, flagByte x.attention, optCode (fun e : LastLotEnd => e.code.byte) x.last] ++ keyBytes (x.last.map (·.key)) ++
        be 1 x.displacedCount ++ keyBytes x.displacedKey ++ be 1 x.queue.length ++ be 1 x.desksAssigned
    else
      keyBytes (x.offer.map (·.key)) ++ be 1 ((x.offer.bind fun o => (s.lot? o.key).map (·.n)).getD 0) ++
        be 3 ((x.offer.map (·.price)).getD 0) ++ be 3 ((x.offer.map (·.j)).getD 0) ++
        be 2 (x.stepTimer.getD (x.showTimer.getD 0))
  else if page = 1 then
    if partNo = 0 then
      [optCode (fun e : LastLotEnd => e.code.byte) x.last] ++ keyBytes (x.last.map (·.key)) ++
        be 3 ((x.last.map (·.price)).getD 0) ++ be 2 (((x.last.bind (·.winner)).map (·.buyer)).getD 0) ++
        be 1 (((x.last.bind (·.winner)).map (·.crates)).getD 0) ++ be 1 (((x.last.bind (·.winner)).map (·.desk)).getD 0)
    else keyBytes (remainderKey x)
  else if page = 2 then be 2 x.rejected ++ be 2 x.dropped
  else if page ≤ 47 then
    [0, 1, 2, 3].flatMap fun k => keyBytes (x.queue[(page - 16) * 4 + k]?)
  else
    let count := if partNo = 2 then 4 else 6
    (List.range count).flatMap fun k => be 2 ((x.desks.toList.getD ((page - 64) * 16 + partNo * 6 + k) none).getD 0)

/-- What a read clears: page 0 the attention flag and the displaced report, page 2 both of its counts (R74). -/
def Rostrum.readEffect (x : Rostrum) (page : Nat) : Rostrum :=
  if page = 0 then { x with attention := false, displacedCount := 0, displacedKey := none }
  else if page = 2 then { x with rejected := 0, dropped := 0 }
  else x

/-- ROSTRUM READ as its owner judges it (R74). -/
def rostrumRead (rostrum page partNo : Nat) (s : State) : State × Reply :=
  match rostrum? rostrum, rostrumPageParts page with
  | some r, some parts =>
    if parts ≤ partNo then refuse s .range
    else accept (s.modRostrum r fun x => x.readEffect page) (s.rostrumPage r page partNo)
  | _, _ => refuse s .range

/-- ROSTRUM_READ (R74). -/
def execRostrumRead (rostrum page partNo : Nat) (s : State) : Outcome :=
  .next (request 0x34 (rostrumRead rostrum page partNo) s)

/-! ## HOLD, starts and RECORDS CLEAR (R75 to R77) -/

/-- A rostrum at the entry into HOLD and at the assertion of the reset line (R75). -/
def State.rostrumHoldEntry (s : State) (r : RostrumId) : State :=
  (s.putBack r).modRostrum r fun x => x.toIdle.silenceLine

/-- A rostrum at a start (R76): its counts are 0. -/
def Rostrum.start (x : Rostrum) : Rostrum := { x.toIdle.silenceLine with rejected := 0, dropped := 0 }

/-- A rostrum at RECORDS CLEAR (R77); the frame in transmission and those that wait stay (log 26). -/
def Rostrum.clear (x : Rostrum) : Rostrum :=
  { x with
    queue := [], desks := Vector.replicate 96 none, last := none, attention := false, displacedCount := 0, displacedKey := none,
    rejected := 0, dropped := 0 }

/-- The volatile fields of a rostrum are lost with the main supply (R76; log 23). -/
def Rostrum.lose (x : Rostrum) : Rostrum := Rostrum.fresh x.queue x.desks

end Sys2Proof.Machine
end

