-- ==== Sys2Proof/Machine/Lots.lean ====
section
/-! DEFINITION. Chapter 2, lots and their weighings (R25 to R48): numbering and the day, opening, weighing, closing and valuing,
queueing, retiring and reading lots. -/

namespace Sys2Proof.Machine

/-! ## Numbers and the day (R25, R26) -/

/-- The counter advanced by one: from 9999 to 1, which is the wrap (R25). -/
def nextNumber (c : Nat) : Nat := if 9999 ≤ c then 1 else c + 1

/-- The search of OPEN LOT: candidates from the counter on, skipping numbers with a living part 0; answers the number, the counter
advanced past it, and the day-wrap flag (R25). At most 1,025 candidates are looked at. -/
def searchNumber (lots : List Lot) : Nat → Nat → Bool → Nat × Nat × Bool
  | 0, c, w => (c, nextNumber c, w || decide (9999 ≤ c))
  | fuel + 1, c, w =>
    if lots.any (fun l => l.key == { number := c, part := 0 }) then
      searchNumber lots fuel (nextNumber c) (w || decide (9999 ≤ c))
    else (c, nextNumber c, w || decide (9999 ≤ c))

/-- DAY CLOSE (R26, R131). -/
def dayClose (s : State) : State × Reply :=
  if s.rostrumA.state != .idle || s.rostrumB.state != .idle then refuse s .busy
  else
    let day := (s.lotTable.day + 1) % 256
    let s1 := { s with lotTable := { s.lotTable with counter := 1, day, dayWrap := false } }
    let s2 := all8.foldl (fun s t => s.modCrateType t fun c => { c with strays := 0 }) s1
    let s3 := all2.foldl (fun s g => s.modGate g fun x => { x with refused := 0 }) s2
    accept s3 (be 1 day)

/-- DAY_CLOSE (R26). -/
def execDayClose (s : State) : Outcome := .next (request 0x29 dayClose s)

/-! ## Opening and retiring (R27, R28) -/

/-- A new lot in state OPEN (R27). -/
def Lot.opened (key : Key) (boat species : Nat) (t : Fin 8) : Lot :=
  { key, boat, species, crateType := t, state := .opened, division := none, weighings := [], pending := none, n := 0,
    gross := some 0, deductions := none, net := none, snapshot := none, restartPrice := none, override := none, rostrum := none,
    sale := none }

/-- OPEN LOT as its owner judges it (R27). -/
def openLot (boat species crateType : Nat) (s : State) : State × Reply :=
  match unitIndex? 64 species, unitIndex? 8 crateType with
  | some sp, some t =>
    if !accountNumberOk boat then refuse s .range
    else
      match s.account? boat with
      | none => refuse s .noAccount
      | some a =>
        if a.kind = .buyer then refuse s .kind
        else if a.state = .suspended then refuse s .suspended
        else if (s.store.species? sp).isNone || (s.store.tare? t).isNone || (s.store.deposit? t).isNone then
          refuse s .invalidConfig
        else if Config.maxLots ≤ s.lotTable.lots.length then refuse s .tableFull
        else
          let found := searchNumber s.lotTable.lots Config.maxLots s.lotTable.counter s.lotTable.dayWrap
          let s1 := s.addLot (Lot.opened { number := found.1, part := 0 } boat species t)
          let s2 := { s1 with lotTable := { s1.lotTable with counter := found.2.1, dayWrap := found.2.2 } }
          accept (s2.modLiveLots boat (· + 1)) (be 2 found.1)
  | _, _ => refuse s .range

/-- OPEN_LOT (R27). -/
def execOpenLot (boat species crateType : Nat) (s : State) : Outcome := .next (request 0x20 (openLot boat species crateType) s)

/-- A lot retires: an unsold one gives up its commitment; the boat's live-lot count falls; the record goes (R28). -/
def State.retire (s : State) (lot : Lot) : State :=
  let s1 := if lot.state = .sold then s else s.uncommit lot.boat lot.crateType lot.n
  (s1.modLiveLots lot.boat (· - 1)).removeLot lot.key

/-- A request that names one lot: RANGE outside the key's ranges, NO_LOT where no living lot has the key. -/
def onLot (number part : Nat) (f : Lot → State → State × Reply) (s : State) : State × Reply :=
  if !keyOk number part then refuse s .range
  else
    match s.lot? { number, part } with
    | none => refuse s .noLot
    | some lot => f lot s

/-! ## TAKE WEIGHING (R29, R30) -/

/-- What the taken request does: commit, the lot's pending part, the hand-in at the lane (R30, R16). -/
def State.handIn (s : State) (lot : Lot) (i : Fin 8) (c : Nat) : State :=
  let s1 := s.commit lot.boat lot.crateType c
  let s2 := s1.modLot lot.key fun l => { l with pending := some { lane := unitNumber i, crates := c } }
  s2.modLane i fun l => { l with weighing := some { key := lot.key, crates := c, timer := s.store.timing.stability } }

/-- The conditions of R29 from the lot's state on. -/
def takeWeighingOn (i : Fin 8) (c : Nat) (lot : Lot) (s : State) : State × Reply :=
  let l := s.lane i
  if lot.state ≠ .opened then refuse s .wrongState
  else if lot.pending.isSome then refuse s .busy
  else if l.weighing.isSome then refuse s .busy
  else if l.state ≠ .active then refuse s .laneFault
  else if Config.maxWeighings ≤ lot.weighings.length then refuse s .range
  else if 255 < lot.n + c then refuse s .range
  else if (lot.division.getD (s.store.laneCal i).e) ≠ (s.store.laneCal i).e then refuse s .divisionMismatch
  else if ((s.account? lot.boat).map (·.free lot.crateType)).getD 0 < c then refuse s .cratesShort
  else (s.handIn lot i c, { code := .pending })

/-- TAKE WEIGHING as its owner judges it (R29). -/
def takeWeighing (number part lane crates : Nat) (s : State) : State × Reply :=
  match unitIndex? 8 lane with
  | none => refuse s .range
  | some i => if crates < 1 ∨ 99 < crates then refuse s .range else onLot number part (takeWeighingOn i crates) s

/-- TAKE_WEIGHING (R29). -/
def execTakeWeighing (number part lane crates : Nat) (s : State) : Outcome :=
  .next (request 0x21 (takeWeighing number part lane crates) s)

/-! ## Closing and valuing (R33 to R35) -/

/-- The net valuation of a lot (R34). -/
structure NetValuation where
  tare : Int
  allowance : Int
  net : Int
  deriving DecidableEq, Repr

/-- The five steps of R34: T = n × t; F1 = G − T; A = floor(F1 × a / 1,000) when F1 is greater than 0; N = floor((F1 − A) / e) × e. -/
def netValuation (n gross e t a : Nat) : NetValuation :=
  let tare : Int := n * t
  let f1 : Int := gross - tare
  let allowance : Int := if 0 < f1 then f1 * a / 1000 else 0
  { tare, allowance, net := (f1 - allowance) / e * e }

/-- T, A and N as the answer carries them: the low 24 bits of each (log 13). -/
def NetValuation.bytes (v : NetValuation) : List Byte := beInt 3 v.tare ++ beInt 3 v.allowance ++ beInt 3 v.net

/-- The valuation of a lot from the live records (R34), with the species record it is made from (R35). -/
def State.valuation (s : State) (lot : Lot) : NetValuation × Snapshot :=
  let snap := ((unitIndex? 64 lot.species).bind s.store.species?).getD (speciesOf [])
  let tare := (s.store.tare? lot.crateType).getD 0
  (netValuation lot.n (lot.gross.getD 0) (lot.division.getD 0) tare snap.allowance, snap)

/-- CLOSE LOT on a living lot (R33). -/
def closeLotOn (lot : Lot) (s : State) : State × Reply :=
  if lot.state ≠ .opened then refuse s .wrongState
  else if lot.pending.isSome then refuse s .busy
  else if lot.weighings.isEmpty then refuse s .wrongState
  else
    let v := (s.valuation lot).1
    if v.net < 20 * ((lot.division.getD 0 : Nat) : Int) then (s, { code := .underMinimum, data := v.bytes })
    else
      accept
        (s.modLot lot.key fun l =>
          { l with
            state := .ready, deductions := some { tare := v.tare, allowance := v.allowance }, net := some v.net,
            snapshot := some (s.valuation lot).2 })
        v.bytes

/-- CLOSE_LOT (R33). -/
def execCloseLot (number part : Nat) (s : State) : Outcome := .next (request 0x22 (onLot number part closeLotOn) s)

/-! ## Cancelling, queueing, returning, retiring -/

/-- CANCEL LOT on a living lot (R36). -/
def cancelLotOn (lot : Lot) (s : State) : State × Reply :=
  if lot.state ≠ .opened then refuse s .wrongState
  else if lot.pending.isSome then refuse s .busy
  else accept (s.retire lot) (be 1 lot.n)

/-- CANCEL_LOT (R36). -/
def execCancelLot (number part : Nat) (s : State) : Outcome := .next (request 0x23 (onLot number part cancelLotOn) s)

/-- A lot that may be queued or returned: READY or UNSOLD. -/
def Lot.isWaiting (l : Lot) : Bool := l.state == .ready || l.state == .unsold

/-- An override argument: 0 is an absent one (R177). -/
def overrideOf (v : Nat) : Option Nat := if v = 0 then none else some v

/-- An override outside the snapshot withdrawal price to 99,999 (R37). -/
def overrideBad (lot : Lot) (v : Nat) : Bool :=
  decide (v ≠ 0 ∧ (v < (lot.snapshot.map (·.withdrawal)).getD 0 ∨ Config.maxPrice < v))

/-- QUEUE LOT on a living lot: override, rostrum, state QUEUED, the insertion, and the offer that starts at once on a WAITING
rostrum (R37, R38, R52). -/
def queueLotOn (r : RostrumId) (atHead : Bool) (override : Nat) (lot : Lot) (s : State) : State × Reply :=
  if !lot.isWaiting then refuse s .wrongState
  else if overrideBad lot override then refuse s .range
  else if Config.maxQueue ≤ (s.rostrum r).queue.length then refuse s .tableFull
  else
    let s1 := s.modLot lot.key fun l =>
      { l with override := overrideOf override, rostrum := some r, state := .queued }
    let s2 := s1.modRostrum r fun x =>
      { x with queue := if atHead then lot.key :: x.queue else x.queue ++ [lot.key] }
    if (s.rostrum r).state = .waiting then accept (s2.startOffer r) else accept s2

/-- QUEUE LOT as its owner judges it (R37). -/
def queueLot (number part rostrum position override : Nat) (s : State) : State × Reply :=
  match rostrum? rostrum with
  | none => refuse s .range
  | some r => if 1 < position then refuse s .range else onLot number part (queueLotOn r (position == 0) override) s

/-- QUEUE_LOT (R37). -/
def execQueueLot (number part rostrum position override : Nat) (s : State) : Outcome :=
  .next (request 0x24 (queueLot number part rostrum position override) s)

/-- The key leaves the queue of the lot's rostrum; the entries behind it move up (R39). -/
def State.unqueue (s : State) (lot : Lot) : State :=
  match lot.rostrum with
  | none => s
  | some r => s.modRostrum r fun x => { x with queue := x.queue.filter (· != lot.key) }

/-- UNQUEUE LOT on a living lot (R39). -/
def unqueueLotOn (lot : Lot) (s : State) : State × Reply :=
  if lot.state ≠ .queued then refuse s .wrongState
  else accept ((s.unqueue lot).modLot lot.key fun l => { l with state := .ready, rostrum := none })

/-- UNQUEUE_LOT (R39). -/
def execUnqueueLot (number part : Nat) (s : State) : Outcome := .next (request 0x25 (onLot number part unqueueLotOn) s)

/-- RETURN LOT on a living lot (R40). -/
def returnLotOn (lot : Lot) (s : State) : State × Reply :=
  if !lot.isWaiting then refuse s .wrongState else accept (s.retire lot) (be 1 lot.n)

/-- RETURN_LOT (R40). -/
def execReturnLot (number part : Nat) (s : State) : Outcome := .next (request 0x26 (onLot number part returnLotOn) s)

/-- Another living lot has the same number (R41). -/
def State.familyLives (s : State) (key : Key) : Bool :=
  s.lotTable.lots.any fun l => l.key.number == key.number && l.key != key

/-- RETIRE LOT on a living lot (R41). -/
def retireLotOn (lot : Lot) (s : State) : State × Reply :=
  if lot.state ≠ .sold then refuse s .wrongState
  else if lot.key.part = 0 ∧ s.familyLives lot.key then refuse s .inUse
  else accept (s.retire lot)

/-- RETIRE_LOT (R41). -/
def execRetireLot (number part : Nat) (s : State) : Outcome := .next (request 0x27 (onLot number part retireLotOn) s)

/-! ## Reading (R45, R46) -/

/-- The pages of LOT READ with their number of parts (11 section 11.4). -/
def lotPageParts (page : Nat) : Option Nat :=
  if page ≤ 4 then some 1
  else if page = 5 ∨ page = 6 then some 2
  else if 8 ≤ page ∧ page ≤ 23 then some 1
  else none

/-- The step word: the step in bits 22 to 10, the step interval in bits 9 to 0 (11 section 11.5). -/
def stepWord (x : Snapshot) : Nat := x.step * 1024 + x.interval

/-- A page's own data, after the key of the lot described (11 section 11.4). An absent rostrum is sent as 255: the model's choice of
log 32. -/
def Lot.page (l : Lot) (page partNo : Nat) : List Byte :=
  let snap (f : Snapshot → Nat) : Nat := (l.snapshot.map f).getD 0
  let sale (f : Sale → Nat) : Nat := (l.sale.map f).getD 0
  match page with
  | 0 =>
    [l.state.byte] ++ be 2 l.boat ++ be 1 l.species ++ be 1 (unitNumber l.crateType) ++ [optCode rostrumCode l.rostrum] ++
      [l.presenceByte]
  | 1 =>
    be 1 (l.division.getD 0) ++ be 1 l.weighings.length ++ be 1 l.n ++ be 3 (l.gross.getD 0) ++
      be 1 ((l.pending.map (·.lane)).getD 0) ++ be 1 ((l.pending.map (·.crates)).getD 0)
  | 2 =>
    beInt 3 ((l.deductions.map (·.tare)).getD 0) ++ beInt 3 ((l.deductions.map (·.allowance)).getD 0) ++ beInt 3 (l.net.getD 0)
  | 3 => be 3 (snap (·.start)) ++ be 3 (snap (·.withdrawal)) ++ be 3 (snap stepWord)
  | 4 =>
    be 1 (snap (·.levy)) ++ be 1 (snap (·.restartSteps)) ++ be 1 (snap (·.allowance)) ++ be 3 (l.restartPrice.getD 0) ++
      be 3 (l.override.getD 0)
  | 5 =>
    if partNo = 0 then be 2 (sale (·.buyer)) ++ be 3 (sale (·.price)) ++ be 1 (sale (·.crates)) ++ be 3 (sale (·.net))
    else be 4 (sale (·.amount))
  | 6 =>
    if partNo = 0 then be 4 (sale (·.commission)) ++ be 4 (sale (·.levy)) else be 4 (sale (·.fee)) ++ be 4 (sale (·.deposit))
  | _ =>
    match l.weighings[page - 8]? with
    | none => []
    | some w => be 1 w.lane ++ be 3 w.gross ++ be 1 w.crates

/-- The lot a selector names: EXACT the lot with the key, NEXT the lot with the smallest key above it (R45). -/
def State.selectLot (s : State) (next : Bool) (key : Key) : Option Lot :=
  if next then s.lotTable.lots.find? fun l => key.before l.key else s.lot? key

/-- LOT READ as its owner judges it (R45, R46). -/
def lotRead (selector number part page partNo : Nat) (s : State) : State × Reply :=
  match lotPageParts page with
  | none => refuse s .range
  | some parts =>
    if 1 < selector ∨ 9999 < number ∨ 7 < part ∨ parts ≤ partNo then refuse s .range
    else
      match s.selectLot (selector == 1) { number, part } with
      | none => refuse s .noLot
      | some lot => accept s (lot.key.bytes ++ lot.page page partNo)

/-- LOT_READ (R45). -/
def execLotRead (selector number part page partNo : Nat) (s : State) : Outcome :=
  .next (request 0x28 (lotRead selector number part page partNo) s)

/-! ## Starts and clears (R47, R48) -/

/-- The pending part of one lot found at a power-on goes, and its crates leave the committed count (R47). -/
def State.dropPending (s : State) (lot : Lot) : State :=
  match lot.pending with
  | none => s
  | some p => (s.modLot lot.key fun l => { l with pending := none }).uncommit lot.boat lot.crateType p.crates

/-- One lot found ON_CLOCK at a power-on goes back to the head of the queue of the rostrum its record names (R76). -/
def State.putBackFound (s : State) (lot : Lot) : State :=
  if lot.state = .onClock then
    match lot.rostrum with
    | none => s
    | some r => (s.modLot lot.key fun l => { l with state := .queued }).headInsert r lot.key
  else s

/-- The lot table's part of a POWER_ON_WARM start (R47, R76). -/
def State.reconcileLots (s : State) : State :=
  let s1 := s.lotTable.lots.foldl State.dropPending s
  s.lotTable.lots.foldl State.putBackFound s1

/-- The lot table after a cold start or RECORDS CLEAR (R48). -/
def LotTable.empty : LotTable := { lots := [], counter := 1, day := 0, dayWrap := false }

end Sys2Proof.Machine
end

