-- ==== Sys2Proof/Machine/Booking.lean ====
section
/-! DEFINITION. The press (R61 to R70) and chapter 4, sale valuation and booking (R78 to R94). -/

namespace Sys2Proof.Machine

/-! ## Valuation (section 4.2) -/

/-- The part net: N × k formed first, divided once by n × e, the quotient multiplied back by e (R79). -/
def partNet (net : Nat) (k n e : Nat) : Nat := net * k / (n * e) * e

/-- A press as the clock hands it over (R66). -/
structure Candidate where
  lot : Lot
  account : Account
  boat : Account
  price : Nat
  k : Nat
  net : Nat
  desk : Nat
  deriving DecidableEq, Repr

/-- The money of a sale (R80 to R82). -/
structure Valuation where
  amount : Nat
  commission : Nat
  levy : Nat
  fee : Nat
  deposit : Nat
  deriving DecidableEq, Repr

/-- M from net and price, each charge on its own from M, and the deposit moved (R80, R81, R82). -/
def valuate (net price k commission levy fee deposit : Nat) : Valuation :=
  let m := perMil net price
  { amount := m, commission := perMil m commission, levy := perMil m levy, fee := perMil m fee, deposit := k * deposit }

/-- What the buyer pays: M + F + k × D (R83). -/
def Valuation.buyerTotal (v : Valuation) : Nat := v.amount + v.fee + v.deposit

/-- What the boat is credited: M − C − L + k × D (R84). -/
def Valuation.boatCredit (v : Valuation) : Int := (v.amount : Int) - v.commission - v.levy + v.deposit

/-- The valuation of a candidate, from the snapshot levy, the live tariff and the live deposit (R78). -/
def State.valuate (s : State) (t : Tariff) (c : Candidate) : Valuation :=
  Machine.valuate c.net c.price c.k (t.commissionOf c.boat.cls) ((c.lot.snapshot.map (·.levy)).getD 0) (t.feeOf c.account.cls)
    (s.store.deposit c.lot.crateType)

/-! ## Postings (section 4.4) -/

/-- The sale fields of a booked candidate (R89). -/
def Candidate.sale (c : Candidate) (v : Valuation) : Sale :=
  { buyer := c.account.number, price := c.price, crates := c.k, net := c.net, amount := v.amount, commission := v.commission,
    levy := v.levy, fee := v.fee, deposit := v.deposit }

/-- Adds the three charges of a booking to the hall counters (R88). -/
def HallCounters.book (h : HallCounters) (v : Valuation) : HallCounters :=
  { h with
    commission := h.commission + BitVec.ofNat 64 v.commission, levy := h.levy + BitVec.ofNat 64 v.levy,
    fee := h.fee + BitVec.ofNat 64 v.fee }

/-- The postings of a booking and the lot's sale (R86 to R89, R43). -/
def State.postSale (s : State) (c : Candidate) (v : Valuation) : State :=
  ((((s.debit c.account.number v.buyerTotal).post c.lot.boat v.boatCredit).saleMove c.lot.boat c.account.number
      c.lot.crateType c.k).modHall (·.book v)).modLot c.lot.key fun l =>
    { l with state := .sold, sale := some (c.sale v) }

/-- The restart price of a remainder: the lesser of the lot's start, and the sale price plus the restart steps (R68). -/
def Lot.restartAt (l : Lot) (price : Nat) : Nat :=
  match l.snapshot with
  | none => min l.start price
  | some x => min l.start (price + x.restartSteps * x.step)

/-- The remainder of a part sale (R44). -/
def Candidate.remainder (c : Candidate) (r : RostrumId) : Lot :=
  { key := { number := c.lot.key.number, part := c.lot.key.part + 1 }, boat := c.lot.boat, species := c.lot.species,
    crateType := c.lot.crateType, state := .queued, division := c.lot.division, weighings := [], pending := none,
    n := c.lot.n - c.k, gross := none, deductions := none, net := some (c.lot.net.getD 0 - c.net), snapshot := c.lot.snapshot,
    restartPrice := some (c.lot.restartAt c.price), override := none, rostrum := some r, sale := none }

/-- The lot table creates the remainder, counts it for the boat, and the clock places it at the head of its queue (R44, R50,
R90). -/
def State.addRemainder (s : State) (r : RostrumId) (c : Candidate) : State :=
  ((s.addLot (c.remainder r)).modLiveLots c.lot.boat (· + 1)).headInsert r (c.remainder r).key

/-- The press leaves a remainder. -/
def Candidate.isPart (c : Candidate) : Bool := decide (c.k < c.lot.n)

/-- What follows a booking, in the order of R67: the remainder, the answer TAKEN, the last result with the attention flag, and
SHOWING. -/
def State.win (s : State) (r : RostrumId) (c : Candidate) (v : Valuation) : State :=
  let s1 := s.postSale c v
  let s2 := if c.isPart then s1.addRemainder r c else s1
  let s3 := s2.modRostrum r fun x =>
    (x.answer { desk := c.desk, answer := .taken, crates := c.k }).lotEnd
      { code := if c.isPart then .partSold else .sold, key := c.lot.key, price := c.price,
        winner := some { buyer := c.account.number, crates := c.k, desk := c.desk } }
  s3.enterShowing r

/-- The booking unit's three checks in their order (R85), then the booking; a refused candidate gives its answer. -/
def State.book (s : State) (c : Candidate) : Except PressAnswer Valuation :=
  match s.store.tariff? with
  | none => .error .range
  | some t =>
    let v := s.valuate t c
    if c.account.available < (v.buyerTotal : Int) then .error .credit
    else if Config.maxBalance < c.boat.balance + v.boatCredit then .error .range
    else .ok v

/-! ## The press (R61 to R67) -/

/-- The part-sale checks (R65), in their order. -/
def State.partCheck (s : State) (lot : Lot) (k : Nat) : Option PressAnswer :=
  let e := lot.division.getD 0
  let net := (lot.net.getD 0).toNat
  let sold := partNet net k lot.n e
  if lot.key.part = 7 then some .partLimit
  else if sold < 20 * e ∨ net - sold < 20 * e then some .partTooSmall
  else if Config.maxLots ≤ s.lotTable.lots.length then some .tableFull
  else none

/-- A press answered without effect on any record but the answer queue (R62, R63). -/
def State.answerPress (s : State) (r : RostrumId) (desk : Nat) (a : PressAnswer) : State :=
  s.modRostrum r fun x => x.answer { desk, answer := a, crates := 0 }

/-- The net that a resolved press sells: N for a whole lot, N_k for a part (R66). -/
def soldNet (lot : Lot) (k : Nat) : Nat :=
  let net := (lot.net.getD 0).toNat
  if k < lot.n then partNet net k lot.n (lot.division.getD 0) else net

/-- The checks of R63 on a press for the current lot, in their order: the refused answer, or the winning candidate with its
valuation. -/
def State.judgePress (s : State) (r : RostrumId) (d : Fin 96) (quantity : Nat) : Except PressAnswer (Candidate × Valuation) :=
  match (s.rostrum r).desk d with
  | none => .error .unassigned
  | some buyer =>
    match s.account? buyer, (s.rostrum r).offer with
    | some account, some offer =>
      if account.state ≠ .opened then .error .suspended
      else
        match s.lot? offer.key with
        | none => .error .notRunning
        | some lot =>
          let k := if quantity = 0 then lot.n else quantity
          if lot.n < k then .error .quantity
          else
            match (if k < lot.n then s.partCheck lot k else none), s.account? lot.boat with
            | some a, _ => .error a
            | none, none => .error .notRunning
            | none, some boat =>
              let c : Candidate :=
                { lot, account, boat, price := offer.price, k, net := soldNet lot k, desk := unitNumber d }
              (s.book c).map fun v => (c, v)
    | none, _ => .error .unassigned
    | some _, none => .error .notRunning

/-- A press judged according to the rostrum's state (R62, R63). -/
def State.press (s : State) (r : RostrumId) (d : Fin 96) (quantity : Nat) : State :=
  match (s.rostrum r).state with
  | .idle => s.answerPress r (unitNumber d) .notRunning
  | .waiting => s.answerPress r (unitNumber d) .notRunning
  | .held => s.answerPress r (unitNumber d) .notRunning
  | .showing => s.answerPress r (unitNumber d) .late
  | .running =>
    match s.judgePress r d quantity with
    | .error a => s.answerPress r (unitNumber d) a
    | .ok (c, v) => s.win r c v

/-- A frame that fails its form check is discarded and counted (R61). -/
def Rostrum.reject (x : Rostrum) : Rostrum := { x with rejected := countUp Config.maxCount16 x.rejected }

/-- A press frame: its form first (R61), then the press. -/
def State.pressArrival (s : State) (r : RostrumId) (desk quantity check : Byte) : State :=
  match unitIndex? 96 desk.toNat with
  | none => s.modRostrum r Rostrum.reject
  | some d => if check = crc8 [desk, quantity] then s.press r d quantity.toNat else s.modRostrum r Rostrum.reject

/-- PRESS_FRAME (R61). -/
def execPressFrame (rostrum : RostrumId) (desk quantity check : Byte) (s : State) : Outcome :=
  .next (event (·.pressArrival rostrum desk quantity check) s)

end Sys2Proof.Machine
end

