-- ==== Sys2Proof/Machine/Accounts.lean ====
section
/-! DEFINITION. Chapter 5, boat and buyer accounts (R95 to R117). -/

namespace Sys2Proof.Machine

/-! ## What other blocks hold on an account (R100, R102) -/

/-- The number of ice orders in flight on an account (R100). -/
def State.iceOrdersOf (s : State) (number : Nat) : Nat :=
  (all4.filter fun b => (s.bay b).order.any (·.account == number)).length

/-- The gate whose open session names an account (R100). -/
def State.gateOf (s : State) (number : Nat) : Option (Fin 2) :=
  all2.find? fun g => (s.gate g).session.any (·.account == number)

/-! ## Opening and changing accounts -/

/-- The account kind of a code (11 section 11.3). -/
def accountKind? (code : Nat) : Option AccountKind :=
  if code = 0 then some .boat else if code = 1 then some .buyer else none

/-- The account state of a code (11 section 11.3). -/
def accountState? (code : Nat) : Option AccountState :=
  if code = 0 then some .opened else if code = 1 then some .suspended else none

/-- A new record (R97). -/
def Account.opened (number : Nat) (kind : AccountKind) (limit cls : Nat) : Account :=
  { number, kind, state := .opened, balance := 0, limit, reserved := 0, cls, holding := Vector.replicate 8 0,
    committed := Vector.replicate 8 0, liveLots := 0, deskCount := 0 }

/-- Inserts a record in number order; the record count grows by 1 and the balance sum keeps its value (R95). -/
def State.addAccount (s : State) (a : Account) : State :=
  { s with accountTable :=
      { s.accountTable with
        accounts := insertAccount a s.accountTable.accounts, recordCount := s.accountTable.recordCount + 1 } }

/-- Removes a record; the record count falls by 1 (R95, R102). -/
def State.removeAccount (s : State) (number : Nat) : State :=
  { s with accountTable :=
      { s.accountTable with
        accounts := s.accountTable.accounts.filter fun a => a.number != number,
        recordCount := s.accountTable.recordCount - 1 } }

/-- ADD ACCOUNT as its owner judges it (R97). -/
def addAccount (number kind limit cls : Nat) (s : State) : State × Reply :=
  match accountKind? kind with
  | none => refuse s .range
  | some k =>
    if !accountNumberOk number ∨ Config.maxLimit < limit ∨ 3 < cls then refuse s .range
    else if (s.account? number).isSome then refuse s .duplicate
    else if Config.maxAccounts ≤ s.accountTable.accounts.length then refuse s .tableFull
    else accept (s.addAccount (Account.opened number k limit cls)) (be 2 (s.accountTable.recordCount + 1))

/-- ADD_ACCOUNT (R97). -/
def execAddAccount (number kind limit cls : Nat) (s : State) : Outcome :=
  .next (request 0x40 (addAccount number kind limit cls) s)

/-- A request that names one account: RANGE outside 1 to 9,999, NO_ACCOUNT where there is no record (R95). -/
def onAccount (number : Nat) (f : Account → State → State × Reply) (s : State) : State × Reply :=
  if !accountNumberOk number then refuse s .range
  else
    match s.account? number with
    | none => refuse s .noAccount
    | some a => f a s

/-- An argument whose presence bit decides whether it is given. -/
def given {α : Type} (present : Bool) (v : α) : Option α := if present then some v else none

/-- The lowest limit that keeps the credit floor: reserved less balance, and no less than 0 (R96, R98). -/
def Account.leastLimit (a : Account) : Nat := ((a.reserved : Int) - a.balance).toNat

/-- The limit, class and state that ACCOUNT SET gives (R98). -/
def Account.change (a : Account) (limit cls : Option Nat) (state : Option AccountState) : Account :=
  { a with
    limit := (limit.map fun l => max l a.leastLimit).getD a.limit, cls := cls.getD a.cls, state := state.getD a.state }

/-- ACCOUNT SET on a record (R98): CLAMPED when the limit was raised to the floor. -/
def accountSetOn (limit cls : Option Nat) (state : Option AccountState) (a : Account) (s : State) : State × Reply :=
  let b := a.change limit cls state
  let clamped := limit.any fun l => decide (l < a.leastLimit)
  (s.modAccount a.number (·.change limit cls state),
    { code := if clamped then .clamped else .ok
      data := be 4 b.limit ++ be 1 b.cls ++ [b.state.byte] ++ beInt 4 b.available })

/-- ACCOUNT SET as its owner judges it (R98). Presence bits: 0 limit, 1 class, 2 state, and no other (R177). -/
def accountSet (number presence limit cls state : Nat) (s : State) : State × Reply :=
  let limit? := given (presence.testBit 0) limit
  let cls? := given (presence.testBit 1) cls
  let code? := given (presence.testBit 2) state
  if 7 < presence ∨ limit?.any (Config.maxLimit < ·) ∨ cls?.any (3 < ·) ∨ code?.any (1 < ·) then refuse s .range
  else onAccount number (accountSetOn limit? cls? (code?.bind accountState?)) s

/-- ACCOUNT_SET (R98). -/
def execAccountSet (number presence limit cls state : Nat) (s : State) : Outcome :=
  .next (request 0x41 (accountSet number presence limit cls state) s)

/-! ## Reading (R100, R101) -/

/-- The pages of ACCOUNT READ with their number of parts (11 section 11.4; log 15). -/
def accountPageParts (page : Nat) : Option Nat :=
  if page = 0 ∨ page = 2 then some 1 else if page ≤ 5 then some 2 else none

/-- Holding and committed of a type. -/
def Account.cratesBytes (a : Account) (t : Fin 8) : List Byte := be 2 a.holding[t] ++ be 2 a.committed[t]

/-- A page's data, after the account number (R100, 11 section 11.4). -/
def State.accountPage (s : State) (a : Account) (page partNo : Nat) : List Byte :=
  if page = 0 then
    [a.kind.byte, a.state.byte] ++ be 1 a.cls ++ be 2 a.liveLots ++ be 1 a.deskCount ++ be 1 (s.iceOrdersOf a.number) ++
      be 1 (((s.gateOf a.number).map unitNumber).getD 0)
  else if page = 1 then
    if partNo = 0 then beInt 4 a.balance ++ be 4 a.reserved else be 4 a.limit
  else if page = 2 then beInt 4 a.available
  else if page = 3 then
    if partNo = 0 then a.cratesBytes 0 ++ a.cratesBytes 1 else a.cratesBytes 2
  else if page = 4 then
    if partNo = 0 then a.cratesBytes 3 ++ a.cratesBytes 4 else a.cratesBytes 5
  else if partNo = 0 then a.cratesBytes 6 ++ a.cratesBytes 7
  else []

/-- The judgement of ACCOUNT READ, with the page's own data (R100): the number, the page and the part number are judged before the
lookup. -/
def accountPageRead (number page partNo : Nat) (s : State) : State × Reply :=
  match accountPageParts page with
  | none => refuse s .range
  | some parts =>
    if parts ≤ partNo then refuse s .range else onAccount number (fun a s => accept s (s.accountPage a page partNo)) s

/-- ACCOUNT READ as its owner judges it: every answer, a refusal too, carries the account number before its other data (R100, 11
section 11.4). -/
def accountRead (number page partNo : Nat) (s : State) : State × Reply :=
  let (t, r) := accountPageRead number page partNo s
  (t, { r with data := be 2 number ++ r.data })

/-- ACCOUNT_READ (R100). -/
def execAccountRead (number page partNo : Nat) (s : State) : Outcome :=
  .next (request 0x42 (accountRead number page partNo) s)

/-- ACCOUNT NEXT as its owner judges it (R101). -/
def accountNext (number : Nat) (s : State) : State × Reply :=
  if 9999 < number then refuse s .range
  else
    match s.accountTable.accounts.find? fun a => decide (number < a.number) with
    | none => refuse s .noAccount
    | some a => accept s (be 2 a.number ++ [a.kind.byte, a.state.byte])

/-- ACCOUNT_NEXT (R101). -/
def execAccountNext (number : Nat) (s : State) : Outcome := .next (request 0x43 (accountNext number) s)

/-! ## Closing and payments (R102 to R104) -/

/-- The first condition of R102 that keeps a record in the table. -/
def State.closeReason (s : State) (a : Account) : Option CloseReason :=
  if a.balance ≠ 0 then some .balance
  else if a.reserved ≠ 0 then some .reserved
  else if a.holding.toList.any (· != 0) then some .crates
  else if a.liveLots ≠ 0 then some .lots
  else if a.deskCount ≠ 0 then some .desks
  else if s.iceOrdersOf a.number ≠ 0 then some .ice
  else if (s.gateOf a.number).isSome then some .gate
  else none

/-- CLOSE ACCOUNT on a record (R102). The reason is a field of the IN_USE answer alone; that the OK answer carries 0 there, not the 255
of an absent code, is the model's choice of log 12. -/
def closeAccountOn (a : Account) (s : State) : State × Reply :=
  match s.closeReason a with
  | some r => (s, { code := .inUse, data := [r.byte] })
  | none => accept (s.removeAccount a.number)

/-- CLOSE_ACCOUNT (R102). -/
def execCloseAccount (number : Nat) (s : State) : Outcome := .next (request 0x44 (onAccount number closeAccountOn) s)

/-- A balance with the available credit, as the answers of the payments carry them. -/
def State.moneyBytes (s : State) (number : Nat) : List Byte :=
  beInt 4 (((s.account? number).map (·.balance)).getD 0) ++ beInt 4 (s.available number)

/-- A payment amount lies in 1 to 1,000,000,000. -/
def paymentOk (amount : Nat) : Bool := decide (1 ≤ amount ∧ amount ≤ Config.maxPayment)

/-- PAYMENT IN on a record (R103). -/
def paymentInOn (amount : Nat) (a : Account) (s : State) : State × Reply :=
  if !a.canCredit amount then refuse s .range
  else
    let s1 := (s.credit a.number amount).modHall fun h => { h with cashIn := h.cashIn + BitVec.ofNat 64 amount }
    accept s1 (s1.moneyBytes a.number)

/-- PAYMENT IN as its owner judges it (R103). -/
def paymentIn (number amount : Nat) (s : State) : State × Reply :=
  if !paymentOk amount then refuse s .range else onAccount number (paymentInOn amount) s

/-- PAYMENT_IN (R103). -/
def execPaymentIn (number amount : Nat) (s : State) : Outcome := .next (request 0x45 (paymentIn number amount) s)

/-- PAYMENT OUT on a record (R104); the refusal carries the available credit that was exceeded (log 14). -/
def paymentOutOn (amount : Nat) (a : Account) (s : State) : State × Reply :=
  if a.available < (amount : Int) then (s, { code := .noCredit, data := beInt 4 a.available })
  else
    let s1 := (s.debit a.number amount).modHall fun h => { h with cashOut := h.cashOut + BitVec.ofNat 64 amount }
    accept s1 (s1.moneyBytes a.number)

/-- PAYMENT OUT as its owner judges it (R104). -/
def paymentOut (number amount : Nat) (s : State) : State × Reply :=
  if !paymentOk amount then refuse s .range else onAccount number (paymentOutOn amount) s

/-- PAYMENT_OUT (R104). -/
def execPaymentOut (number amount : Nat) (s : State) : Outcome := .next (request 0x46 (paymentOut number amount) s)

/-! ## HALL TOTALS (R113) -/

/-- A 64-bit figure in eight bytes. -/
def word64Bytes (w : Word64) : List Byte := be 8 w.toNat

/-- The totals copy taken now. -/
def State.totalsNow (s : State) : TotalsCopy := { counters := s.accountTable.hall, balanceSum := s.accountTable.balanceSum }

/-- What a page from 0 to 7 returns from a copy. -/
def TotalsCopy.page (c : TotalsCopy) : Nat → List Byte
  | 0 => word64Bytes c.counters.commission
  | 1 => word64Bytes c.counters.levy
  | 2 => word64Bytes c.counters.fee
  | 3 => word64Bytes c.counters.ice
  | 4 => word64Bytes c.counters.depositFloat
  | 5 => word64Bytes c.counters.cashIn
  | 6 => word64Bytes c.counters.cashOut
  | _ => beInt 8 c.balanceSum

/-- The totals copy goes. -/
def State.setTotals (s : State) (c : Option TotalsCopy) : State := { s with accountTable := { s.accountTable with totals := c } }

/-- HALL TOTALS as its owner judges it (R113). -/
def hallTotals (page : Nat) (s : State) : State × Reply :=
  if 8 < page then refuse s .range
  else if page = 8 then accept s (be 2 s.accountTable.recordCount)
  else if page = 0 then accept (s.setTotals (some s.totalsNow)) (s.totalsNow.page 0)
  else
    match s.accountTable.totals with
    | none => refuse s .wrongState
    | some c => accept s (c.page page)

/-- HALL_TOTALS (R113). -/
def execHallTotals (page : Nat) (s : State) : Outcome := .next (request 0x47 (hallTotals page) s)

/-! ## Starts (R116) -/

/-- At a POWER_ON_WARM start every reserved is set to 0, with no charge (R116). -/
def State.dropReserved (s : State) : State :=
  { s with accountTable :=
      { s.accountTable with accounts := s.accountTable.accounts.map fun a => { a with reserved := 0 } } }

end Sys2Proof.Machine
end

