-- ==== Sys2Proof/Machine/Crates.lean ====
section
/-! DEFINITION. Chapter 6, the crate pool (R118 to R133). -/

namespace Sys2Proof.Machine

/-! ## CRATE ISSUE (R120, R121) -/

/-- A crate number of a request lies in 1 to 999. -/
def crateCountOk (n : Nat) : Bool := decide (1 ≤ n ∧ n ≤ 999)

/-- The number left after the two clamps (R121): to the yard stock, and to what the available credit pays when D is above 0. -/
def issueClamp (n yard : Nat) (available : Int) (deposit : Nat) : Nat :=
  let byYard := min n yard
  if 0 < deposit then min byYard (available / deposit).toNat else byYard

/-- Changes the deposit float. -/
def State.modFloat (s : State) (delta : Int) : State :=
  s.modHall fun h => { h with depositFloat := h.depositFloat + BitVec.ofInt 64 delta }

/-- Crates drawn from the yard by an account, with their deposit (R121). -/
def State.issueCrates (s : State) (number : Nat) (t : Fin 8) (n deposit : Nat) : State :=
  (((s.modCrateType t fun c => { c with yard := c.yard - n }).modHolding number t (· + n)).debit number (n * deposit)).modFloat
    (n * deposit : Nat)

/-- CRATE ISSUE on a record and a type (R120). -/
def crateIssueOn (t : Fin 8) (n : Nat) (a : Account) (s : State) : State × Reply :=
  if a.state = .suspended then refuse s .suspended
  else
    match s.store.deposit? t with
    | none => refuse s .invalidConfig
    | some d =>
      let yard := (s.crateType t).yard
      let m := issueClamp n yard a.available d
      if yard = 0 then refuse s .noStock
      else if m = 0 then refuse s .noCredit
      else
        let s1 := s.issueCrates a.number t m d
        (s1,
          { code := if m < n then .clamped else .ok
            data := be 2 m ++ be 4 (m * d) ++ beInt 4 (s1.available a.number) })

/-- CRATE ISSUE as its owner judges it (R120). -/
def crateIssue (account crateType n : Nat) (s : State) : State × Reply :=
  match unitIndex? 8 crateType with
  | none => refuse s .range
  | some t => if !crateCountOk n then refuse s .range else onAccount account (crateIssueOn t n) s

/-- CRATE_ISSUE (R120). -/
def execCrateIssue (account crateType n : Nat) (s : State) : Outcome := .next (request 0x50 (crateIssue account crateType n) s)

/-! ## Gate sessions (R122 to R126) -/

/-- RETURN OPEN on a record (R122). -/
def returnOpenOn (g : Fin 2) (a : Account) (s : State) : State × Reply :=
  if (s.gate g).session.isSome then refuse s .busy
  else if (s.gateOf a.number).isSome then refuse s .inUse
  else
    accept
      (s.modGate g fun x =>
        { x with session := some { account := a.number, counted := Vector.replicate 8 0, rejected := 0 } })

/-- RETURN OPEN as its owner judges it (R122). -/
def returnOpen (gate account : Nat) (s : State) : State × Reply :=
  match unitIndex? 2 gate with
  | none => refuse s .range
  | some g => onAccount account (returnOpenOn g) s

/-- RETURN_OPEN (R122). -/
def execReturnOpen (gate account : Nat) (s : State) : Outcome := .next (request 0x51 (returnOpen gate account) s)

/-- The type a readable frame names: its check byte matches, its type lies in 1 to 8, and the deposit record of the type is VALID
(R123). -/
def State.readGate (s : State) (typeCode check : Byte) : Option (Fin 8) :=
  match unitIndex? 8 typeCode.toNat with
  | none => none
  | some t => if check = crc8 [typeCode] ∧ (s.store.deposit? t).isSome then some t else none

/-- A frame that a gate refuses (R123, R124). -/
def Gate.refuseFrame (x : Gate) : Gate := { x with refused := countUp Config.maxCount16 x.refused }

/-- A crate that becomes a stray, or a refused frame when the fleet count stands at 65,535 (R123, R124). -/
def State.strayCrate (s : State) (g : Fin 2) (t : Fin 8) : State :=
  if Config.maxCount16 ≤ (s.crateType t).fleet then s.modGate g Gate.refuseFrame else s.modCrateType t CrateType.addStray

/-- A frame that cannot be read: counted in the open session's rejected count, holding at 999 (R123), or in the idle gate's
refused frames (R124). -/
def Gate.unreadable (x : Gate) : Gate :=
  match x.session with
  | none => x.refuseFrame
  | some w => { x with session := some { w with rejected := countUp Config.maxSession w.rejected } }

/-- A gate frame (R123, R124). -/
def State.gateArrival (s : State) (g : Fin 2) (typeCode check : Byte) : State :=
  match s.readGate typeCode check with
  | none => s.modGate g Gate.unreadable
  | some t =>
    match (s.gate g).session with
    | none => s.strayCrate g t
    | some w =>
      if w.counted[t] < Config.maxSession then
        s.modGate g fun x => { x with session := some { w with counted := bump w.counted t (· + 1) } }
      else s.strayCrate g t

/-- GATE_FRAME (R123, R124). -/
def execGateFrame (gate : Fin 2) (typeCode check : Byte) (s : State) : Outcome :=
  .next (event (·.gateArrival gate typeCode check) s)

/-- A function of the crate type as a table of eight. -/
def tableOf (f : Fin 8 → Nat) : Vector Nat 8 := #v[f 0, f 1, f 2, f 3, f 4, f 5, f 6, f 7]

/-- The sum over the eight types. -/
def sumOf (f : Fin 8 → Nat) : Nat := (all8.map f).sum

/-- The crates of a type that a close credits: the lesser of those counted and the account's free crates (R125). -/
def Session.credited (w : Session) (a : Account) (t : Fin 8) : Nat := min w.counted[t] (a.free t)

/-- The crates of a type counted beyond the credited ones (R125). -/
def Session.excess (w : Session) (a : Account) (t : Fin 8) : Nat := w.counted[t] - w.credited a t

/-- The deposit that a close credits (R125). -/
def State.closeDeposit (s : State) (w : Session) (a : Account) : Nat := sumOf fun t => w.credited a t * s.store.deposit t

/-- One type of a settlement (R126). -/
def State.settleType (w : Session) (a : Account) (s : State) (t : Fin 8) : State :=
  (s.modCrateType t fun c =>
      { yard := c.yard + w.counted[t], fleet := c.fleet + w.excess a t,
        strays := min (c.strays + w.excess a t) Config.maxCount16 }).modHolding
    a.number t (· - w.credited a t)

/-- The settlement of a session (R126). -/
def State.settle (s : State) (g : Fin 2) (w : Session) (a : Account) : State :=
  let deposit := s.closeDeposit w a
  let s1 := ((all8.foldl (State.settleType w a) s).credit a.number deposit).modFloat (-(deposit : Int))
  s1.modGate g fun x =>
    { x with
      session := none
      lastClose :=
        some
          { account := a.number, credited := tableOf (w.credited a), excess := tableOf (w.excess a), rejected := w.rejected,
            deposit } }

/-- RETURN CLOSE of an open session on the record it names (R125). -/
def returnCloseOn (g : Fin 2) (w : Session) (a : Account) (s : State) : State × Reply :=
  if all8.any fun t => decide (Config.maxCount16 < (s.crateType t).fleet + w.excess a t) then refuse s .range
  else if !a.canCredit (s.closeDeposit w a) then refuse s .range
  else
    accept (s.settle g w a)
      (be 2 (sumOf (w.credited a)) ++ be 2 (sumOf (w.excess a)) ++ be 2 w.rejected ++ be 4 (s.closeDeposit w a))

/-- RETURN CLOSE as its owner judges it (R125). -/
def returnClose (gate : Nat) (s : State) : State × Reply :=
  match unitIndex? 2 gate with
  | none => refuse s .range
  | some g =>
    match (s.gate g).session with
    | none => refuse s .wrongState
    | some w =>
      match s.account? w.account with
      | none => refuse s .noAccount
      | some a => returnCloseOn g w a s

/-- RETURN_CLOSE (R125). -/
def execReturnClose (gate : Nat) (s : State) : Outcome := .next (request 0x52 (returnClose gate) s)

/-! ## CRATE TRANSFER and FLEET ADJUST (R128, R129) -/

/-- Crates and their deposit pass from one account to another (R128). -/
def State.transferCrates (s : State) (giver taker : Nat) (t : Fin 8) (n deposit : Nat) : State :=
  (((s.modHolding giver t (· - n)).modHolding taker t (· + n)).debit taker (n * deposit)).credit giver (n * deposit)

/-- The holding of a type that an account has. -/
def State.holdingOf (s : State) (number : Nat) (t : Fin 8) : Nat := ((s.account? number).map fun a => a.holding[t]).getD 0

/-- CRATE TRANSFER between two records (R128). -/
def crateTransferOn (t : Fin 8) (n : Nat) (a b : Account) (s : State) : State × Reply :=
  if b.state = .suspended then refuse s .suspended
  else
    match s.store.deposit? t with
    | none => refuse s .invalidConfig
    | some d =>
      if a.free t < n then refuse s .cratesShort
      else if b.available < (n * d : Nat) then refuse s .noCredit
      else if !a.canCredit (n * d) then refuse s .range
      else
        let s1 := s.transferCrates a.number b.number t n d
        accept s1 (be 2 (s1.holdingOf a.number t) ++ be 2 (s1.holdingOf b.number t) ++ beInt 4 (s1.available b.number))

/-- CRATE TRANSFER as its owner judges it (R128). -/
def crateTransfer (giver taker crateType n : Nat) (s : State) : State × Reply :=
  match unitIndex? 8 crateType with
  | none => refuse s .range
  | some t =>
    if !accountNumberOk giver ∨ !accountNumberOk taker ∨ giver = taker ∨ !crateCountOk n then refuse s .range
    else
      match s.account? giver, s.account? taker with
      | some a, some b => crateTransferOn t n a b s
      | _, _ => refuse s .noAccount

/-- CRATE_TRANSFER (R128). -/
def execCrateTransfer (giver taker crateType n : Nat) (s : State) : Outcome :=
  .next (request 0x53 (crateTransfer giver taker crateType n) s)

/-- FLEET ADJUST as its owner judges it (R129). -/
def fleetAdjust (crateType : Nat) (n : Int) (s : State) : State × Reply :=
  match unitIndex? 8 crateType with
  | none => refuse s .range
  | some t =>
    let c := s.crateType t
    if n < -65535 ∨ 65535 < n then refuse s .range
    else if (c.yard : Int) + n < 0 ∨ (Config.maxCount16 : Int) < c.fleet + n then refuse s .range
    else
      let yard := ((c.yard : Int) + n).toNat
      let fleet := ((c.fleet : Int) + n).toNat
      accept (s.modCrateType t fun c => { c with yard, fleet }) (be 2 yard ++ be 2 fleet)

/-- FLEET_ADJUST (R129). -/
def execFleetAdjust (crateType : Nat) (n : Int) (s : State) : Outcome := .next (request 0x54 (fleetAdjust crateType n) s)

/-! ## YARD READ (R130) -/

/-- The three figures of a crate type. -/
def CrateType.bytes (c : CrateType) : List Byte := be 2 c.yard ++ be 2 c.fleet ++ be 2 c.strays

/-- The session page of a gate: session open, account, rejected, counted sum, refused frames (11 section 11.4). -/
def Gate.sessionBytes (x : Gate) : List Byte :=
  [flagByte x.session.isSome] ++ be 2 ((x.session.map (·.account)).getD 0) ++ be 2 ((x.session.map (·.rejected)).getD 0) ++
    be 2 ((x.session.map fun w => sumOf (w.counted[·])).getD 0) ++ be 2 x.refused

/-- Counted figures of a gate's session for some types; 0 when the session is absent. -/
def Gate.countedBytes (x : Gate) (ts : List (Fin 8)) : List Byte :=
  ts.flatMap fun t => be 2 ((x.session.map fun w => w.counted[t]).getD 0)

/-- The first page of a gate's last close: present, account, rejected, deposit credited. -/
def Gate.closeBytes (x : Gate) : List Byte :=
  [flagByte x.lastClose.isSome] ++ be 2 ((x.lastClose.map (·.account)).getD 0) ++
    be 2 ((x.lastClose.map (·.rejected)).getD 0) ++ be 4 ((x.lastClose.map (·.deposit)).getD 0)

/-- Credited and excess of a gate's last close for some types. -/
def Gate.settledBytes (x : Gate) (ts : List (Fin 8)) : List Byte :=
  ts.flatMap fun t =>
    be 2 ((x.lastClose.map fun c => c.credited[t]).getD 0) ++ be 2 ((x.lastClose.map fun c => c.excess[t]).getD 0)

/-- The data of a page of YARD READ; none for a page not in the table (R130). -/
def State.yardPage (s : State) (page : Nat) : Option (List Byte) :=
  match page with
  | 0 => some ((s.crateType 0).bytes ++ (s.crateType 1).bytes)
  | 1 => some ((s.crateType 2).bytes ++ (s.crateType 3).bytes)
  | 2 => some ((s.crateType 4).bytes ++ (s.crateType 5).bytes)
  | 3 => some ((s.crateType 6).bytes ++ (s.crateType 7).bytes)
  | 4 => some (s.gate 0).sessionBytes
  | 5 => some (s.gate 1).sessionBytes
  | 6 => some ((s.gate 0).countedBytes [0, 1, 2, 3])
  | 7 => some ((s.gate 0).countedBytes [4, 5, 6, 7])
  | 8 => some ((s.gate 1).countedBytes [0, 1, 2, 3])
  | 9 => some ((s.gate 1).countedBytes [4, 5, 6, 7])
  | 10 => some (s.gate 0).closeBytes
  | 11 => some ((s.gate 0).settledBytes [0, 1, 2])
  | 12 => some ((s.gate 0).settledBytes [3, 4, 5])
  | 13 => some ((s.gate 0).settledBytes [6, 7])
  | 14 => some (s.gate 1).closeBytes
  | 15 => some ((s.gate 1).settledBytes [0, 1, 2])
  | 16 => some ((s.gate 1).settledBytes [3, 4, 5])
  | 17 => some ((s.gate 1).settledBytes [6, 7])
  | _ => none

/-- YARD READ as its owner judges it (R130). -/
def yardRead (page : Nat) (s : State) : State × Reply :=
  match s.yardPage page with
  | none => refuse s .range
  | some data => accept s data

/-- YARD_READ (R130). -/
def execYardRead (page : Nat) (s : State) : Outcome := .next (request 0x55 (yardRead page) s)

end Sys2Proof.Machine
end

