-- ==== Sys2Proof/Machine/ConfigStore.lean ====
section
/-! DEFINITION. Chapter 8, the configuration store (R150 to R161), and the supply monitor's active codes, which a completed timing
write replaces (R162). -/

namespace Sys2Proof.Machine

/-! ## The active supply codes (R162) -/

/-- The active codes are replaced: a change of the level code suspends detection for 2 ms, and a monitor in LOW stops its
persistence timer and returns to NORMAL; the code already active is no change (R162). -/
def Supply.setCodes (p : Supply) (level filter : Nat) : Supply :=
  if level = p.levelCode then { p with filterCode := filter }
  else
    { p with
      levelCode := level, filterCode := filter, suspend := some Config.suspendTime
      state := if p.state = .low then .normal else p.state
      persistence := if p.state = .low then none else p.persistence }

/-- The codes of the live timing record, or the defaults, become the active ones (R162). -/
def State.loadCodes (s : State) : State := s.modSupply (·.setCodes s.store.timing.level s.store.timing.filter)

/-! ## Reading (R153) -/

/-- The write buffer holds a write to a record. -/
def Store.holds (st : Store) (id : RecordId) : Bool := st.buffer.any (·.target == id)

/-- The contents that STORE READ carries: the buffered write's, or the live ones (R153). -/
def Store.shown (st : Store) (id : RecordId) : List Byte :=
  match st.buffer with
  | none => (st.live id).contents
  | some b => if b.target = id then b.contents else (st.live id).contents

/-- The data of a part of STORE READ (11 section 11.4). -/
def Store.readPart (st : Store) (id : RecordId) (partNo : Nat) : List Byte :=
  let contents := padTo 12 (st.shown id)
  if partNo = 0 then
    [id.selector, statusByte (st.live id).valid, flagByte (st.holds id),
      (st.last.map fun l => l.target.selector).getD 0#8, optCode (fun l : LastStore => l.result.byte) st.last,
      flagByte st.attention] ++ contents.take 6
  else [id.selector] ++ contents.drop 6

/-- STORE READ as its owner judges it (R153). -/
def storeRead (selector partNo : Nat) (s : State) : State × Reply :=
  match RecordId.ofSelector selector with
  | none => refuse s .range
  | some id =>
    if 1 < partNo then refuse s .range
    else accept (s.modStore fun st => { st with attention := false }) (s.store.readPart id partNo)

/-- STORE_READ (R153). -/
def execStoreRead (selector partNo : Nat) (s : State) : Outcome := .next (request 0x70 (storeRead selector partNo) s)

/-! ## Writing (R154, R156) -/

/-- The holdings of a type over all accounts. -/
def State.holdingsOf (s : State) (t : Fin 8) : Nat := (s.accountTable.accounts.map fun a => a.holding[t]).sum

/-- The IN_USE conditions that are tested at the write and again at its completion (R156): a changed tare of a type with an OPEN
lot; a changed deposit of a type that accounts hold. -/
def State.inUse (s : State) (id : RecordId) (contents : List Byte) : Bool :=
  match id with
  | .crateTare t =>
    (s.store.tare? t).any (· != field contents 0 2) &&
      s.lotTable.lots.any fun l => l.state == .opened && l.crateType == t
  | .crateDeposit t => (s.store.deposit? t).any (· != field contents 0 2) && decide (0 < s.holdingsOf t)
  | .laneCal _ => false
  | .bayPulse _ => false
  | .species _ => false
  | .tariff => false
  | .timing => false
  | .protection => false
  | .lock => false

/-- The condition tested at the write alone: the lane of a calibration holds a pending weighing (R156). -/
def State.laneInUse (s : State) : RecordId → Bool
  | .laneCal i => (s.lane i).weighing.isSome
  | .crateTare _ => false
  | .bayPulse _ => false
  | .crateDeposit _ => false
  | .species _ => false
  | .tariff => false
  | .timing => false
  | .protection => false
  | .lock => false

/-- A write enters the buffer with the target's present contents and status (R154). -/
def Store.begin (st : Store) (id : RecordId) (contents : List Byte) : Store :=
  { st with buffer := some { target := id, contents, previous := st.cells.get id, suspended := false } }

/-- STORE WRITE as its owner judges it (R154). -/
def storeWrite (selector : Nat) (bytes : List Byte) (s : State) : State × Reply :=
  match RecordId.ofSelector selector with
  | none => refuse s .range
  | some id =>
    let contents := padTo id.length bytes
    if !id.contentsOk contents then refuse s .range
    else if id.isMetrology && s.store.locked then refuse s .locked
    else if id.isTariff && s.store.activeTariff then refuse s .writeProtected
    else if id == .timing && s.store.activeTiming then refuse s .writeProtected
    else if s.store.buffer.isSome then refuse s .busy
    else if s.laneInUse id || s.inUse id contents then refuse s .inUse
    else (s.modStore (·.begin id contents), { code := .pending, data := [id.selector] })

/-- STORE_WRITE (R154). -/
def execStoreWrite (selector : Nat) (contents : List Byte) (s : State) : Outcome :=
  .next (request 0x71 (storeWrite selector contents) s)

/-! ## Completion (R155, R157) -/

/-- The record that programming leaves: VALID, with the check byte over its contents (R151). -/
def StoreRecord.written (contents : List Byte) : StoreRecord := { valid := true, contents, check := crc8 contents }

/-- The store after a completion (R155). -/
def Store.complete (st : Store) (b : WriteBuffer) (result : StoreResult) : Store :=
  { st with
    cells := st.cells.set b.target (if result = .ok then StoreRecord.written b.contents else b.previous)
    buffer := none, last := some { target := b.target, result }, attention := true }

/-- What a completed write does at the blocks at once (R157): the lane settles anew (R22), the active codes are loaded (R162). -/
def State.writeEffect (s : State) : RecordId → State
  | .laneCal i => s.calibrationChange i
  | .timing => s.loadCodes
  | .crateTare _ => s
  | .bayPulse _ => s
  | .crateDeposit _ => s
  | .species _ => s
  | .tariff => s
  | .protection => s
  | .lock => s

/-- A programming completion; a buffer that is EMPTY or SUSPENDED has none (log 3). -/
def State.programmed (s : State) : State :=
  match s.store.buffer with
  | none => s
  | some b =>
    if b.suspended then s
    else if s.inUse b.target b.contents then s.modStore (·.complete b .inUse)
    else (s.modStore (·.complete b .ok)).writeEffect b.target

/-- PROGRAMMING_COMPLETION (R155). -/
def execProgrammingCompletion (s : State) : Outcome := .next (event State.programmed s)

/-! ## Protection and lock (R158, R159) -/

/-- The active protection is loaded from the live protection word (R158). -/
def Store.loadProtection (st : Store) : Store :=
  { st with activeTariff := st.protectionFlags.1, activeTiming := st.protectionFlags.2 }

/-- LOAD PROTECTION (R158). -/
def loadProtection (s : State) : State × Reply :=
  let s1 := s.modStore Store.loadProtection
  accept s1 [flagByte s1.store.activeTariff, flagByte s1.store.activeTiming]

/-- LOAD_PROTECTION (R158). -/
def execLoadProtection (s : State) : Outcome := .next (request 0x72 loadProtection s)

/-- The CRC-8 over the live contents of the twenty metrology records, in their order (R159). -/
def Store.metrologyCrc (st : Store) : Byte := crc8 (RecordId.metrology.flatMap fun id => (st.live id).contents)

/-- METROLOGY LOCK as its owner judges it (R159). -/
def metrologyLock (check : Nat) (s : State) : State × Reply :=
  if s.store.locked then refuse s .locked
  else if s.store.buffer.isSome then refuse s .busy
  else if RecordId.metrology.any fun id => !(s.store.live id).valid then refuse s .invalidConfig
  else if check ≠ s.store.metrologyCrc.toNat then (s, { code := .mismatch, data := [s.store.metrologyCrc] })
  else (s.modStore (·.begin .lock [0x5A#8]), { code := .pending })

/-- METROLOGY_LOCK (R159). -/
def execMetrologyLock (check : Nat) (s : State) : Outcome := .next (request 0x73 (metrologyLock check) s)

/-! ## HOLD and the starts (R160, R161) -/

/-- Programming is suspended (R160). -/
def Store.suspend (st : Store) : Store :=
  { st with buffer := st.buffer.map fun b => { b with suspended := true } }

/-- A suspended write returns to programming (R160). -/
def Store.resume (st : Store) : Store :=
  { st with buffer := st.buffer.map fun b => { b with suspended := false } }

/-- The check of one record: INVALID when its check byte does not match its contents; an INVALID record stays so (R151). -/
def StoreRecord.checked (r : StoreRecord) : StoreRecord := { r with valid := r.valid && crc8 r.contents == r.check }

/-- The check of every record except the target of a held write (R160). -/
def Store.checkAll (st : Store) : Store :=
  { st with
    cells :=
      RecordId.all.foldl (fun c id => if st.holds id then c else c.set id (c.get id).checked) st.cells }

/-- The store at the end of a start: checked, protection loaded, a held write resumed (R160). -/
def Store.start (st : Store) : Store := st.checkAll.loadProtection.resume

/-- FREE VALUE (log 10). A torn record: INVALID, with whatever its cells hold (R151, R161). -/
def tornRecord (occurrence : Nat) (id : RecordId) : StoreRecord :=
  { valid := false, contents := (List.range id.length).map (Config.tornByte occurrence), check := Config.tornByte occurrence 12 }

/-- The loss of the write buffer at a cold start: its target's cells are part-written (R161). -/
def Store.loseBuffer (st : Store) (occurrence : Nat) : Store :=
  match st.buffer with
  | none => st
  | some b => { st with cells := st.cells.set b.target (tornRecord occurrence b.target), buffer := none }

/-- The volatile fields of the store are lost with the main supply; a held write stays in its buffer (R160; logs 20 and 23). -/
def Store.lose (st : Store) : Store :=
  { st.suspend with activeTariff := false, activeTiming := false, last := none, attention := false }

end Sys2Proof.Machine
end

