-- ==== Sys2Proof/Machine/Ice.lean ====
section
/-! DEFINITION. Chapter 7, ice bays (R134 to R149). -/

namespace Sys2Proof.Machine

/-! ## The bunker (R134, R145) -/

/-- The free stock: bunker stock less bunker reservation when that is positive, and 0 otherwise (R134). -/
def IceUnit.free (u : IceUnit) : Nat := u.stock - u.reservation

/-- Changes the bunker figures. -/
def State.modIce (s : State) (f : IceUnit → IceUnit) : State := { s with ice := f s.ice }

/-- ICE STOCK ADD as its owner judges it (R145). -/
def iceStockAdd (grams : Nat) (s : State) : State × Reply :=
  if grams < 1 ∨ Config.maxBunker < grams then refuse s .range
  else
    let s1 := s.modIce fun u => { u with stock := min (u.stock + grams) Config.maxBunker }
    (s1,
      { code := if Config.maxBunker < s.ice.stock + grams then .clamped else .ok
        data := be 4 s1.ice.stock ++ be 4 s1.ice.free })

/-- ICE_STOCK_ADD (R145). -/
def execIceStockAdd (grams : Nat) (s : State) : Outcome := .next (request 0x62 (iceStockAdd grams) s)

/-! ## Taking an order (R135 to R137) -/

/-- An order as it is taken: price and pulse weight copied, the reservations from Q (R137). -/
def IceOrder.taken (account q price pulseWeight : Nat) : IceOrder :=
  { account, q, price, pulseWeight, charge := q * price, stock := q * 1000, aborted := false }

/-- A bay that begins to dispense (R137). -/
def Bay.dispense (b : Bay) (o : IceOrder) (pulseTimeout : Nat) : Bay :=
  { b with
    state := .dispensing, order := some o, delivered := 0, runOnPulses := 0, pulseTimer := some pulseTimeout,
    runOnTimer := none, release := true }

/-- The changes of a taken order (R137). -/
def State.takeOrder (s : State) (b : Fin 4) (o : IceOrder) : State :=
  ((s.reserve o.account o.charge).modIce fun u => { u with reservation := u.reservation + o.stock }).modBay b
    (·.dispense o s.store.timing.pulse)

/-- The stock clamp of R136. -/
def stockClamp (q free : Nat) : Nat := min q (free / 1000)

/-- The credit clamp of R136. -/
def creditClamp (q : Nat) (available : Int) (price : Nat) : Nat :=
  if 0 < price then min q (available / price).toNat else q

/-- The conditions of R135 from the account's state on. -/
def iceOrderOn (b : Fin 4) (q : Nat) (a : Account) (s : State) : State × Reply :=
  if a.state = .suspended then refuse s .suspended
  else
    match s.store.tariff?, s.store.pulseWeight? b with
    | some t, some w =>
      let price := t.icePrice a.kind
      let q1 := stockClamp q s.ice.free
      let q2 := creditClamp q1 a.available price
      if q1 = 0 then refuse s .noStock
      else if q2 = 0 then refuse s .noCredit
      else
        let s1 := s.takeOrder b (IceOrder.taken a.number q2 price w)
        (s1,
          { code := if q2 < q then .clamped else .ok
            data := be 2 q2 ++ be 4 (q2 * price) ++ beInt 4 (s1.available a.number) })
    | _, _ => refuse s .invalidConfig

/-- ICE ORDER as its owner judges it (R135). -/
def iceOrder (account bay q : Nat) (s : State) : State × Reply :=
  match unitIndex? 4 bay with
  | none => refuse s .range
  | some b =>
    if !accountNumberOk account ∨ q < 1 ∨ 5000 < q then refuse s .range
    else if (s.bay b).state ≠ .idle then refuse s .busy
    else
      match s.account? account with
      | none => refuse s .noAccount
      | some a => iceOrderOn b q a s

/-- ICE_ORDER (R135). -/
def execIceOrder (account bay q : Nat) (s : State) : Outcome := .next (request 0x60 (iceOrder account bay q) s)

/-! ## Completion (R143) -/

/-- The kilograms charged: the lesser of Q and the delivered grams rounded to the nearest kilogram, half up (R143). -/
def chargedKilograms (q delivered : Nat) : Nat := min q ((delivered + 500) / 1000)

/-- The bay after a completion (R143): the last completion replaced, the order removed, the attention flag set, IDLE. -/
def Bay.complete (b : Bay) (o : IceOrder) (code : IceCode) : Bay :=
  let kg := chargedKilograms o.q b.delivered
  { b with
    state := .idle, order := none, delivered := 0, runOnPulses := 0, pulseTimer := none, runOnTimer := none, release := false,
    last :=
      some { code, account := o.account, q := o.q, delivered := b.delivered, kilograms := kg, charge := kg * o.price }
    attention := true }

/-- A completion (R143); a bay without an order has none. -/
def State.completeOrder (s : State) (b : Fin 4) (code : IceCode) : State :=
  match (s.bay b).order with
  | none => s
  | some o =>
    let d := (s.bay b).delivered
    let charge := chargedKilograms o.q d * o.price
    let s1 := (s.release o.account o.charge charge).modHall fun h => { h with ice := h.ice + BitVec.ofNat 64 charge }
    let s2 := s1.modIce fun u => { u with reservation := u.reservation - o.stock, stock := u.stock - d }
    s2.modBay b (·.complete o code)

/-- The code of an order that completes at the end of its run-on (R141). -/
def IceOrder.runOnCode (o : IceOrder) : IceCode := if o.aborted then .aborted else .done

/-- Entry into run-on (R141): the gate is shut, the run-on timer started; with a window of 0 the order completes at once. -/
def State.enterRunOn (s : State) (b : Fin 4) (o : IceOrder) : State :=
  let window := s.store.timing.runOn
  let s1 := s.modBay b fun x =>
    { x with
      state := .runOn, order := some o, runOnPulses := 0, pulseTimer := none, runOnTimer := some window, release := false }
  if window = 0 then s1.completeOrder b o.runOnCode else s1

/-! ## Metering (R139 to R141) -/

/-- A pulse that is not counted (R139). -/
def Bay.ignorePulse (x : Bay) : Bay := { x with ignored := countUp Config.maxCount16 x.ignored }

/-- A pulse in DISPENSING (R139). -/
def State.dispensePulse (s : State) (b : Fin 4) (o : IceOrder) : State :=
  let s1 := s.modBay b fun x =>
    { x with delivered := x.delivered + o.pulseWeight, pulseTimer := some s.store.timing.pulse }
  if o.q * 1000 ≤ (s1.bay b).delivered then s1.enterRunOn b { o with aborted := false } else s1

/-- A pulse in RUN_ON (R139). -/
def Bay.runOnPulse (x : Bay) (o : IceOrder) : Bay :=
  if x.runOnPulses < 8 then { x with delivered := x.delivered + o.pulseWeight, runOnPulses := x.runOnPulses + 1 }
  else x.ignorePulse

/-- A pulse on a bay's pulse input (R139). -/
def State.pulse (s : State) (b : Fin 4) : State :=
  match (s.bay b).state, (s.bay b).order with
  | .dispensing, some o => s.dispensePulse b o
  | .runOn, some o => s.modBay b (·.runOnPulse o)
  | .idle, _ => s.modBay b Bay.ignorePulse
  | .dispensing, none => s.modBay b Bay.ignorePulse
  | .runOn, none => s.modBay b Bay.ignorePulse

/-- BAY_PULSE (R139). -/
def execBayPulse (bay : Fin 4) (s : State) : Outcome := .next (event (·.pulse bay) s)

/-- The expiry of the pulse timer: a jam. A pulse taken first has restarted the timer, and the expiry does not happen (R140). -/
def State.jam (s : State) (b : Fin 4) : State := if runOut (s.bay b).pulseTimer then s.completeOrder b .jam else s

/-- PULSE_TIMER_EXPIRY (R140). -/
def execPulseTimerExpiry (bay : Fin 4) (s : State) : Outcome := .next (event (·.jam bay) s)

/-- The expiry of the run-on timer (R141). -/
def State.runOnExpiry (s : State) (b : Fin 4) : State :=
  if !runOut (s.bay b).runOnTimer then s
  else
    match (s.bay b).order with
    | none => s
    | some o => s.completeOrder b o.runOnCode

/-- RUN_ON_TIMER_EXPIRY (R141). -/
def execRunOnTimerExpiry (bay : Fin 4) (s : State) : Outcome := .next (event (·.runOnExpiry bay) s)

/-! ## ICE ABORT (R142) -/

/-- The data of ICE ABORT: the bay's state and d as they stand after it. -/
def Bay.abortBytes (x : Bay) : List Byte := [x.state.byte] ++ be 3 x.delivered

/-- ICE ABORT of a bay in range (R142). -/
def iceAbortOn (b : Fin 4) (s : State) : State × Reply :=
  match (s.bay b).state, (s.bay b).order with
  | .dispensing, some o =>
    let s1 := s.enterRunOn b { o with aborted := true }
    accept s1 (s1.bay b).abortBytes
  | .runOn, some _ => accept s (s.bay b).abortBytes
  | .idle, _ => refuse s .wrongState
  | .dispensing, none => refuse s .wrongState
  | .runOn, none => refuse s .wrongState

/-- ICE ABORT as its owner judges it (R142). -/
def iceAbort (bay : Nat) (s : State) : State × Reply :=
  match unitIndex? 4 bay with
  | none => refuse s .range
  | some b => iceAbortOn b s

/-- ICE_ABORT (R142). -/
def execIceAbort (bay : Nat) (s : State) : Outcome := .next (request 0x61 (iceAbort bay) s)

/-! ## BAY READ (R146) -/

/-- The pages of BAY READ with their number of parts (11 section 11.4; log 15). -/
def bayPageParts (page : Nat) : Option Nat := if page ≤ 2 then some 2 else if page = 3 then some 1 else none

/-- The number of bays with an order in flight. -/
def State.ordersInFlight (s : State) : Nat := (all4.filter fun b => (s.bay b).order.isSome).length

/-- The data of BAY READ (11 section 11.4). -/
def State.bayPage (s : State) (b : Fin 4) (page partNo : Nat) : List Byte :=
  let x := s.bay b
  let ord (f : IceOrder → Nat) : Nat := (x.order.map f).getD 0
  let last (f : LastIce → Nat) : Nat := (x.last.map f).getD 0
  if page = 0 then
    if partNo = 0 then
      [x.state.byte, flagByte x.release, flagByte x.attention, optCode (fun l : LastIce => l.code.byte) x.last] ++
        be 2 (last (·.account)) ++ be 2 (last (·.q)) ++ be 2 (last (·.kilograms))
    else be 3 (last (·.delivered)) ++ be 4 (last (·.charge))
  else if page = 1 then
    if partNo = 0 then
      [flagByte x.order.isSome] ++ be 2 (ord (·.account)) ++ be 2 (ord (·.q)) ++ be 2 (ord (·.price)) ++
        be 2 (ord (·.pulseWeight)) ++ [flagByte (x.order.any (·.aborted))]
    else
      be 4 (ord (·.charge)) ++ be 3 x.delivered ++ be 1 x.runOnPulses ++ be 2 (x.pulseTimer.getD (x.runOnTimer.getD 0))
  else if page = 2 then
    if partNo = 0 then be 4 s.ice.stock ++ be 4 s.ice.reservation ++ be 1 s.ordersInFlight else be 4 s.ice.free
  else be 2 x.ignored

/-- What a read clears: page 0 the attention flag, page 3 the ignored pulses (R146). -/
def Bay.readEffect (x : Bay) (page : Nat) : Bay :=
  if page = 0 then { x with attention := false } else if page = 3 then { x with ignored := 0 } else x

/-- BAY READ as its owner judges it (R146). -/
def bayRead (bay page partNo : Nat) (s : State) : State × Reply :=
  match unitIndex? 4 bay, bayPageParts page with
  | some b, some parts =>
    if parts ≤ partNo then refuse s .range else accept (s.modBay b (·.readEffect page)) (s.bayPage b page partNo)
  | _, _ => refuse s .range

/-- BAY_READ (R146). -/
def execBayRead (bay page partNo : Nat) (s : State) : Outcome := .next (request 0x63 (bayRead bay page partNo) s)

/-! ## HOLD, starts and RECORDS CLEAR (R147 to R149) -/

/-- A bay at the entry into HOLD and at the assertion of the reset line: its order completes SUPPLY (R147, R148). -/
def State.bayHold (s : State) (b : Fin 4) : State := s.completeOrder b .supply

/-- A bay at a start (R148): IDLE, timers stopped, gate shut, ignored pulses 0. -/
def Bay.start (x : Bay) : Bay := { Bay.fresh with last := x.last, attention := x.attention }

/-- A bay at RECORDS CLEAR (R149). -/
def Bay.clear (x : Bay) : Bay := { x with last := none, attention := false, ignored := 0 }

end Sys2Proof.Machine
end

