-- ==== Sys2Proof/Machine/Supply.lean ====
section
/-! DEFINITION. Chapter 9, supply monitor and record retention (R162 to R168): detection, HOLD, the starts, the reset line and
RECORDS CLEAR. Voltages are in millivolts (log 18). -/

namespace Sys2Proof.Machine

/-! ## Levels and times (R162) -/

/-- The detection level of a level code: 4.00 V plus 0.05 V times the code (R162). -/
def levelMillivolts (code : Nat) : Nat := 4000 + 50 * code

/-- The persistence time of a filter code in milliseconds (R162). -/
def persistenceTime : Nat → Nat
  | 0 => 0
  | 1 => 1
  | 2 => 4
  | _ => 16

/-- The main supply is below the detection level. -/
def Supply.below (p : Supply) (mv : Nat) : Bool := decide (mv < levelMillivolts p.levelCode)

/-- The main supply is above the detection level plus 0.10 V (R164). -/
def Supply.recovered (p : Supply) (mv : Nat) : Bool := decide (levelMillivolts p.levelCode + 100 < mv)

/-! ## HOLD (R164) -/

/-- What every block does at the entry into HOLD and at the assertion of the reset line (R23, R75, R147, R160, R115, R166): every
lane, both rostra, every bay, the store, the totals copy (log 21 for what the manual names at HOLD and at the start alone). -/
def State.endInFlight (s : State) : State :=
  let s1 := all8.foldl State.laneHold s
  let s2 := (s1.rostrumHoldEntry .a).rostrumHoldEntry .b
  let s3 := all4.foldl State.bayHold s2
  (s3.modStore Store.suspend).setTotals none

/-- Entry into HOLD: in-flight work ends; a start that waits for the reset line is given up for the SUPPLY_RESUME to come (R164,
R166; log 21). -/
def State.enterHold (s : State) : State :=
  s.endInFlight.modSupply fun p => { p with state := .hold, persistence := none, starting := none }

/-- The supply is seen below the level in NORMAL (R162): HOLD at once with filter code 0, else LOW. -/
def State.lowSupply (s : State) : State :=
  if s.supply.filterCode = 0 then s.enterHold
  else s.modSupply fun p => { p with state := .low, persistence := some (persistenceTime p.filterCode) }

/-! ## Starts (R164 to R167) -/

/-- The end of a start: the store checks its records, loads the protection and resumes a held write; every block sets itself up;
the codes are loaded and detection is suspended; the port makes the start answer its pending answer (R160, R23, R76, R148, R176,
R162). -/
def State.finishStart (s : State) : State :=
  let s1 := s.modStore Store.start
  let s2 := all8.foldl (fun s i => s.modLane i fun l => l.start (s1.store.laneCal i)) s1
  let s3 := (s2.modRostrum .a Rostrum.start).modRostrum .b Rostrum.start
  let s4 := all4.foldl (fun s b => s.modBay b Bay.start) s3
  let s5 := (s4.setTotals none).modPort fun _ => Port.start
  s5.loadCodes.modSupply fun p => { p with suspend := some Config.suspendTime, starting := none }

/-- A start begins: its cause is recorded and the restart flag set (R167, log 27); it finishes at once unless the reset line is
asserted (R166). -/
def State.beginStart (s : State) (cause : RestartCause) : State :=
  let s1 := s.modSupply fun p => { p with cause, restartFlag := true, starting := some cause }
  if s.supply.resetLine then s1 else s1.finishStart

/-! ## Detection (R162) -/

/-- The supply falls: acts in NORMAL while detection is not suspended (R162). -/
def State.supplyFalls (s : State) (mv : Nat) : State :=
  let p := s.supply
  if !p.absent && p.state == .normal && p.suspend.isNone && p.below mv then s.lowSupply else s

/-- SUPPLY_FALL (R162). -/
def execSupplyFall (millivolts : Nat) (s : State) : Outcome := .next (s.supplyFalls millivolts)

/-- The persistence timer is stopped and the monitor is NORMAL (R162). -/
def Supply.toNormal (p : Supply) : Supply := { p with state := .normal, persistence := none }

/-- The supply rises: acts in LOW while detection is not suspended (R162). -/
def State.supplyRises (s : State) (mv : Nat) : State :=
  let p := s.supply
  if !p.absent && p.state == .low && p.suspend.isNone && !p.below mv then s.modSupply Supply.toNormal else s

/-- SUPPLY_RISE (R162). -/
def execSupplyRise (millivolts : Nat) (s : State) : Outcome := .next (s.supplyRises millivolts)

/-- The persistence timer expires: LOW enters HOLD (R162). -/
def State.persistenceExpiry (s : State) : State :=
  let p := s.supply
  if !p.absent && p.state == .low && runOut p.persistence then s.enterHold else s

/-- PERSISTENCE_TIMER_EXPIRY (R162). -/
def execPersistenceTimerExpiry (s : State) : Outcome := .next s.persistenceExpiry

/-- The end of the 2 ms suspension: the supply is compared as it stands (R162). In LOW, which a reset line can leave, a supply at or
above the level ends LOW; in HOLD nothing is compared (log 17). -/
def State.suspendEnd (s : State) (mv : Nat) : State :=
  let p := s.supply
  if p.absent || !runOut p.suspend then s
  else
    let s1 := s.modSupply fun p => { p with suspend := none }
    match p.state with
    | .normal => if p.below mv then s1.lowSupply else s1
    | .low => if p.below mv then s1 else s1.modSupply Supply.toNormal
    | .hold => s1
    | .recovering => s1

/-- DETECTION_SUSPEND_END (R162). -/
def execDetectionSuspendEnd (millivolts : Nat) (s : State) : Outcome := .next (s.suspendEnd millivolts)

/-! ## The way out of HOLD (R164) -/

/-- In HOLD the supply rises above the level plus 0.10 V (R164). A suspension that still runs in HOLD does not hide the crossing: the
model's choice of log 17. -/
def State.recoveryRises (s : State) (mv : Nat) : State :=
  let p := s.supply
  if !p.absent && p.state == .hold && p.recovered mv then
    s.modSupply fun p => { p with state := .recovering, recovery := some Config.recoveryTime }
  else s

/-- RECOVERY_RISE (R164). -/
def execRecoveryRise (millivolts : Nat) (s : State) : Outcome := .next (s.recoveryRises millivolts)

/-- In RECOVERING the supply falls to or below the level plus 0.10 V (R164), suspended or not (log 17). -/
def State.recoveryFalls (s : State) (mv : Nat) : State :=
  let p := s.supply
  if !p.absent && p.state == .recovering && !p.recovered mv then
    s.modSupply fun p => { p with state := .hold, recovery := none }
  else s

/-- RECOVERY_FALL (R164). -/
def execRecoveryFall (millivolts : Nat) (s : State) : Outcome := .next (s.recoveryFalls millivolts)

/-- The supply monitor as a recovery or a power-on leaves it: NORMAL, timers stopped, detection suspended for 2 ms (R164, R165). -/
def Supply.restarted (p : Supply) : Supply :=
  { p with state := .normal, persistence := none, recovery := none, suspend := some Config.suspendTime }

/-- The recovery timer expires: a warm start with cause SUPPLY_RESUME (R164). -/
def State.recoveryExpiry (s : State) : State :=
  let p := s.supply
  if !p.absent && p.state == .recovering && runOut p.recovery then
    (s.modSupply Supply.restarted).beginStart .supplyResume
  else s

/-- RECOVERY_TIMER_EXPIRY (R164). -/
def execRecoveryTimerExpiry (s : State) : Outcome := .next s.recoveryExpiry

/-! ## Loss of the main supply, and power-on (R165) -/

/-- The supply monitor without main supply: only the latch and the pin of the reset line mean anything (R165; log 23). -/
def Supply.lose (p : Supply) : Supply :=
  { levelCode := Timing.default.level, filterCode := Timing.default.filter, state := .normal, persistence := none, recovery := none,
    suspend := none, latch := p.latch, cause := .none, restartFlag := false, absent := true, resetLine := p.resetLine,
    starting := none }

/-- Every volatile field of every block is lost (R165; log 23). -/
def State.loseVolatile (s : State) : State :=
  let s1 := all8.foldl (fun s i => s.modLane i Lane.lose) s
  let s2 := (s1.modRostrum .a Rostrum.lose).modRostrum .b Rostrum.lose
  let s3 := all4.foldl (fun s b => s.modBay b fun _ => Bay.fresh) s2
  (((s3.setTotals none).modStore Store.lose).modPort fun _ => Port.start).modSupply Supply.lose

/-- The main supply becomes absent, in any state (R164, R165). -/
def State.supplyLost (s : State) : State := if s.supply.absent then s else s.loseVolatile

/-- SUPPLY_ABSENT (R165). -/
def execSupplyAbsent (s : State) : Outcome := .next s.supplyLost

/-- The backup monitor is armed while the main supply is absent, and then sets the latch (R165). -/
def State.backupFalls (s : State) : State := if s.supply.absent then s.modSupply fun p => { p with latch := true } else s

/-- BACKUP_LOW (R165). -/
def execBackupLow (s : State) : Outcome := .next s.backupFalls

/-- Every retained record is cleared at a cold start; the store loses its write buffer, and a torn target counts one free value
(R165, R23, R48, R76, R117, R133, R148, R161). -/
def State.coldClear (s : State) : State :=
  { s with
    lanes := Vector.replicate 8 (Lane.fresh false 2 1 5)
    lotTable := LotTable.empty
    rostrumA := Rostrum.fresh [] (Vector.replicate 96 none)
    rostrumB := Rostrum.fresh [] (Vector.replicate 96 none)
    accountTable := AccountTable.empty
    crates := CratePool.empty
    ice := { stock := 0, reservation := 0, bays := Vector.replicate 4 Bay.fresh }
    store := s.store.loseBuffer s.freeCount
    freeCount := if s.store.buffer.isSome then s.freeCount + 1 else s.freeCount }

/-- The retained records at a POWER_ON_WARM start: pending parts and lots on the clock (R47, R76), reserved and the bunker
reservation (R116, R148). -/
def State.warmReconcile (s : State) : State :=
  s.reconcileLots.dropReserved.modIce fun u => { u with reservation := 0 }

/-- A power-on (R165): the latch decides warm or cold and is cleared; the active codes stand from here on (log 19). -/
def State.powersOn (s : State) : State :=
  if s.supply.absent then
    let cold := s.supply.latch
    let s1 := if cold then s.coldClear else s.warmReconcile
    let s2 := s1.modSupply fun p =>
      { p.restarted with
        latch := false, absent := false, levelCode := s1.store.timing.level, filterCode := s1.store.timing.filter }
    s2.beginStart (if cold then .powerOnCold else .powerOnWarm)
  else s

/-- POWER_ON (R165). -/
def execPowerOn (s : State) : Outcome := .next s.powersOn

/-! ## The reset line (R166) -/

/-- The pin of the reset line. -/
def Supply.setPin (p : Supply) (asserted : Bool) : Supply := { p with resetLine := asserted }

/-- The assertion of the reset line: outside HOLD it ends the work in flight and begins a warm start; in HOLD, in an unfinished
start and without supply it has no effect of its own (R166). -/
def State.resetAsserted (s : State) : State :=
  if s.trading then (s.endInFlight.modSupply (·.setPin true)).beginStart .resetLine else s.modSupply (·.setPin true)

/-- RESET_LINE_ASSERT (R166). -/
def execResetLineAssert (s : State) : Outcome := .next s.resetAsserted

/-- The release of the reset line finishes a start that waits for it (R166). -/
def State.resetReleased (s : State) : State :=
  let s1 := s.modSupply (·.setPin false)
  if s.supply.starting.isSome && !s.supply.absent && !s.supply.inHold then s1.finishStart else s1

/-- RESET_LINE_RELEASE (R166). -/
def execResetLineRelease (s : State) : Outcome := .next s.resetReleased

/-! ## Requests (R163, R168) -/

/-- SUPPLY SET as its owner judges it (R163). -/
def supplySet (level filter : Nat) (s : State) : State × Reply :=
  if 11 < level ∨ 3 < filter then refuse s .range
  else if s.store.activeTiming then refuse s .writeProtected
  else accept (s.modSupply (·.setCodes level filter)) (be 1 level ++ be 1 filter ++ be 2 (levelMillivolts level / 10))

/-- SUPPLY_SET (R163). -/
def execSupplySet (level filter : Nat) (s : State) : Outcome := .next (request 0x78 (supplySet level filter) s)

/-- Something that RECORDS CLEAR waits for is in flight (R168). -/
def State.inFlight (s : State) : Bool :=
  s.rostrumA.state != .idle || s.rostrumB.state != .idle || all4.any (fun b => (s.bay b).state != .idle) ||
    all8.any (fun i => (s.lane i).weighing.isSome) || all2.any (fun g => (s.gate g).session.isSome)

/-- Every block clears its retained records (R168, R24, R48, R77, R117, R133, R149); the store and the supply monitor keep theirs. -/
def State.clearRecords (s : State) : State :=
  let s1 := all8.foldl (fun s i => s.modLane i Lane.clear) s
  let s2 := (s1.modRostrum .a Rostrum.clear).modRostrum .b Rostrum.clear
  let s3 := all4.foldl (fun s b => s.modBay b Bay.clear) s2
  let s4 := s3.modIce fun u => { u with stock := 0, reservation := 0 }
  { s4 with lotTable := LotTable.empty, accountTable := AccountTable.empty, crates := CratePool.empty }

/-- RECORDS CLEAR as its owner judges it (R168). -/
def recordsClear (s : State) : State × Reply := if s.inFlight then refuse s .busy else accept s.clearRecords

/-- RECORDS_CLEAR (R168). -/
def execRecordsClear (s : State) : Outcome := .next (request 0x79 recordsClear s)

end Sys2Proof.Machine
end

