-- ==== Sys2Proof/Machine/Port.lean ====
section
/-! DEFINITION. Chapter 10, the request port (R169 to R176), and the bad frames of the station lines (R178). -/

namespace Sys2Proof.Machine

/-! ## STATUS and PORT SET (R173, R174) -/

/-- The data of STATUS as they stand when it is taken (R173). -/
def State.statusData (s : State) : List Byte :=
  [s.laneFlagsByte, s.blockFlagsByte, flagByte s.supply.restartFlag, s.supply.cause.byte] ++ be 1 s.port.errorCount ++
    be 1 s.port.errorLimit ++ [flagByte s.port.crcSetting, flagByte s.lotTable.dayWrap]

/-- What STATUS clears once its answer is formed (R173). -/
def State.statusClear (s : State) : State :=
  (s.modPort fun p => { p with errorCount := 0, linkFault := false }).modSupply fun p =>
    { p with cause := .none, restartFlag := false }

/-- STATUS (R173): the answer is formed before the clear. -/
def State.takeStatus (s : State) : State :=
  s.statusClear.endFrame s.port.crcSetting (s.formAnswer 0x01 AnswerCode.ok.byte false false s.statusData)

/-- STATUS (R173). -/
def execStatus (s : State) : Outcome := .next (event State.takeStatus s)

/-- PORT SET as the port judges it (R174): the limit applies at once; the setting counts for frames from n + 2 on, which the end of
this frame sees to. -/
def portSet (setting limit : Nat) (s : State) : State × Reply :=
  if 1 < setting ∨ limit < 1 ∨ 15 < limit then refuse s .range
  else
    accept
      (s.modPort fun p =>
        { p with
          crcSetting := setting == 1, errorLimit := limit, linkFault := p.linkFault || decide (limit ≤ p.errorCount) })
      (be 1 setting ++ be 1 limit)

/-- PORT_SET (R174). -/
def execPortSet (setting limit : Nat) (s : State) : Outcome := .next (request 0x02 (portSet setting limit) s)

/-! ## Frames that are no request (R169 to R172) -/

/-- The answer code of a discarded frame (R172). -/
def discarded : Byte := 255#8

/-- A frame shorter than the frame length (R169). -/
def State.shortArrives (s : State) : State := s.endFrame s.port.crcSetting (s.formAnswer 0 discarded true false [])

/-- SHORT_FRAME (R169). -/
def execShortFrame (s : State) : Outcome := .next (event State.shortArrives s)

/-- A CRC error counts, and sets LINK_FAULT when the count reaches the limit (R170). -/
def Port.crcError (p : Port) : Port :=
  let count := countUp 15 p.errorCount
  { p with errorCount := count, linkFault := p.linkFault || decide (p.errorLimit ≤ count) }

/-- A frame that fails its CRC check (R170). With CRC off no frame is checked, and nothing happens (log 4). -/
def State.crcErrArrives (code : Byte) (s : State) : State :=
  if s.port.frameCrc then
    let s1 := s.modPort Port.crcError
    s1.endFrame s.port.crcSetting (s1.formAnswer code discarded false true [])
  else s

/-- CRC_ERR (R170). -/
def execCrcErr (code : Byte) (s : State) : Outcome := .next (event (State.crcErrArrives code) s)

/-- A code that names no request is answered UNKNOWN_REQUEST; a byte 14 that is not 0 is answered RANGE (R171). A code that names no
request with a byte 14 that is not 0 meets both, for which R171 states no order: UNKNOWN_REQUEST is the model's choice of log 33. -/
def unknownRequest (code : Byte) (s : State) : State × Reply :=
  if namesRequest code then refuse s .range else refuse s .unknownRequest

/-- UNKNOWN_REQUEST (R171). -/
def execUnknownRequest (code _byte14 : Byte) (s : State) : Outcome := .next (request code (unknownRequest code) s)

/-! ## Bad frames of the station lines (R178) -/

/-- A byte run of the wrong length, or with a stop-bit error (R178). -/
def State.malformed (s : State) : StationLine → State
  | .lane i => s.badSample i
  | .rostrum r => s.modRostrum r Rostrum.reject
  | .gate g => s.modGate g Gate.unreadable

/-- MALFORMED_LINE_FRAME (R178). -/
def execMalformedLineFrame (line : StationLine) (s : State) : Outcome := .next (event (·.malformed line) s)

end Sys2Proof.Machine
end

