-- ==== Sys2Proof/Machine/Dispatch.lean ====
section
/-! DEFINITION. One arm per command of Instr: a direct call of its meaning. -/

namespace Sys2Proof.Machine

/-- The effect of a command on everything but the queue. -/
def exec (i : Instr) (s : State) : Host.Outcome State Fault Refusal :=
  match i with
  | .status => Sys2Proof.Machine.execStatus s
  | .portSet setting limit => Sys2Proof.Machine.execPortSet setting limit s
  | .shortFrame => Sys2Proof.Machine.execShortFrame s
  | .crcErr code => Sys2Proof.Machine.execCrcErr code s
  | .unknownRequest code byte14 => Sys2Proof.Machine.execUnknownRequest code byte14 s
  | .laneSet lane enable k band m => Sys2Proof.Machine.execLaneSet lane enable k band m s
  | .laneZero lane => Sys2Proof.Machine.execLaneZero lane s
  | .laneRead lane partNo => Sys2Proof.Machine.execLaneRead lane partNo s
  | .openLot boat species crateType => Sys2Proof.Machine.execOpenLot boat species crateType s
  | .takeWeighing number part lane crates => Sys2Proof.Machine.execTakeWeighing number part lane crates s
  | .closeLot number part => Sys2Proof.Machine.execCloseLot number part s
  | .cancelLot number part => Sys2Proof.Machine.execCancelLot number part s
  | .queueLot number part rostrum position override => Sys2Proof.Machine.execQueueLot number part rostrum position override s
  | .unqueueLot number part => Sys2Proof.Machine.execUnqueueLot number part s
  | .returnLot number part => Sys2Proof.Machine.execReturnLot number part s
  | .retireLot number part => Sys2Proof.Machine.execRetireLot number part s
  | .lotRead selector number part page partNo => Sys2Proof.Machine.execLotRead selector number part page partNo s
  | .dayClose => Sys2Proof.Machine.execDayClose s
  | .rostrumStart rostrum => Sys2Proof.Machine.execRostrumStart rostrum s
  | .rostrumHold rostrum => Sys2Proof.Machine.execRostrumHold rostrum s
  | .rostrumResume rostrum => Sys2Proof.Machine.execRostrumResume rostrum s
  | .rostrumStop rostrum => Sys2Proof.Machine.execRostrumStop rostrum s
  | .rostrumRead rostrum page partNo => Sys2Proof.Machine.execRostrumRead rostrum page partNo s
  | .deskAssign rostrum desk buyer => Sys2Proof.Machine.execDeskAssign rostrum desk buyer s
  | .deskRelease rostrum desk => Sys2Proof.Machine.execDeskRelease rostrum desk s
  | .addAccount number kind limit cls => Sys2Proof.Machine.execAddAccount number kind limit cls s
  | .accountSet number presence limit cls state => Sys2Proof.Machine.execAccountSet number presence limit cls state s
  | .accountRead number page partNo => Sys2Proof.Machine.execAccountRead number page partNo s
  | .accountNext number => Sys2Proof.Machine.execAccountNext number s
  | .closeAccount number => Sys2Proof.Machine.execCloseAccount number s
  | .paymentIn number amount => Sys2Proof.Machine.execPaymentIn number amount s
  | .paymentOut number amount => Sys2Proof.Machine.execPaymentOut number amount s
  | .hallTotals page => Sys2Proof.Machine.execHallTotals page s
  | .crateIssue account crateType n => Sys2Proof.Machine.execCrateIssue account crateType n s
  | .returnOpen gate account => Sys2Proof.Machine.execReturnOpen gate account s
  | .returnClose gate => Sys2Proof.Machine.execReturnClose gate s
  | .crateTransfer giver taker crateType n => Sys2Proof.Machine.execCrateTransfer giver taker crateType n s
  | .fleetAdjust crateType n => Sys2Proof.Machine.execFleetAdjust crateType n s
  | .yardRead page => Sys2Proof.Machine.execYardRead page s
  | .iceOrder account bay q => Sys2Proof.Machine.execIceOrder account bay q s
  | .iceAbort bay => Sys2Proof.Machine.execIceAbort bay s
  | .iceStockAdd grams => Sys2Proof.Machine.execIceStockAdd grams s
  | .bayRead bay page partNo => Sys2Proof.Machine.execBayRead bay page partNo s
  | .storeRead selector partNo => Sys2Proof.Machine.execStoreRead selector partNo s
  | .storeWrite selector contents => Sys2Proof.Machine.execStoreWrite selector contents s
  | .loadProtection => Sys2Proof.Machine.execLoadProtection s
  | .metrologyLock check => Sys2Proof.Machine.execMetrologyLock check s
  | .supplySet level filter => Sys2Proof.Machine.execSupplySet level filter s
  | .recordsClear => Sys2Proof.Machine.execRecordsClear s
  | .sampleFrame lane status count => Sys2Proof.Machine.execSampleFrame lane status count s
  | .silenceTimerExpiry lane => Sys2Proof.Machine.execSilenceTimerExpiry lane s
  | .stabilityTimerExpiry lane => Sys2Proof.Machine.execStabilityTimerExpiry lane s
  | .ticketLineSent lane => Sys2Proof.Machine.execTicketLineSent lane s
  | .malformedLineFrame line => Sys2Proof.Machine.execMalformedLineFrame line s
  | .pressFrame rostrum desk quantity check => Sys2Proof.Machine.execPressFrame rostrum desk quantity check s
  | .stepTimerExpiry rostrum => Sys2Proof.Machine.execStepTimerExpiry rostrum s
  | .showTimerExpiry rostrum => Sys2Proof.Machine.execShowTimerExpiry rostrum s
  | .rostrumFrameSent rostrum => Sys2Proof.Machine.execRostrumFrameSent rostrum s
  | .gateFrame gate typeCode check => Sys2Proof.Machine.execGateFrame gate typeCode check s
  | .bayPulse bay => Sys2Proof.Machine.execBayPulse bay s
  | .pulseTimerExpiry bay => Sys2Proof.Machine.execPulseTimerExpiry bay s
  | .runOnTimerExpiry bay => Sys2Proof.Machine.execRunOnTimerExpiry bay s
  | .programmingCompletion => Sys2Proof.Machine.execProgrammingCompletion s
  | .supplyFall millivolts => Sys2Proof.Machine.execSupplyFall millivolts s
  | .supplyRise millivolts => Sys2Proof.Machine.execSupplyRise millivolts s
  | .persistenceTimerExpiry => Sys2Proof.Machine.execPersistenceTimerExpiry s
  | .detectionSuspendEnd millivolts => Sys2Proof.Machine.execDetectionSuspendEnd millivolts s
  | .recoveryRise millivolts => Sys2Proof.Machine.execRecoveryRise millivolts s
  | .recoveryFall millivolts => Sys2Proof.Machine.execRecoveryFall millivolts s
  | .recoveryTimerExpiry => Sys2Proof.Machine.execRecoveryTimerExpiry s
  | .supplyAbsent => Sys2Proof.Machine.execSupplyAbsent s
  | .backupLow => Sys2Proof.Machine.execBackupLow s
  | .powerOn => Sys2Proof.Machine.execPowerOn s
  | .resetLineAssert => Sys2Proof.Machine.execResetLineAssert s
  | .resetLineRelease => Sys2Proof.Machine.execResetLineRelease s

end Sys2Proof.Machine
end

