-- ==== Sys2Proof/Machine/Step.lean ====
section
/-! DEFINITION. One step: the oldest waiting command, or one millisecond when none waits. -/

namespace Sys2Proof.Machine

/-- The oldest command is taken and carried out on the rest of the queue. On an empty queue the part idles and one millisecond
passes (log 2). -/
def step (s : State) : Host.Outcome State Fault Refusal :=
  match s.pending with
  | [] => .next s.tick
  | c :: rest => exec c { s with pending := rest }

/-- The command that a table word spells, put in front of the queue; no row of the table has bits, so no word spells one. -/
def State.withFetchWord (s : State) (nbits w : Nat) : State :=
  match decodeTableWord nbits w with
  | none => s
  | some c => { s with pending := c :: s.pending }

end Sys2Proof.Machine
end

