-- ==== Sys2Proof/Safety.lean ====
section
/-! DEFINITION. The invariants of the part: what the rules say holds at every moment, as properties of a state. -/

namespace Sys2Proof

/-- The commands that act whether or not the part trades: the supply monitor's rows and the reset line (R162, R164 to R166). -/
def Instr.ofSupply (c : Instr) : Bool :=
  match c with
  | .supplyFall _ => true
  | .supplyRise _ => true
  | .persistenceTimerExpiry => true
  | .detectionSuspendEnd _ => true
  | .recoveryRise _ => true
  | .recoveryFall _ => true
  | .recoveryTimerExpiry => true
  | .supplyAbsent => true
  | .backupLow => true
  | .powerOn => true
  | .resetLineAssert => true
  | .resetLineRelease => true
  | _ => false

end Sys2Proof

namespace Sys2Proof.Machine

/-! ## The account table -/

/-- R95: 0 to 512 records in ascending order of number, with no two of the same number; the record count is the number of records,
and the balance sum the sum of their balances. -/
def AccountTable.Tallied (t : AccountTable) : Prop :=
  t.accounts.Pairwise (fun a b => a.number < b.number) ∧ t.accounts.length ≤ 512 ∧ t.recordCount = t.accounts.length ∧
    t.balanceSum = (t.accounts.map (·.balance)).sum

/-- R110, the money identity: the balances plus commission, levy, buyer fee, ice revenue and deposit float equal cash in less cash
out, in the 64 bits of the counters. -/
def AccountTable.Balanced (t : AccountTable) : Prop :=
  BitVec.ofInt 64 t.balanceSum + t.hall.commission + t.hall.levy + t.hall.fee + t.hall.ice + t.hall.depositFloat =
    t.hall.cashIn - t.hall.cashOut

/-- R96, the credit floor: the available credit of every account is 0 or more. -/
def AccountTable.Floored (t : AccountTable) : Prop := ∀ a ∈ t.accounts, 0 ≤ a.available

/-! ## The lot table -/

/-- The living lots: at most 1,024, with keys in their ranges and snapshots whose levy is in its range (02 section 2.1); the
lot-number counter lies in 1 to 9,999 and the day index in 0 to 255 (R25, R26). -/
def LotTable.Sound (t : LotTable) : Prop :=
  t.lots.length ≤ 1024 ∧ 1 ≤ t.counter ∧ t.counter ≤ 9999 ∧ t.day ≤ 255 ∧
    ∀ l ∈ t.lots, 1 ≤ l.key.number ∧ l.key.number ≤ 9999 ∧ l.key.part ≤ 7 ∧ ∀ x ∈ l.snapshot, x.levy ≤ 50

/-- The ranges of a lot record (02 section 2.1). The crates of a lot and of its pending part are at most 255, its weighings with the
pending one at most 16 (R29, R31); G is at most 9,600,000 g and present in the lots of part 0 alone; the division is that of a lane,
and present from the first weighing on. R34, R44: every lot past OPEN has a snapshot and a net that is a multiple of its division,
from 20e to 9,600,000 g. -/
structure Lot.Ranged (l : Lot) : Prop where
  crates : l.n + (l.pending.map (·.crates)).getD 0 ≤ 255
  weighings : l.weighings.length + l.pending.toList.length ≤ 16
  entries : ∀ w ∈ l.weighings, 1 ≤ w.lane ∧ w.lane ≤ 8 ∧ 1 ≤ w.crates ∧ w.crates ≤ 99 ∧ w.gross ≤ 9600000
  pending : ∀ p ∈ l.pending, 1 ≤ p.lane ∧ p.lane ≤ 8 ∧ 1 ≤ p.crates ∧ p.crates ≤ 99
  gross : ∀ g ∈ l.gross, g ≤ 9600000
  weighed : l.gross.isSome = true ↔ l.key.part = 0
  opened : l.state = .opened → l.key.part = 0
  division : ∀ e ∈ l.division, e ∈ [1, 2, 5, 10, 20, 50, 100]
  divided : l.weighings ≠ [] → l.division.isSome = true
  valued :
    l.state ≠ .opened →
      l.snapshot.isSome = true ∧ ∃ e ∈ l.division, ∃ net ∈ l.net, (e : Int) ∣ net ∧ 20 * (e : Int) ≤ net ∧ net ≤ 9600000

/-- Every living lot is within its ranges. -/
def LotTable.Ranged (t : LotTable) : Prop := ∀ l ∈ t.lots, l.Ranged

/-- A lane that is enabled or in use has a VALID calibration record (R15, R23). -/
def State.Calibrated (s : State) : Prop :=
  ∀ i, (s.lane i).enabled = true ∨ (s.lane i).state ≠ .off → (s.store.laneCal? i).isSome = true

/-! ## Lanes and rostra -/

/-- A lane record within the ranges of 01 section 1.1: settings, window and history lengths, runs, at most 4 ticket lines; a pending
weighing only in ACTIVE (R16 to R19); a fault cause in FAULT alone (R3); no filtered value and nothing stable in OFF and FAULT, and
no silence timer in OFF (R3, R15). -/
def Lane.Sound (l : Lane) : Prop :=
  l.k ≤ 4 ∧ l.band ≤ 3 ∧ 2 ≤ l.m ∧ l.m ≤ 15 ∧ l.window.length ≤ 2 ^ l.k ∧ l.history.length ≤ l.m ∧ l.badRun ≤ 8 ∧
    l.goodRun ≤ 16 ∧ l.tickets.length ≤ 4 ∧ (l.weighing.isSome → l.state = .active) ∧ (l.cause.isSome ↔ l.state = .fault) ∧
    (l.state = .off ∨ l.state = .fault → l.window = [] ∧ l.history = [] ∧ l.reading = none ∧ l.stable = false) ∧
    (l.state = .off → l.silence = none)

/-- A rostrum record as 03 section 3.2 lists its states: a lot on the clock in RUNNING and HELD alone, the step timer in RUNNING
alone, the show timer in SHOWING alone; at most 128 queued lots (R49), 16 desk answers (R73) and one waiting clock frame (R72);
nothing waits for an idle line (log 8). -/
def Rostrum.Sound (x : Rostrum) : Prop :=
  (x.offer.isSome ↔ x.state = .running ∨ x.state = .held) ∧ (x.stepTimer.isSome ↔ x.state = .running) ∧
    (x.showTimer.isSome ↔ x.state = .showing) ∧ x.queue.length ≤ 128 ∧ x.answersQueued ≤ 16 ∧
    (x.out.filter fun f => !f.isAnswer).length ≤ 1 ∧ (x.sending = none → x.out = []) ∧ x.rejected ≤ 65535 ∧
    x.dropped ≤ 65535 ∧ x.displacedCount ≤ 255

/-! ## The ice bays -/

/-- A bay record as 07 section 7.2 lists its states: an order except in IDLE; the release output on in DISPENSING alone (R138); the
pulse timer in DISPENSING and the run-on timer in RUN_ON alone; reservations from Q (R137). -/
def Bay.Sound (x : Bay) : Prop :=
  (x.order.isNone ↔ x.state = .idle) ∧ (x.release = true ↔ x.state = .dispensing) ∧
    (x.pulseTimer.isSome ↔ x.state = .dispensing) ∧ (x.runOnTimer.isSome ↔ x.state = .runOn) ∧ x.runOnPulses ≤ 8 ∧
    ∀ o ∈ x.order, 1 ≤ o.q ∧ o.q ≤ 5000 ∧ o.charge = o.q * o.price ∧ o.stock = o.q * 1000

/-- The charge reservations of the orders in flight that name an account. -/
def State.chargesOf (s : State) (number : Nat) : Nat :=
  (all4.map fun b => ((s.bay b).order.map fun o => if o.account = number then o.charge else 0).getD 0).sum

/-- The stock reservations of the orders in flight. -/
def State.stockReserved (s : State) : Nat := (all4.map fun b => ((s.bay b).order.map (·.stock)).getD 0).sum

/-- The ice books: sound bays; orders only while the part trades, each of an account that exists (R102, R147); the bunker stock
within its range (R145); and, while the main supply is present, every account's reserved the sum of its charge reservations (R108)
and the bunker reservation the sum of the stock reservations (R134). -/
def State.IceBooks (s : State) : Prop :=
  (∀ b, (s.bay b).Sound) ∧ (s.trading = false → ∀ b, (s.bay b).order = none) ∧
    (∀ b, ∀ o ∈ (s.bay b).order, (s.account? o.account).isSome) ∧ s.ice.stock ≤ 2000000000 ∧
    (s.supply.absent = false →
      (∀ a ∈ s.accountTable.accounts, a.reserved = s.chargesOf a.number) ∧ s.ice.reservation = s.stockReserved)

/-! ## The store, the supply monitor, the port -/

/-- R150 and R151: a VALID record has a check byte that agrees with its contents, contents of its length, and values in their
ranges; the lock word, which STORE WRITE cannot write, reads LOCKED when VALID. -/
def StoreRecord.Sound (id : RecordId) (r : StoreRecord) : Prop :=
  r.valid = true →
    crc8 r.contents = r.check ∧ r.contents.length = id.length ∧
      if id = .lock then r.contents = [0x5A#8] else id.contentsOk r.contents = true

/-- Every record is sound, and so are the contents and the previous record of a held write (R154, R155). -/
def Store.Sound (st : Store) : Prop :=
  (∀ id, (st.cells.get id).Sound id) ∧
    ∀ b ∈ st.buffer, b.previous.Sound b.target ∧ (StoreRecord.written b.contents).Sound b.target

/-- 09 section 9.1: the persistence timer runs in LOW alone and the recovery timer in RECOVERING alone; without main supply the
monitor does nothing (R165); an unfinished start waits for the release of the reset line, outside HOLD (R166). -/
def Supply.Sound (p : Supply) : Prop :=
  (p.persistence.isSome ↔ p.state = .low) ∧ (p.recovery.isSome ↔ p.state = .recovering) ∧
    (p.absent = true → p.state = .normal ∧ p.suspend = none ∧ p.starting = none) ∧
    (p.starting.isSome → p.resetLine = true ∧ p.inHold = false)

/-- 10, R170, R174: the link error count holds at 15, the limit lies in 1 to 15, and LINK_FAULT is set while the count stands at or
above the limit. -/
def Port.Sound (p : Port) : Prop :=
  p.errorCount ≤ 15 ∧ 1 ≤ p.errorLimit ∧ p.errorLimit ≤ 15 ∧ (p.errorLimit ≤ p.errorCount → p.linkFault = true)

/-! ## The crate pool -/

/-- R118, crate conservation for a type: the yard stock plus all holdings equals the fleet count. -/
def State.Conserved (s : State) (t : Fin 8) : Prop := (s.crateType t).yard + s.holdingsOf t = (s.crateType t).fleet

/-- The crates that a lot binds of its boat's holding (R28): its own until it is SOLD, and those of its pending weighing. -/
def Lot.bound (l : Lot) : Nat := (if l.state = .sold then 0 else l.n) + (l.pending.map (·.crates)).getD 0

/-- The crates of a type that the lots of one boat bind (R28). -/
def LotTable.bound (t : LotTable) (boat : Nat) (ty : Fin 8) : Nat :=
  (t.lots.map fun l => if l.boat = boat ∧ l.crateType = ty then l.bound else 0).sum

/-- The crate books. R118: every type is conserved. R28: every account's committed count of a type is what its lots bind, and is no
greater than its holding; a lot that binds crates has its boat's record. -/
structure State.CrateBooks (s : State) : Prop where
  conserved : ∀ t, s.Conserved t
  covered : ∀ a ∈ s.accountTable.accounts, ∀ t : Fin 8, a.committed[t] ≤ a.holding[t]
  committed : ∀ a ∈ s.accountTable.accounts, ∀ t : Fin 8, a.committed[t] = s.lotTable.bound a.number t
  owned : ∀ l ∈ s.lotTable.lots, l.bound ≠ 0 → (s.account? l.boat).isSome = true

/-- The deposit books. R111, the deposit identity: the deposit float is the sum over the types of the deposit times all holdings, in
the 64 bits of the counter. R156: a type that accounts hold has a VALID deposit record. -/
structure State.DepositBooks (s : State) : Prop where
  identity :
    s.accountTable.hall.depositFloat = BitVec.ofNat 64 (all8.map fun t => s.store.deposit t * s.holdingsOf t).sum
  backed : ∀ t, 0 < s.holdingsOf t → (s.store.deposit? t).isSome = true

/-! ## Lots, queues, offers and pending weighings together -/

/-- The lots stand in key order, one lot a key (R45). Of the parts of one number all but the highest are SOLD (R44), and part 0 lives
while any of them does (R41). -/
def LotTable.Keyed (t : LotTable) : Prop :=
  t.lots.Pairwise (fun a b => a.key.before b.key = true) ∧
    (∀ a ∈ t.lots, ∀ b ∈ t.lots, a.key.number = b.key.number → a.key.part < b.key.part → a.state = .sold) ∧
    ∀ a ∈ t.lots, ∃ b ∈ t.lots, b.key = { number := a.key.number, part := 0 }

/-- What the lot table, the rostra and the lanes say of each other. R49: a lot is in a rostrum queue exactly when it is QUEUED, and
then in one queue once; each rostrum has at most one ON_CLOCK lot, which is its current lot. R16, R30: a lane's pending weighing is
the pending part of an OPEN lot, and the other way round. Without main supply, offers and the lanes' weighings are lost (R165), and
the lots alone keep their part; outside trading nothing is in flight (R164, R166). -/
structure State.Linked (s : State) : Prop where
  keyed : s.lotTable.Keyed
  nodup : ∀ r, (s.rostrum r).queue.Nodup
  queued : ∀ r, ∀ key ∈ (s.rostrum r).queue, ∃ l ∈ s.lotTable.lots, l.key = key ∧ l.state = .queued ∧ l.rostrum = some r
  inQueue : ∀ l ∈ s.lotTable.lots, l.state = .queued → ∃ r, l.rostrum = some r ∧ l.key ∈ (s.rostrum r).queue
  onClock :
    ∀ r, ∀ o ∈ (s.rostrum r).offer, ∃ l ∈ s.lotTable.lots, l.key = o.key ∧ l.state = .onClock ∧ l.rostrum = some r
  offered :
    ∀ l ∈ s.lotTable.lots, l.state = .onClock →
      ∃ r, l.rostrum = some r ∧ (s.supply.absent = false → ∃ o ∈ (s.rostrum r).offer, o.key = l.key)
  oneOnClock :
    ∀ a ∈ s.lotTable.lots, ∀ b ∈ s.lotTable.lots, a.state = .onClock → b.state = .onClock → a.rostrum = b.rostrum → a.key = b.key
  pending :
    ∀ i, ∀ p ∈ (s.lane i).weighing,
      ∃ l ∈ s.lotTable.lots, l.key = p.key ∧ l.pending = some { lane := unitNumber i, crates := p.crates }
  weighing :
    ∀ l ∈ s.lotTable.lots, ∀ p ∈ l.pending, l.state = .opened ∧
      (s.supply.absent = false →
        ∃ i : Fin 8, p.lane = unitNumber i ∧ ∃ w ∈ (s.lane i).weighing, w.key = l.key ∧ w.crates = p.crates)
  still : s.trading = false → (∀ r, (s.rostrum r).offer = none) ∧ ∀ i, (s.lane i).weighing = none

/-- The desk entries on both rostra that name an account (R59). -/
def State.desksOf (s : State) (number : Nat) : Nat :=
  (s.rostrumA.desks.toList ++ s.rostrumB.desks.toList).countP (· == some number)

/-- The counts that other blocks keep in the account records. R59: every desk count is the number of desk entries that name the
account. R112: every live-lot count is the number of living lots of the boat; every lot names a BOAT account that exists, and every
desk entry a BUYER account that exists. -/
structure State.Counted (s : State) : Prop where
  desks : ∀ a ∈ s.accountTable.accounts, a.deskCount = s.desksOf a.number
  lots : ∀ a ∈ s.accountTable.accounts, a.liveLots = s.lotTable.lots.countP (·.boat == a.number)
  boats : ∀ l ∈ s.lotTable.lots, ∃ a ∈ s.account? l.boat, a.kind = .boat
  buyers : ∀ r d, ∀ n ∈ (s.rostrum r).desk d, ∃ a ∈ s.account? n, a.kind = .buyer

/-- What the blocks hold while the main supply is absent (R165): the retained fields, and every volatile field fresh, which is the
model's choice of log 23; a held write is suspended (log 20). -/
structure State.Dark (s : State) : Prop where
  lanes : ∀ i, s.lane i = Lane.fresh (s.lane i).enabled (s.lane i).k (s.lane i).band (s.lane i).m
  rostra : ∀ r, s.rostrum r = Rostrum.fresh (s.rostrum r).queue (s.rostrum r).desks
  bays : ∀ b, s.bay b = Bay.fresh
  totals : s.accountTable.totals = none
  store :
    s.store.last = none ∧ s.store.attention = false ∧ s.store.activeTariff = false ∧ s.store.activeTiming = false ∧
      ∀ w ∈ s.store.buffer, w.suspended = true

/-! ## The end of the work in flight -/

/-- Head insertions by the clock: the keys of both rostra, where there are any. -/
def bothKeys (f : RostrumId → Option Key) : List Key := [RostrumId.a, RostrumId.b].filterMap f

/-- A rostrum whose queue takes a lot at its head, if there is one to take; a queue of 128 first loses its tail, which the displaced
report counts (R50). -/
def Rostrum.takes (x : Rostrum) (key : Option Key) : Rostrum :=
  match key with
  | none => x
  | some k =>
    if x.queue.length < 128 then { x with queue := k :: x.queue }
    else
      { x with
        queue := k :: x.queue.dropLast, displacedCount := min (x.displacedCount + 1) 255, displacedKey := x.queue.getLast? }

/-- The tail that a full queue loses to a lot taken at its head (R50). -/
def Rostrum.displaces (x : Rostrum) (key : Option Key) : Option Key :=
  if key.isSome ∧ 128 ≤ x.queue.length then x.queue.getLast? else none

/-- A lot after the weighings of `weighed` ended (R32), the lots `back` went back to QUEUED and the lots `displaced` were displaced
(R42, R50). -/
def Lot.settled (weighed back displaced : List Key) (l : Lot) : Lot :=
  { l with
    pending := if l.key ∈ weighed then none else l.pending
    state := if l.key ∈ back then .queued else if l.key ∈ displaced then .ready else l.state
    rostrum := if l.key ∈ displaced then none else l.rostrum }

/-- The crates of a type that the weighings in flight hold committed for a boat. -/
def State.weighedCrates (s : State) (boat : Nat) (ty : Fin 8) : Nat :=
  (all8.map fun i =>
    match (s.lane i).weighing with
    | none => 0
    | some p => ((s.lot? p.key).map fun l => if l.boat = boat ∧ l.crateType = ty then p.crates else 0).getD 0).sum

/-- The kilograms and the charge of a bay's order that ends now: the lesser of Q and d rounded to the kilogram, at its price (R143). -/
def Bay.kilogramsNow (x : Bay) : Nat := (x.order.map fun o => min o.q ((x.delivered + 500) / 1000)).getD 0

/-- The charge of a bay's order that ends now (R143). -/
def Bay.chargeNow (x : Bay) : Nat := (x.order.map fun o => x.kilogramsNow * o.price).getD 0

/-- The charges of an account's orders that end now. -/
def State.chargesNowOf (s : State) (number : Nat) : Nat :=
  (all4.map fun b => if (s.bay b).order.map (·.account) = some number then (s.bay b).chargeNow else 0).sum

/-- The charges of all orders that end now. -/
def State.chargesNow (s : State) : Nat := (all4.map fun b => (s.bay b).chargeNow).sum

/-- A completion of the order `o` at bay `b` with `d` grams delivered (R143): the account's reserved falls by R and its balance by the
charge of the kilograms delivered, which the ice revenue gains; the bunker loses d and the stock reservation; the bay is IDLE with
the completion recorded. -/
structure State.OrderCompleted (s t : State) (b : Fin 4) (o : IceOrder) (d : Nat) (code : IceCode) : Prop where
  account :
    ∀ a, s.account? o.account = some a →
      t.account? o.account =
        some { a with reserved := a.reserved - o.charge, balance := a.balance - (min o.q ((d + 500) / 1000) * o.price : Nat) }
  others : ∀ n, n ≠ o.account → t.account? n = s.account? n
  table :
    t.accountTable =
      { s.accountTable with
        accounts := t.accountTable.accounts
        balanceSum := s.accountTable.balanceSum - (min o.q ((d + 500) / 1000) * o.price : Nat)
        hall :=
          { s.accountTable.hall with
            ice := s.accountTable.hall.ice + BitVec.ofNat 64 (min o.q ((d + 500) / 1000) * o.price) } }
  bunker : t.ice.reservation = s.ice.reservation - o.stock ∧ t.ice.stock = s.ice.stock - d
  bay :
    t.bay b =
      { s.bay b with
        state := .idle, order := none, delivered := 0, runOnPulses := 0, pulseTimer := none, runOnTimer := none
        release := false, attention := true
        last :=
          some
            { code, account := o.account, q := o.q, delivered := d, kilograms := min o.q ((d + 500) / 1000)
              charge := min o.q ((d + 500) / 1000) * o.price } }
  bays : ∀ c, c ≠ b → t.bay c = s.bay c
  rest : t = { s with accountTable := t.accountTable, ice := t.ice }

/-- An ending of lane `i`'s pending weighing `p` other than TAKEN (R19, R32): the lot loses its pending part, its boat's crates are
released, and the lane records the result and sets its attention flag. -/
def State.weighingEnded (s : State) (i : Fin 8) (p : PendingWeighing) (lot : Lot) (result : WeighResult) (gross : Option Int) :
    State :=
  ((s.modLot p.key fun x => { x with pending := none }).modAccount lot.boat fun a =>
      { a with committed := a.committed.set lot.crateType (a.committed[lot.crateType] - p.crates) }).modLane i fun l =>
    { l with weighing := none, attention := true, last := some { result, gross, key := p.key, number := none, ticket := none } }

/-- What the entry into HOLD and the assertion of the reset line make of every block but the supply monitor. Each pending weighing
ends RESTART (R23, R32), each lot on the clock goes back to the head of its queue (R75), each ice order completes SUPPLY with its
charge (R143, R147), programming is suspended (R160), the totals copy is lost (R115); everything else keeps its value (R164). That
the silence timers, the ticket queues and the totals copy end at the assertion as they do at HOLD is the model's choice of log 21. -/
structure State.WorkEnded (s t : State) : Prop where
  lanes :
    ∀ i, t.lane i =
      { s.lane i with
        weighing := none, tickets := [], silence := none
        last :=
          match (s.lane i).weighing with
          | none => (s.lane i).last
          | some p => some { result := .restart, gross := none, key := p.key, number := none, ticket := none }
        attention := (s.lane i).attention || (s.lane i).weighing.isSome }
  rostra :
    ∀ r, t.rostrum r =
      { (s.rostrum r).takes ((s.rostrum r).offer.map (·.key)) with
        state := .idle, offer := none, stepTimer := none, showTimer := none, sending := none, out := [] }
  lots :
    s.Linked →
      t.lotTable =
        { s.lotTable with
          lots :=
            s.lotTable.lots.map <|
              Lot.settled (all8.filterMap fun i => (s.lane i).weighing.map (·.key))
                (bothKeys fun r => (s.rostrum r).offer.map (·.key))
                (bothKeys fun r => (s.rostrum r).displaces ((s.rostrum r).offer.map (·.key))) }
  counter :
    t.lotTable.counter = s.lotTable.counter ∧ t.lotTable.day = s.lotTable.day ∧ t.lotTable.dayWrap = s.lotTable.dayWrap
  bays :
    ∀ b, t.bay b =
      match (s.bay b).order with
      | none => s.bay b
      | some o =>
        { s.bay b with
          state := .idle, order := none, delivered := 0, runOnPulses := 0, pulseTimer := none, runOnTimer := none
          release := false, attention := true
          last :=
            some
              { code := .supply, account := o.account, q := o.q, delivered := (s.bay b).delivered
                kilograms := (s.bay b).kilogramsNow, charge := (s.bay b).chargeNow } }
  bunker :
    t.ice.reservation = s.ice.reservation - s.stockReserved ∧
      t.ice.stock = s.ice.stock - (all4.map fun b => if (s.bay b).order.isSome then (s.bay b).delivered else 0).sum
  accounts :
    s.IceBooks →
      t.accountTable =
        { accounts :=
            s.accountTable.accounts.map fun a =>
              { a with
                reserved := a.reserved - s.chargesOf a.number, balance := a.balance - s.chargesNowOf a.number
                committed := Vector.ofFn fun ty => a.committed[ty] - s.weighedCrates a.number ty }
          recordCount := s.accountTable.recordCount, balanceSum := s.accountTable.balanceSum - s.chargesNow
          hall := { s.accountTable.hall with ice := s.accountTable.hall.ice + BitVec.ofNat 64 s.chargesNow }, totals := none }
  store : t.store = { s.store with buffer := s.store.buffer.map fun w => { w with suspended := true } }
  rest : t.crates = s.crates ∧ t.port = s.port ∧ t.freeCount = s.freeCount ∧ t.pending = s.pending

/-! ## The starts -/

/-- What the end of a start makes of the state `s` in which it is reached: lanes (R23), rostra (R76), bays (R148), the store's check
of every record but a held write's target, the load of the protection and the resumed write (R160, R161), the port (R176), the active
codes and the 2 ms suspension (R162, R166), the cause and the restart flag (R167). Lots, accounts, crates and the bunker are kept. -/
structure State.Started (s t : State) (cause : RestartCause) : Prop where
  lanes :
    ∀ i, t.lane i =
      { s.lane i with
        state := if (s.lane i).enabled then .settling else .off
        window := [], history := [], reading := none, samples := 0, stable := false, overload := false, underload := false
        badRun := 0, goodRun := 0, cause := none, zero := (t.store.laneCal i).zero, tracking := 0, zeroLimit := false
        silence := if (s.lane i).enabled then some 250 else none, weighing := none, tickets := [] }
  rostra :
    ∀ r, t.rostrum r =
      { s.rostrum r with
        state := .idle, offer := none, stepTimer := none, showTimer := none, sending := none, out := [], rejected := 0
        dropped := 0 }
  bays :
    ∀ b, t.bay b =
      { state := .idle, order := none, delivered := 0, runOnPulses := 0, pulseTimer := none, runOnTimer := none, release := false
        last := (s.bay b).last, attention := (s.bay b).attention, ignored := 0 }
  records :
    ∀ id, t.store.cells.get id =
      if (s.store.buffer.map (·.target)) = some id then s.store.cells.get id
      else
        { s.store.cells.get id with
          valid := (s.store.cells.get id).valid && crc8 (s.store.cells.get id).contents == (s.store.cells.get id).check }
  store :
    t.store =
      { cells := t.store.cells, buffer := s.store.buffer.map fun w => { w with suspended := false }
        activeTariff := t.store.protectionFlags.1, activeTiming := t.store.protectionFlags.2, last := s.store.last
        attention := s.store.attention }
  supply :
    t.supply.cause = cause ∧ t.supply.restartFlag = true ∧ t.supply.suspend = some 2 ∧ t.supply.starting = none ∧
      t.supply.levelCode = t.store.timing.level ∧ t.supply.filterCode = t.store.timing.filter
  port :
    t.port =
      { crcSetting := true, frameCrc := true, errorCount := 0, errorLimit := 4, linkFault := false
        answer := { request := 0, code := 255, summary := 9, data := List.replicate 12 0 } }
  runs : t.trading = true ∧ t.attentionLine = true
  kept :
    t.lotTable = s.lotTable ∧ t.accountTable = { s.accountTable with totals := none } ∧ t.crates = s.crates ∧
      t.ice.stock = s.ice.stock ∧ t.ice.reservation = s.ice.reservation ∧ t.freeCount = s.freeCount ∧ t.pending = s.pending

/-- The lot that a power-on finds ON_CLOCK for a rostrum (R76). -/
def State.foundOnClock (s : State) (r : RostrumId) : Option Key :=
  (s.lotTable.lots.find? fun l => decide (l.state = .onClock ∧ l.rostrum = some r)).map (·.key)

/-- The crates of a type in the pending parts that a power-on finds in a boat's lots (R47). -/
def State.foundCrates (s : State) (boat : Nat) (ty : Fin 8) : Nat :=
  (s.lotTable.lots.map fun l =>
    if l.boat = boat ∧ l.crateType = ty then (l.pending.map (·.crates)).getD 0 else 0).sum

/-- The retained records as a warm power-on puts them right: no pending part, its crates released (R47); each lot found ON_CLOCK at
the head of its rostrum's queue (R76); every reserved and the bunker reservation 0, with no charge (R116, R148). -/
structure State.Reconciled (s u : State) : Prop where
  lots :
    s.Linked →
      u.lotTable =
        { s.lotTable with
          lots :=
            s.lotTable.lots.map <|
              Lot.settled (s.lotTable.lots.map (·.key)) (bothKeys s.foundOnClock)
                (bothKeys fun r => (s.rostrum r).displaces (s.foundOnClock r)) }
  rostra : s.Linked → ∀ r, u.rostrum r = (s.rostrum r).takes (s.foundOnClock r)
  accounts :
    u.accountTable =
      { s.accountTable with
        accounts :=
          s.accountTable.accounts.map fun a =>
            { a with
              reserved := 0, committed := Vector.ofFn fun ty => a.committed[ty] - s.foundCrates a.number ty } }
  rest :
    u =
      { s with
        lotTable := u.lotTable, rostrumA := u.rostrumA, rostrumB := u.rostrumB, accountTable := u.accountTable
        ice := { s.ice with reservation := 0 } }

end Sys2Proof.Machine
end

