-- ==== Sys2Proof/Certificates/Slice0/Obligations.lean ====
section
/-! DEFINITION. The statements for the provers. Every completion statement gives the whole next state: what it does not write in the
state it names is unchanged. -/

open Sys2Proof Sys2Proof.Machine

/-! ## The line of commands and the port's handling of a request -/

/-- Taking a command: step at a state whose oldest command is c is exec of c on the rest of the queue. -/
def Obligations.StepTakesTheOldestCommand : Prop :=
  ∀ (c : Instr) (rest : List Instr) (s : State), s.pending = c :: rest → step s = exec c { s with pending := rest }

/-- The model's choice of log 2: on an empty queue one millisecond passes, which takes 1 from every running timer (down to 0) and
changes nothing else. -/
def Obligations.EmptyQueueLetsOneMillisecondPass : Prop :=
  ∀ s : State, s.pending = [] → ∃ t, step s = .next t ∧
    (∀ i, t.lane i =
      { s.lane i with
        silence := (s.lane i).silence.map (· - 1)
        weighing := (s.lane i).weighing.map fun p => { p with timer := p.timer - 1 } }) ∧
    (∀ r, t.rostrum r =
      { s.rostrum r with
        stepTimer := (s.rostrum r).stepTimer.map (· - 1), showTimer := (s.rostrum r).showTimer.map (· - 1) }) ∧
    (∀ b, t.bay b =
      { s.bay b with
        pulseTimer := (s.bay b).pulseTimer.map (· - 1), runOnTimer := (s.bay b).runOnTimer.map (· - 1) }) ∧
    t.supply =
      { s.supply with
        persistence := s.supply.persistence.map (· - 1), recovery := s.supply.recovery.map (· - 1),
        suspend := s.supply.suspend.map (· - 1) } ∧
    t.lotTable = s.lotTable ∧ t.accountTable = s.accountTable ∧ t.crates = s.crates ∧ t.ice.stock = s.ice.stock ∧
    t.ice.reservation = s.ice.reservation ∧ t.store = s.store ∧ t.port = s.port ∧ t.freeCount = s.freeCount ∧ t.pending = []

/-- No command stops the part, and none touches the queue. -/
def Obligations.EveryCommandCompletesAndKeepsTheQueue : Prop :=
  ∀ (c : Instr) (s : State), ∃ t, exec c s = .next t ∧ t.pending = s.pending

/-- In HOLD, in reset and without main supply, no request is executed and no arrival, expiry or completion is taken (R164, R176;
log 7 for the reset line and the unpowered part). -/
def Obligations.OutsideTradingNothingIsTaken : Prop :=
  ∀ (c : Instr) (s : State), c.ofSupply = false → s.trading = false → exec c s = .next s

/-- A refused request (an answer code above CLAMPED) changes nothing but the pending answer and the frame length in force. -/
def Obligations.RefusedRequestChangesNothing : Prop :=
  ∀ (c : Instr) (s t : State) (body : List Byte),
    encodeRequest c = some body → s.trading = true → exec c s = .next t → 3 ≤ t.port.answer.code.toNat →
      t = s.endFrame s.port.crcSetting t.port.answer

/-- R172: the answer to a request carries its code and twelve data bytes; the setting that stood when the frame was taken is the one
of the next frame (R174). That the status summary is that of the state the request leaves, for every request but STATUS (which
clears flags after its answer is formed, R173), is the model's choice of log 5. -/
def Obligations.AnswerNamesItsRequest : Prop :=
  ∀ (c : Instr) (s t : State) (code : Byte) (rest : List Byte),
    encodeRequest c = some (code :: rest) → s.trading = true → exec c s = .next t →
      t.port.answer.request = code ∧ t.port.answer.data.length = 12 ∧ t.port.frameCrc = s.port.crcSetting ∧
        (c ≠ .status → t.port.answer.summary = t.summary false false)

/-- R169 and R177: the frame of every well-formed request, with any bytes clocked before it, is received as that request with every
operand as it was encoded, with CRC on and with CRC off. -/
def Obligations.EncodedRequestsAreReceived : Prop :=
  ∀ (i : Instr) (crcOn : Bool) (frame earlier : List Byte),
    i.wf = true → requestFrame crcOn i = some frame → receive crcOn (earlier ++ frame) = i

/-! ## Reset and the invariants -/

/-- The state right after the first power-up (a cold start, log 1), field by field as the chapters give them: lanes disabled with
default settings (R23), no lots, counter 1, day 0 (R48), rostra IDLE and empty (R76), no accounts and every counter 0 (R117), no
crates (R133), no ice (R148), no record VALID (R151), cause POWER_ON_COLD with detection suspended (R165, R167), port as after every
start (R176), attention asserted by the restart flag (R175). -/
def Obligations.ResetIsTheFirstPowerUp : Prop :=
  (∀ i, ((State.reset.lane i).enabled, (State.reset.lane i).k, (State.reset.lane i).band, (State.reset.lane i).m) =
      (false, 2, 1, 5) ∧ (State.reset.lane i).state = .off ∧ (State.reset.lane i).weighing = none ∧
      (State.reset.lane i).zero = 0 ∧ (State.reset.lane i).tickets = []) ∧
    State.reset.lotTable = { lots := [], counter := 1, day := 0, dayWrap := false } ∧
    (∀ r, (State.reset.rostrum r).state = .idle ∧ (State.reset.rostrum r).queue = [] ∧ (State.reset.rostrum r).last = none ∧
      ∀ d : Fin 96, (State.reset.rostrum r).desk d = none) ∧
    State.reset.accountTable.accounts = [] ∧ State.reset.accountTable.hall = HallCounters.zero ∧
    State.reset.accountTable.totals = none ∧
    (∀ t, State.reset.crateType t = { yard := 0, fleet := 0, strays := 0 }) ∧
    (∀ g, State.reset.gate g = { session := none, refused := 0, lastClose := none }) ∧
    State.reset.ice.stock = 0 ∧ State.reset.ice.reservation = 0 ∧
    (∀ b, (State.reset.bay b).state = .idle ∧ (State.reset.bay b).release = false) ∧
    (∀ id, (State.reset.store.live id).valid = false) ∧ State.reset.store.buffer = none ∧
    State.reset.supply.state = .normal ∧ State.reset.supply.cause = .powerOnCold ∧ State.reset.supply.restartFlag = true ∧
    State.reset.supply.suspend = some 2 ∧ State.reset.supply.levelCode = 6 ∧ State.reset.supply.filterCode = 2 ∧
    State.reset.port.frameCrc = true ∧ State.reset.port.errorCount = 0 ∧ State.reset.port.errorLimit = 4 ∧
    State.reset.port.linkFault = false ∧
    State.reset.port.answer = { request := 0, code := 255, summary := 9, data := List.replicate 12 0 } ∧
    State.reset.attentionLine = true ∧ State.reset.pending = []

/-- The invariants below hold at reset. -/
def Obligations.InvariantsHoldAtReset : Prop :=
  State.reset.accountTable.Tallied ∧ State.reset.accountTable.Balanced ∧ State.reset.accountTable.Floored ∧
    State.reset.lotTable.Sound ∧ State.reset.lotTable.Ranged ∧ State.reset.Calibrated ∧ (∀ i, (State.reset.lane i).Sound) ∧
    (∀ r, (State.reset.rostrum r).Sound) ∧ State.reset.IceBooks ∧ State.reset.store.Sound ∧ State.reset.supply.Sound ∧
    State.reset.port.Sound ∧ State.reset.Linked ∧ State.reset.Counted ∧ State.reset.CrateBooks ∧ State.reset.DepositBooks ∧
    (State.reset.supply.absent = true → State.reset.Dark)

/-- R95: every step keeps the account table in order, with the record count and the balance sum of its records. -/
def Obligations.StepKeepsTheAccountsTallied : Prop :=
  ∀ s t : State, s.accountTable.Tallied → step s = .next t → t.accountTable.Tallied

/-- R110: the money identity holds at reset, and every step keeps it. -/
def Obligations.MoneyIdentityHolds : Prop :=
  State.reset.accountTable.Balanced ∧
    ∀ s t : State, s.IceBooks → s.accountTable.Balanced → step s = .next t → t.accountTable.Balanced

/-- R96: the credit floor holds at reset, and every step keeps it. -/
def Obligations.CreditFloorHolds : Prop :=
  State.reset.accountTable.Floored ∧
    ∀ s t : State, s.accountTable.Tallied → s.IceBooks → s.store.Sound → s.lotTable.Sound → s.accountTable.Floored →
      step s = .next t → t.accountTable.Floored

/-- Every step keeps the living lots within their ranges: keys, counter and day, the levy of a snapshot, which comes from a sound
store; and n, G, division and net (R29, R31, R34, R44), with the lanes in use calibrated (R15), where lots and lanes are linked. -/
def Obligations.StepKeepsTheLotsSound : Prop :=
  ∀ s t : State, s.store.Sound → s.lotTable.Sound → step s = .next t →
    t.lotTable.Sound ∧
      (s.Linked → s.Calibrated → s.lotTable.Ranged → t.lotTable.Ranged ∧ t.Calibrated)

/-- Every step keeps every lane record (01 sections 1.1 and 1.2) and both rostrum records (03 sections 3.1 and 3.2) sound. That
nothing waits for an idle line is the model's choice of log 8. -/
def Obligations.StepKeepsTheLanesAndTheRostraSound : Prop :=
  ∀ s t : State, step s = .next t →
    ((∀ i, (s.lane i).Sound) → ∀ i, (t.lane i).Sound) ∧ ((∀ r, (s.rostrum r).Sound) → ∀ r, (t.rostrum r).Sound)

/-- R108, R134, R138: every step keeps the ice books. -/
def Obligations.StepKeepsTheIceBooks : Prop := ∀ s t : State, s.IceBooks → step s = .next t → t.IceBooks

/-- R150, R151: every step keeps every VALID record's check byte, length and ranges, whatever a torn record holds (log 10); the supply
monitor's timers with its states (09 section 9.1); the link error count, its limit and LINK_FAULT together (R170, R174); and, while
the main supply is absent, the volatile fields fresh (the model's choice of log 23) and a held write suspended (log 20). -/
def Obligations.StepKeepsTheStoreTheSupplyAndThePortSound : Prop :=
  ∀ s t : State, step s = .next t →
    (s.store.Sound → t.store.Sound) ∧ (s.supply.Sound → t.supply.Sound) ∧ (s.port.Sound → t.port.Sound) ∧
      ((s.supply.absent = true → s.Dark) → t.supply.absent = true → t.Dark)

/-- R49, with R16, R30, R41, R44 and R45: every step keeps the lots, the queues, the offers and the pending weighings linked; and R59
and R112: the desk counts and the live-lot counts of the accounts with the desk entries and the lots that they count. -/
def Obligations.StepKeepsTheLotsAndTheQueuesLinked : Prop :=
  ∀ s t : State, (∀ r, (s.rostrum r).Sound) → s.Linked → step s = .next t →
    t.Linked ∧ (s.accountTable.Tallied → s.Counted → t.Counted)

/-- R118, R28: every step, of whatever command, keeps the crate books: the yard stock plus all holdings equals the fleet count of
every type, and every committed count is what the boat's lots bind and is no greater than its holding. R111: with a sound store it
keeps the deposit identity, and R156 a VALID deposit record for every type that accounts hold. -/
def Obligations.StepConservesCrates : Prop :=
  ∀ s t : State, s.accountTable.Tallied → (∀ r, (s.rostrum r).Sound) → s.Linked → s.CrateBooks → step s = .next t →
    t.CrateBooks ∧ (s.store.Sound → s.DepositBooks → t.DepositBooks)

/-! ## Weigh lanes -/

/-- R15, row by row, for a lane and settings in range: a lane that is OFF is enabled into SETTLING at Z_cal, refused INVALID_CONFIG,
or keeps OFF with new settings; a lane in use is disabled into OFF, a pending weighing ending LANE_OFF (R18, R19, R32); new settings
(k, band code or M) settle it anew with Z kept, are BUSY with a weighing pending, and in FAULT are stored alone; settings equal to
those stored change nothing. The samples since settle start that OFF keeps are the model's choice of log 16. -/
def Obligations.LaneSetActsAsR15 : Prop :=
  ∀ (lane k band m : Nat) (i : Fin 8) (s : State),
    s.trading = true → unitIndex? 8 lane = some i → k ≤ 4 → band ≤ 3 → 2 ≤ m → m ≤ 15 →
      let l := s.lane i
      let inUse := l.state = .settling ∨ l.state = .active ∨ l.state = .fault
      let differ := l.k ≠ k ∨ l.band ≠ band ∨ l.m ≠ m
      let settled (l : Lane) : Lane :=
        { l with
          enabled := true, k, band, m, state := .settling, window := [], history := [], reading := none, samples := 0
          stable := false, overload := false, underload := false, badRun := 0, goodRun := 0, cause := none }
      let off (l : Lane) : Lane :=
        { l with
          enabled := false, k, band, m, state := .off, window := [], history := [], reading := none, stable := false
          overload := false, underload := false, badRun := 0, goodRun := 0, cause := none, silence := none }
      (∀ cal, l.state = .off → s.store.laneCal? i = some cal →
        exec (.laneSet lane 1 k band m) s =
          .next (s.replied
            (s.modLane i fun l =>
              { settled l with zero := cal.zero, tracking := 0, zeroLimit := false, silence := some 250 })
            0x10 .ok)) ∧
      (l.state = .off → s.store.laneCal? i = none →
        exec (.laneSet lane 1 k band m) s = .next (s.replied s 0x10 .invalidConfig)) ∧
      (l.state = .off →
        exec (.laneSet lane 0 k band m) s =
          .next (s.replied (s.modLane i fun l => { l with enabled := false, k, band, m }) 0x10 .ok)) ∧
      (inUse → l.weighing = none →
        exec (.laneSet lane 0 k band m) s = .next (s.replied (s.modLane i off) 0x10 .ok)) ∧
      (∀ p lot, inUse → l.weighing = some p → s.lot? p.key = some lot →
        exec (.laneSet lane 0 k band m) s =
          .next (s.replied
            (((s.modLot p.key fun x => { x with pending := none }).modAccount lot.boat fun a =>
                { a with committed := a.committed.set lot.crateType (a.committed[lot.crateType] - p.crates) }).modLane i
              fun l =>
                { off l with
                  weighing := none, attention := true
                  last := some { result := .laneOff, gross := none, key := p.key, number := none, ticket := none } })
            0x10 .ok)) ∧
      (l.state = .settling ∨ l.state = .active → l.weighing.isSome = true → differ →
        exec (.laneSet lane 1 k band m) s = .next (s.replied s 0x10 .busy)) ∧
      (l.state = .settling ∨ l.state = .active → l.weighing = none → differ →
        exec (.laneSet lane 1 k band m) s = .next (s.replied (s.modLane i settled) 0x10 .ok)) ∧
      (l.state = .fault →
        exec (.laneSet lane 1 k band m) s =
          .next (s.replied (s.modLane i fun l => { l with enabled := true, k, band, m }) 0x10 .ok)) ∧
      (inUse → l.enabled = true → ¬ differ →
        exec (.laneSet lane 1 k band m) s = .next (s.replied s 0x10 .ok))

/-- R14: LANE ZERO on a stable lane whose zero stays within Max/50 sets Z to F and empties the history. -/
def Obligations.LaneZeroSetsZ : Prop :=
  ∀ (lane : Nat) (i : Fin 8) (r : Reading) (s : State),
    s.trading = true → unitIndex? 8 lane = some i → (s.lane i).state ≠ .off → (s.lane i).weighing = none →
      (s.lane i).stable = true → (s.lane i).reading = some r →
      50 * (gramsOf (s.store.laneCal i) (r.filtered - (s.store.laneCal i).zero)).natAbs ≤ (s.store.laneCal i).max →
        exec (.laneZero lane) s =
          .next (s.replied
            (s.modLane i fun l =>
              { l with
                zero := r.filtered, tracking := gramsOf (s.store.laneCal i) (r.filtered - (s.store.laneCal i).zero),
                zeroLimit := false, history := [], stable := false })
            0x11 .ok (beInt 2 (gramsOf (s.store.laneCal i) (r.filtered - (s.store.laneCal i).zero))))

/-- R1, R6 to R13: a good frame at a lane in SETTLING or ACTIVE. An overrange frame sets OVERLOAD, clears STABLE and empties the
history. Any other is an accepted sample, whose 32nd in SETTLING makes the lane ACTIVE before its value is processed. F is the sum of
the newest p samples plus p/2, divided by p and rounded by floor; W_g is (F − Z) × S / 65,536 rounded half away from zero; STABLE
needs an ACTIVE lane, M values within the band and neither OVERLOAD nor UNDERLOAD; and without a pending weighing Z becomes F on a
stable value within half a division whose offset stays within Max/50. (A stable value completes a pending weighing:
`StableWeighingCompletes`.) -/
def Obligations.GoodSampleWeighs : Prop :=
  ∀ (i : Fin 8) (status : Byte) (count : Count24) (s : State),
    let l := s.lane i
    s.trading = true → evenParity status count = true → l.state = .settling ∨ l.state = .active →
      (status.getLsbD 6 = true →
        exec (.sampleFrame i status count) s =
          .next (s.modLane i fun l =>
            { l with badRun := 0, silence := some 250, overload := true, stable := false, history := [] })) ∧
      ∀ p : Nat,
        let cal := s.store.laneCal i
        let samples := if l.state = .settling then l.samples + 1 else l.samples
        let state : LaneState := if l.state = .settling ∧ samples < 32 then .settling else .active
        let w := lastN (2 ^ l.k) (l.window ++ [count.toInt])
        let f := ((lastN p w).sum + ((p / 2 : Nat) : Int)) / (p : Int)
        let g := roundHalfAway ((f - l.zero) * cal.span) 65536
        let h := lastN l.m (l.history ++ [g])
        let heavy := decide ((cal.max : Int) + 9 * cal.e < g)
        let light := decide (g < -(20 * (cal.e : Int)))
        let still :=
          state == .active && h.length == l.m && !heavy && !light &&
            decide (spread h ≤ ((bandDivisions l.band * cal.e : Nat) : Int))
        let offset := roundHalfAway ((f - cal.zero) * cal.span) 65536
        status.getLsbD 6 = false → l.weighing = none ∨ still = false → p ∈ [1, 2, 4, 8, 16] → p ≤ w.length →
          (w.length < 2 * p ∨ p = 16) →
          exec (.sampleFrame i status count) s =
            .next (s.modLane i fun l =>
              { l with
                badRun := 0, silence := some 250, state, samples, window := w
                reading := some { filtered := f, gram := g, legal := roundHalfAway g cal.e * cal.e }
                overload := heavy, underload := light, history := h, stable := still
                zero := if still ∧ 2 * g.natAbs ≤ cal.e ∧ 50 * offset.natAbs ≤ cal.max then f else l.zero
                tracking :=
                  if still ∧ 2 * g.natAbs ≤ cal.e ∧ 50 * offset.natAbs ≤ cal.max then offset
                  else roundHalfAway ((l.zero - cal.zero) * cal.span) 65536
                zeroLimit :=
                  l.zeroLimit || (still && decide (2 * g.natAbs ≤ cal.e) && decide (cal.max < 50 * offset.natAbs)) })

/-- R1 to R5, R178: frames and silence by the lane's state. An OFF lane takes no frame. In SETTLING and ACTIVE each bad frame (a
malformed run is one) grows the bad run, and the eighth in a row sends the lane to FAULT with cause PARITY; the expiry of a silence
timer that has run out sends it to FAULT with cause SILENT and the timer starts again; a pending weighing ends LANE_FAULT first. A
timer that is stopped or has time left, as one that a good frame taken first has restarted, does not expire (log 3). In FAULT a bad
frame and a silence expiry set the good run to 0, the expiry with cause SILENT, and the sixteenth good frame in a row settles the lane
anew with Z kept. That the entry into FAULT keeps the samples since settle start is the model's choice of log 16. -/
def Obligations.BadFramesAndSilenceLeadToFault : Prop :=
  ∀ (i : Fin 8) (status : Byte) (count : Count24) (s : State), s.trading = true →
    let l := s.lane i
    let live := l.state = .settling ∨ l.state = .active
    let fault (cause : FaultCause) (l : Lane) : Lane :=
      { l with
        state := .fault, cause := some cause, window := [], history := [], reading := none, stable := false
        overload := false, underload := false, goodRun := 0 }
    let faults (c : Instr) (f : Lane → Lane) : Prop :=
      (l.weighing = none → exec c s = .next (s.modLane i f)) ∧
        ∀ p lot, l.weighing = some p → s.lot? p.key = some lot →
          exec c s = .next ((s.weighingEnded i p lot .laneFault none).modLane i f)
    (∀ c, c = .malformedLineFrame (.lane i) ∨ (c = .sampleFrame i status count ∧ evenParity status count = false) →
      (l.state = .off → exec c s = .next s) ∧
      (live → l.badRun < 7 → exec c s = .next (s.modLane i fun l => { l with badRun := l.badRun + 1 })) ∧
      (live → 7 ≤ l.badRun → faults c fun l => { fault .parity l with badRun := 8 }) ∧
      (l.state = .fault →
        exec c s = .next (s.modLane i fun l => { l with badRun := min (l.badRun + 1) 8, goodRun := 0 }))) ∧
    (evenParity status count = true →
      (l.state = .off → exec (.sampleFrame i status count) s = .next s) ∧
      (l.state = .fault → l.goodRun < 15 →
        exec (.sampleFrame i status count) s =
          .next (s.modLane i fun l => { l with badRun := 0, silence := some 250, goodRun := l.goodRun + 1 })) ∧
      (l.state = .fault → 15 ≤ l.goodRun →
        exec (.sampleFrame i status count) s =
          .next (s.modLane i fun l =>
            { l with
              badRun := 0, silence := some 250, state := .settling, window := [], history := [], reading := none, samples := 0
              stable := false, overload := false, underload := false, goodRun := 0, cause := none }))) ∧
    (l.silence ≠ some 0 → exec (.silenceTimerExpiry i) s = .next s) ∧
    (l.silence = some 0 →
      (live → faults (.silenceTimerExpiry i) fun l => { fault .silent l with silence := some 250 }) ∧
      (l.state = .fault →
        exec (.silenceTimerExpiry i) s =
          .next (s.modLane i fun l => { l with cause := some .silent, goodRun := 0, silence := some 250 })))

/-- R18, R19, R32: the expiry of a stability timer that has run out ends a pending weighing OVERLOAD when the flag is set and NOT_STABLE
otherwise; the lot loses its pending part, the boat's crates are released, and the lane sets its attention flag. With no weighing
pending, or with time left, it does nothing (log 3). -/
def Obligations.StabilityExpiryEndsTheWeighing : Prop :=
  (∀ (i : Fin 8) (s : State), s.trading = true → (∀ p, (s.lane i).weighing = some p → p.timer ≠ 0) →
    exec (.stabilityTimerExpiry i) s = .next s) ∧
  ∀ (i : Fin 8) (p : PendingWeighing) (lot : Lot) (s : State),
    s.trading = true → (s.lane i).weighing = some p → p.timer = 0 → s.lot? p.key = some lot →
      exec (.stabilityTimerExpiry i) s =
        .next
          (((s.modLot p.key fun l => { l with pending := none }).modAccount lot.boat fun a =>
              { a with committed := a.committed.set lot.crateType (a.committed[lot.crateType] - p.crates) }).modLane i fun l =>
            { l with
              weighing := none, attention := true
              last :=
                some
                  { result := if l.overload then .overload else .notStable, gross := none, key := p.key, number := none,
                    ticket := none } })

/-- R17, R19, R20, R31, R32: a pending weighing whose sample makes the lane stable. Below 20e it ends UNDER_MINIMUM, and above the
lot's 9,600,000 g LIMIT, each with W_e as its gross and its crates released. Otherwise it is TAKEN: the lot gains the weighing, the
lane its last result, and a ticket line is QUEUED, or DROPPED when the queue holds 4. -/
def Obligations.StableWeighingCompletes : Prop :=
  ∀ (i : Fin 8) (status : Byte) (count : Count24) (p : PendingWeighing) (lot : Lot) (r : Reading) (s : State),
    let cal := s.store.laneCal i
    let l' := ({ s.lane i with badRun := 0, silence := some 250 }.accept count.toInt).newValue cal
    let room := (s.lane i).tickets.length < 4
    s.trading = true → (s.lane i).state = .active → (s.lane i).weighing = some p → evenParity status count = true →
      status.getLsbD 6 = false → s.lot? p.key = some lot → l'.stable = true → l'.reading = some r →
      (r.legal < 20 * (cal.e : Int) →
        exec (.sampleFrame i status count) s =
          .next ((s.modLane i fun _ => l').weighingEnded i p lot .underMinimum (some r.legal))) ∧
      (20 * (cal.e : Int) ≤ r.legal → 9600000 < (lot.gross.getD 0 : Int) + r.legal →
        exec (.sampleFrame i status count) s =
          .next ((s.modLane i fun _ => l').weighingEnded i p lot .limit (some r.legal))) ∧
      (20 * (cal.e : Int) ≤ r.legal → (lot.gross.getD 0 : Int) + r.legal ≤ 9600000 →
        exec (.sampleFrame i status count) s =
          .next
            ((s.modLot p.key fun x =>
                { x with
                  weighings := x.weighings ++ [{ lane := i.val + 1, gross := r.legal.toNat, crates := p.crates }]
                  n := x.n + p.crates, gross := some (x.gross.getD 0 + r.legal.toNat)
                  division := some (x.division.getD cal.e), pending := none }).modLane i fun _ =>
              { l' with
                weighing := none, attention := true
                last :=
                  some
                    { result := .taken, gross := some r.legal, key := p.key, number := some (lot.weighings.length + 1),
                      ticket := some (if room then .queued else .dropped) }
                tickets :=
                  if room then
                    (s.lane i).tickets ++
                      [ticketLine s.lotTable.day i p.key (lot.weighings.length + 1) p.crates cal.e r.legal.toNat]
                  else (s.lane i).tickets }))

/-! ## Lots -/

/-- R25, R27: OPEN LOT considers the counter's number and those after it, 1 after 9,999, skips the numbers whose part 0 lives, takes
the first other one and advances the counter past it; an advance from 9,999 sets the day-wrap flag. -/
def Obligations.OpenLotTakesTheNextNumber : Prop :=
  ∀ (boat species crateType skipped : Nat) (sp : Fin 64) (ct : Fin 8) (a : Account) (s : State),
    let number (j : Nat) := (s.lotTable.counter - 1 + j) % 9999 + 1
    s.trading = true → unitIndex? 64 species = some sp → unitIndex? 8 crateType = some ct → 1 ≤ boat → boat ≤ 9999 →
      s.account? boat = some a → a.kind = .boat → a.state = .opened → (s.store.species? sp).isSome = true →
      (s.store.tare? ct).isSome = true → (s.store.deposit? ct).isSome = true → s.lotTable.lots.length < 1024 →
      1 ≤ s.lotTable.counter → s.lotTable.counter ≤ 9999 →
      (∀ j, j < skipped → ∃ l ∈ s.lotTable.lots, l.key = { number := number j, part := 0 }) →
      (∀ l ∈ s.lotTable.lots, l.key ≠ { number := number skipped, part := 0 }) →
        let lot : Lot :=
          { key := { number := number skipped, part := 0 }, boat, species, crateType := ct, state := .opened,
            division := none, weighings := [], pending := none, n := 0, gross := some 0, deductions := none, net := none,
            snapshot := none, restartPrice := none, override := none, rostrum := none, sale := none }
        let u : State :=
          { s with
            lotTable :=
              { lots := insertLot lot s.lotTable.lots, counter := number (skipped + 1), day := s.lotTable.day
                dayWrap := s.lotTable.dayWrap || decide (9999 ≤ s.lotTable.counter + skipped) } }
        exec (.openLot boat species crateType) s =
          .next (s.replied (u.modAccount boat fun x => { x with liveLots := x.liveLots + 1 }) 0x20 .ok
            (be 2 (number skipped)))

/-- R16, R29, R30: TAKE WEIGHING commits the crates, gives the lot its pending part and hands the lane the weighing, answered
PENDING. -/
def Obligations.TakeWeighingCommitsAndHandsIn : Prop :=
  ∀ (number part lane c : Nat) (i : Fin 8) (lot : Lot) (a : Account) (s : State),
    s.trading = true → 1 ≤ number → number ≤ 9999 → part ≤ 7 → unitIndex? 8 lane = some i → 1 ≤ c → c ≤ 99 →
      s.lot? { number, part } = some lot → lot.state = .opened → lot.pending = none → (s.lane i).weighing = none →
      (s.lane i).state = .active → lot.weighings.length < 16 → lot.n + c ≤ 255 →
      (lot.division = none ∨ lot.division = some (s.store.laneCal i).e) → s.account? lot.boat = some a →
      c ≤ a.holding[lot.crateType] - a.committed[lot.crateType] →
        exec (.takeWeighing number part lane c) s =
          .next (s.replied
            (((s.modAccount lot.boat fun x =>
                  { x with committed := x.committed.set lot.crateType (x.committed[lot.crateType] + c) }).modLot
                { number, part } fun l => { l with pending := some { lane := i.val + 1, crates := c } }).modLane i fun l =>
              { l with weighing := some { key := { number, part }, crates := c, timer := s.store.timing.stability } })
            0x21 .pending)

/-- R33 to R35: CLOSE LOT values an OPEN lot from the live records: T = n × t, F1 = G − T, A = floor(F1 × a / 1,000) when F1 is above
0 and 0 otherwise, N = floor((F1 − A) / e) × e; it makes the lot READY with its snapshot, and below 20e is refused UNDER_MINIMUM with
the same figures. That the answer carries the low 24 bits of a figure beyond three signed bytes is the model's choice of log 13. -/
def Obligations.CloseLotValuesTheLot : Prop :=
  ∀ (number part t g e : Nat) (sp : Fin 64) (snap : Snapshot) (lot : Lot) (s : State),
    s.trading = true → 1 ≤ number → number ≤ 9999 → part ≤ 7 → s.lot? { number, part } = some lot → lot.state = .opened →
      lot.pending = none → lot.weighings ≠ [] → lot.gross = some g → lot.division = some e →
      unitIndex? 64 lot.species = some sp → s.store.species? sp = some snap → s.store.tare? lot.crateType = some t →
        let tare : Int := lot.n * t
        let rest : Int := g - tare
        let allowance : Int := if 0 < rest then rest * snap.allowance / 1000 else 0
        let net : Int := (rest - allowance) / e * e
        let data := beInt 3 tare ++ beInt 3 allowance ++ beInt 3 net
        exec (.closeLot number part) s =
          .next (
            if net < 20 * (e : Int) then s.replied s 0x22 .underMinimum data
            else
              s.replied
                (s.modLot { number, part } fun l =>
                  { l with state := .ready, deductions := some { tare, allowance }, net := some net, snapshot := some snap })
                0x22 .ok data)

/-- R28, R36, R40, R41: a lot that is cancelled, returned or retired leaves the table, its boat's live-lot count falls, and the crates
of one that is unsold are uncommitted. -/
def Obligations.RetirementsRemoveTheLot : Prop :=
  ∀ (number part : Nat) (lot : Lot) (s : State),
    s.trading = true → 1 ≤ number → number ≤ 9999 → part ≤ 7 → s.lot? { number, part } = some lot →
      let uncommitted := s.modAccount lot.boat fun a =>
        { a with committed := a.committed.set lot.crateType (a.committed[lot.crateType] - lot.n) }
      let gone (u : State) := (u.modAccount lot.boat fun a => { a with liveLots := a.liveLots - 1 }).removeLot { number, part }
      (lot.state = .opened → lot.pending = none →
        exec (.cancelLot number part) s = .next (s.replied (gone uncommitted) 0x23 .ok (be 1 lot.n))) ∧
      (lot.state = .ready ∨ lot.state = .unsold →
        exec (.returnLot number part) s = .next (s.replied (gone uncommitted) 0x26 .ok (be 1 lot.n))) ∧
      (lot.state = .sold → (part ≠ 0 ∨ ∀ l ∈ s.lotTable.lots, l.key.number = number → l.key.part = 0) →
        exec (.retireLot number part) s = .next (s.replied (gone s) 0x27 .ok))

/-- R37 to R39, R51, R52: QUEUE LOT puts a READY or UNSOLD lot in a queue, at the head (position 0) or at the tail (position 1), and on
a WAITING rostrum an offer starts at once on the lot that is then at the head; UNQUEUE LOT takes a QUEUED lot out again. That the
clock frame of a starting offer shows RUNNING is the model's choice of log 9. -/
def Obligations.QueueAndUnqueueMoveTheLot : Prop :=
  ∀ (number part override : Nat) (r : RostrumId) (snap : Snapshot) (lot : Lot) (s : State),
    s.trading = true → 1 ≤ number → number ≤ 9999 → part ≤ 7 → s.lot? { number, part } = some lot →
      let key : Key := { number, part }
      let rn := if r = .a then 0 else 1
      let queue := (s.rostrum r).queue
      let entered : State := s.modLot key fun l =>
        { l with override := if override = 0 then none else some override, rostrum := some r, state := .queued }
      let queued (q : List Key) : State := entered.modRostrum r fun x => { x with queue := q }
      let offered (head : Key) (rest : List Key) (n price : Nat) (sn : Snapshot) : State :=
        (entered.modLot head fun l => { l with state := .onClock }).modRostrum r fun x =>
          Rostrum.showClock
            { x with
              state := .running, queue := rest, offer := some { key := head, price, j := 0 }, stepTimer := some sn.interval
              showTimer := none }
            { state := .running, lot := some (head, n), price := some (price, 0), result := none }
      let own := if override = 0 then lot.restartPrice.getD snap.start else override
      (lot.state = .ready ∨ lot.state = .unsold → lot.snapshot = some snap →
        (override = 0 ∨ snap.withdrawal ≤ override ∧ override ≤ 99999) → queue.length < 128 →
        ((s.rostrum r).state ≠ .waiting →
          exec (.queueLot number part rn 0 override) s = .next (s.replied (queued (key :: queue)) 0x24 .ok) ∧
          exec (.queueLot number part rn 1 override) s = .next (s.replied (queued (queue ++ [key])) 0x24 .ok)) ∧
        ((s.rostrum r).state = .waiting →
          exec (.queueLot number part rn 0 override) s = .next (s.replied (offered key queue lot.n own snap) 0x24 .ok) ∧
          (queue = [] →
            exec (.queueLot number part rn 1 override) s = .next (s.replied (offered key [] lot.n own snap) 0x24 .ok)) ∧
          ∀ head rest first sn, queue = head :: rest → head ≠ key → s.lot? head = some first → first.snapshot = some sn →
            exec (.queueLot number part rn 1 override) s =
              .next (s.replied
                (offered head (rest ++ [key]) first.n (first.override.getD (first.restartPrice.getD sn.start)) sn) 0x24 .ok))) ∧
      (lot.state = .queued → lot.rostrum = some r →
        exec (.unqueueLot number part) s =
          .next (s.replied
            ((s.modRostrum r fun x => { x with queue := x.queue.filter (· != key) }).modLot key
              fun l => { l with state := .ready, rostrum := none })
            0x25 .ok))

/-- R26, R131: DAY CLOSE with both rostra IDLE sets the counter to 1, advances the day index, clears the day-wrap flag, the strays and
the gates' refused frames; otherwise it is BUSY. -/
def Obligations.DayCloseStartsADay : Prop :=
  ∀ s : State, s.trading = true →
    (s.rostrumA.state = .idle → s.rostrumB.state = .idle → ∃ u,
      exec .dayClose s = .next (s.replied u 0x29 .ok (be 1 ((s.lotTable.day + 1) % 256))) ∧
        u.lotTable = { s.lotTable with counter := 1, day := (s.lotTable.day + 1) % 256, dayWrap := false } ∧
        (∀ t, u.crateType t = { s.crateType t with strays := 0 }) ∧ (∀ g, u.gate g = { s.gate g with refused := 0 }) ∧
        u = { s with lotTable := u.lotTable, crates := u.crates }) ∧
    (s.rostrumA.state ≠ .idle ∨ s.rostrumB.state ≠ .idle → exec .dayClose s = .next (s.replied s 0x29 .busy))

/-! ## Sale clocks -/

/-- R51, R54, R55: ROSTRUM START in IDLE and the expiry of a show timer that has run out start an offer on the queue head, at the lot's
override, else restart price, else snapshot start price, with the step timer at its step interval; an empty queue leads to WAITING; a
show timer that is stopped or has time left does not expire (log 3). That the clock frame of a starting offer shows RUNNING is the
model's choice of log 9: R51 forms it before RUNNING is entered. -/
def Obligations.OffersStartOnTheQueueHead : Prop :=
  ∀ (r : RostrumId) (s : State), s.trading = true →
    let rn := if r = .a then 0 else 1
    (∀ key rest lot snap, (s.rostrum r).queue = key :: rest → s.lot? key = some lot → lot.snapshot = some snap →
      let price := lot.override.getD (lot.restartPrice.getD snap.start)
      let frame : ClockFrame := { state := .running, lot := some (key, lot.n), price := some (price, 0), result := none }
      let offered := (s.modLot key fun l => { l with state := .onClock }).modRostrum r fun x =>
        Rostrum.showClock
          { x with
            state := .running, queue := rest, offer := some { key, price, j := 0 }, stepTimer := some snap.interval
            showTimer := none }
          frame
      ((s.rostrum r).state = .idle → exec (.rostrumStart rn) s = .next (s.replied offered 0x30 .ok)) ∧
        ((s.rostrum r).showTimer = some 0 → exec (.showTimerExpiry r) s = .next offered)) ∧
    ((s.rostrum r).showTimer ≠ some 0 → exec (.showTimerExpiry r) s = .next s) ∧
    ((s.rostrum r).queue = [] → (s.rostrum r).offer = none →
      let waiting := s.modRostrum r fun x =>
        Rostrum.showClock { x with state := .waiting, showTimer := none }
          { state := .waiting, lot := none, price := none, result := none }
      ((s.rostrum r).state = .idle → exec (.rostrumStart rn) s = .next (s.replied waiting 0x30 .ok)) ∧
        ((s.rostrum r).showTimer = some 0 → exec (.showTimerExpiry r) s = .next waiting))

/-- R53, R54, R56, R69, R71: the expiry of a step timer that has run out lowers the price by one step while it stays at or above the
withdrawal price; otherwise the lot ends NO_SALE and UNSOLD, and the rostrum shows it. A step timer that ROSTRUM HOLD or a winning press
has stopped, or that has time left, does not expire (log 3). -/
def Obligations.StepExpiryLowersThePrice : Prop :=
  (∀ (r : RostrumId) (s : State), s.trading = true → (s.rostrum r).stepTimer ≠ some 0 →
    exec (.stepTimerExpiry r) s = .next s) ∧
  ∀ (r : RostrumId) (o : Offer) (lot : Lot) (snap : Snapshot) (s : State),
    s.trading = true → (s.rostrum r).state = .running → (s.rostrum r).stepTimer = some 0 →
      (s.rostrum r).offer = some o → s.lot? o.key = some lot → lot.snapshot = some snap →
      (snap.withdrawal + snap.step ≤ o.price →
        exec (.stepTimerExpiry r) s =
          .next (s.modRostrum r fun x =>
            Rostrum.showClock
              { x with
                offer := some { key := o.key, price := o.price - snap.step, j := o.j + 1 }, stepTimer := some snap.interval }
              { state := .running, lot := some (o.key, lot.n), price := some (o.price - snap.step, o.j + 1), result := none })) ∧
      (o.price < snap.withdrawal + snap.step →
        let ended : LastLotEnd := { code := .noSale, key := o.key, price := o.price, winner := none }
        exec (.stepTimerExpiry r) s =
          .next ((s.modLot o.key fun l => { l with state := .unsold }).modRostrum r fun x =>
            Rostrum.showClock
              { x with
                state := .showing, offer := none, stepTimer := none, showTimer := some s.store.timing.showTime
                last := some ended, attention := true }
              { state := .showing, lot := none, price := none, result := some ended }))

/-- R50, R56 to R58: ROSTRUM HOLD stops the step timer, ROSTRUM RESUME starts it again at the step interval, and either changes nothing
on a rostrum already in its state. ROSTRUM STOP of a lot on the clock puts it back at the head of the queue, a full queue losing its
tail, and ends it STOPPED; in SHOWING and WAITING it ends nothing; and it leaves the rostrum IDLE. -/
def Obligations.HoldResumeAndStop : Prop :=
  ∀ (r : RostrumId) (s : State), s.trading = true →
    let rn := if r = .a then 0 else 1
    let idle (x : Rostrum) : Rostrum :=
      Rostrum.showClock { x with state := .idle, offer := none, stepTimer := none, showTimer := none }
        { state := .idle, lot := none, price := none, result := none }
    ((s.rostrum r).state = .held → exec (.rostrumHold rn) s = .next (s.replied s 0x31 .ok)) ∧
    ((s.rostrum r).state = .running → exec (.rostrumResume rn) s = .next (s.replied s 0x32 .ok)) ∧
    ((s.rostrum r).state = .waiting ∨ (s.rostrum r).state = .showing →
      exec (.rostrumStop rn) s = .next (s.replied (s.modRostrum r idle) 0x33 .ok)) ∧
    ∀ o lot snap, (s.rostrum r).offer = some o → s.lot? o.key = some lot → lot.snapshot = some snap →
      let frame (st : RostrumState) : ClockFrame :=
        { state := st, lot := some (o.key, lot.n), price := some (o.price, o.j), result := none }
      ((s.rostrum r).state = .running →
        exec (.rostrumHold rn) s =
          .next (s.replied
            (s.modRostrum r fun x => Rostrum.showClock { x with state := .held, stepTimer := none } (frame .held)) 0x31 .ok)) ∧
      ((s.rostrum r).state = .held →
        exec (.rostrumResume rn) s =
          .next (s.replied
            (s.modRostrum r fun x =>
              Rostrum.showClock { x with state := .running, stepTimer := some snap.interval } (frame .running))
            0x32 .ok)) ∧
      ((s.rostrum r).state = .running ∨ (s.rostrum r).state = .held →
        let back : State := s.modLot o.key fun l => { l with state := .queued }
        let lots : State :=
          ((s.rostrum r).displaces (some o.key)).elim back fun tail =>
            back.modLot tail fun l => { l with state := .ready, rostrum := none }
        exec (.rostrumStop rn) s =
          .next (s.replied
            (lots.modRostrum r fun x =>
              idle
                { x.takes (some o.key) with
                  last := some { code := .stopped, key := o.key, price := o.price, winner := none }, attention := true })
            0x33 .ok))

/-- R59, R60: DESK ASSIGN of an empty desk and DESK RELEASE of an assigned one change the entry and the buyer's desk count. -/
def Obligations.DesksAreAssignedAndReleased : Prop :=
  ∀ (r : RostrumId) (desk : Nat) (d : Fin 96) (s : State),
    s.trading = true → unitIndex? 96 desk = some d →
      let rn := if r = .a then 0 else 1
      (∀ buyer a, 1 ≤ buyer → buyer ≤ 9999 → s.account? buyer = some a → a.kind = .buyer → a.state = .opened →
        (s.rostrum r).desk d = none →
          exec (.deskAssign rn desk buyer) s =
            .next (s.replied
              ((s.modRostrum r fun x => { x with desks := x.desks.set d (some buyer) }).modAccount buyer fun x =>
                { x with deskCount := x.deskCount + 1 })
              0x35 .ok)) ∧
      (∀ buyer, (s.rostrum r).desk d = some buyer →
        exec (.deskRelease rn desk) s =
          .next (s.replied
            ((s.modRostrum r fun x => { x with desks := x.desks.set d none }).modAccount buyer fun x =>
              { x with deskCount := x.deskCount - 1 })
            0x36 .ok (be 2 buyer)))

/-! ## Sale valuation and booking -/

/-- R79: the part net is floor((N × k) / (n × e)) × e; with N a multiple of e, it and the remainder net are multiples of e that add to
N, and neither is on the wrong side of its share by crate count; a whole-lot press sells N. -/
def Obligations.PartNetIsR79 : Prop :=
  ∀ (net n k e : Nat), 0 < e → 0 < k → k < n →
    partNet net k n e = net * k / (n * e) * e ∧ partNet net k n e * n ≤ net * k ∧ e ∣ partNet net k n e ∧
      partNet net k n e + (net - partNet net k n e) = net ∧ (e ∣ net → e ∣ net - partNet net k n e) ∧
      net * (n - k) ≤ (net - partNet net k n e) * n ∧
      ∀ lot : Lot, lot.net = some (net : Int) → lot.n = n → lot.division = some e →
        soldNet lot k = partNet net k n e ∧ soldNet lot n = net

/-- R80: the sale amount is floor((N_s × P + 500) / 1,000), at most 959,990,400 cents. -/
def Obligations.SaleAmountIsR80 : Prop :=
  (∀ net price k commission levy fee deposit : Nat,
      (valuate net price k commission levy fee deposit).amount = (net * price + 500) / 1000 ∧
        (net ≤ 9600000 → price ≤ 99999 → (valuate net price k commission levy fee deposit).amount ≤ 959990400)) ∧
    (valuate 20 24 1 80 50 50 0).amount = 0

/-- R81: commission, levy and buyer fee are each floor((M × rate + 500) / 1,000), each from M; a rate of 0 gives 0; and with rates in
their ranges the boat's share M − C − L is never negative. -/
def Obligations.ChargesAreR81 : Prop :=
  ∀ net price k commission levy fee deposit : Nat,
    let v := valuate net price k commission levy fee deposit
    v.commission = (v.amount * commission + 500) / 1000 ∧ v.levy = (v.amount * levy + 500) / 1000 ∧
      v.fee = (v.amount * fee + 500) / 1000 ∧ (commission = 0 → v.commission = 0) ∧ (levy = 0 → v.levy = 0) ∧
      (fee = 0 → v.fee = 0) ∧ (commission ≤ 80 → levy ≤ 50 → v.commission + v.levy ≤ v.amount)

/-- R63, R67, R82 to R89: a whole-lot press that passes every check is booked. The buyer pays M + F + k × D and holds the crates, the
boat is credited M − C − L + k × D and gives them up, the hall counters grow by C, L and F, the lot is SOLD with its sale fields,
and the rostrum answers TAKEN, records SOLD and shows it. Where an earlier clock frame still waits, that the new one takes its place and
so comes before TAKEN is the model's choice of log 30. -/
def Obligations.WholeLotPressIsBooked : Prop :=
  ∀ (r : RostrumId) (desk quantity : Byte) (d : Fin 96) (o : Offer) (lot : Lot) (buyer boat : Account) (snap : Snapshot)
    (tariff : Tariff) (net deposit : Nat) (s : State),
    let v := valuate net o.price lot.n (tariff.commissionOf boat.cls) snap.levy (tariff.feeOf buyer.cls) deposit
    let total := v.amount + v.fee + lot.n * deposit
    let credit : Int := (v.amount : Int) - v.commission - v.levy + (lot.n * deposit : Nat)
    s.trading = true → unitIndex? 96 desk.toNat = some d → (s.rostrum r).state = .running →
      (s.rostrum r).desk d = some buyer.number → s.account? buyer.number = some buyer → buyer.state = .opened →
      (s.rostrum r).offer = some o → s.lot? o.key = some lot → (quantity.toNat = 0 ∨ quantity.toNat = lot.n) →
      s.account? lot.boat = some boat → lot.boat ≠ buyer.number → lot.net = some (net : Int) → lot.snapshot = some snap →
      s.store.tariff? = some tariff → s.store.deposit? lot.crateType = some deposit → (total : Int) ≤ buyer.available →
      boat.balance + credit ≤ 2000000000 →
        ∃ t, exec (.pressFrame r desk quantity (crc8 [desk, quantity])) s = .next t ∧
          t.account? buyer.number =
            some
              { buyer with
                balance := buyer.balance - total
                holding := buyer.holding.set lot.crateType (buyer.holding[lot.crateType] + lot.n) } ∧
          t.account? lot.boat =
            some
              { boat with
                balance := boat.balance + credit
                holding := boat.holding.set lot.crateType (boat.holding[lot.crateType] - lot.n)
                committed := boat.committed.set lot.crateType (boat.committed[lot.crateType] - lot.n) } ∧
          (∀ m, m ≠ buyer.number → m ≠ lot.boat → t.account? m = s.account? m) ∧
          t.accountTable =
            { s.accountTable with
              accounts := t.accountTable.accounts, balanceSum := s.accountTable.balanceSum - total + credit
              hall :=
                { s.accountTable.hall with
                  commission := s.accountTable.hall.commission + BitVec.ofNat 64 v.commission
                  levy := s.accountTable.hall.levy + BitVec.ofNat 64 v.levy
                  fee := s.accountTable.hall.fee + BitVec.ofNat 64 v.fee } } ∧
          t.lotTable =
            { s.lotTable with
              lots :=
                s.lotTable.lots.map fun l =>
                  if l.key = o.key then
                    { l with
                      state := .sold
                      sale :=
                        some
                          { buyer := buyer.number, price := o.price, crates := lot.n, net, amount := v.amount
                            commission := v.commission, levy := v.levy, fee := v.fee, deposit := lot.n * deposit } }
                  else l } ∧
          t.rostrum r =
            (let ended : LastLotEnd :=
              { code := .sold, key := o.key, price := o.price
                winner := some { buyer := buyer.number, crates := lot.n, desk := desk.toNat } }
            Rostrum.showClock
              { (s.rostrum r).answer { desk := desk.toNat, answer := .taken, crates := lot.n } with
                state := .showing, offer := none, stepTimer := none, showTimer := some s.store.timing.showTime, last := some ended
                attention := true }
              { state := .showing, lot := none, price := none, result := some ended }) ∧
          (∀ q, q ≠ r → t.rostrum q = s.rostrum q) ∧
          t =
            { s with
              accountTable := t.accountTable, lotTable := t.lotTable, rostrumA := t.rostrumA, rostrumB := t.rostrumB }

/-- R44, R50, R65, R67, R68, R79, R86 to R90: a part press for k of n crates that passes every check is booked for k crates and the
part net N_k, and leaves a remainder of n − k crates and N − N_k grams: QUEUED at the head of the rostrum's queue, a full queue
losing its tail, at the lesser of the parent's start and the sale price plus the restart steps; the rostrum shows PART_SOLD (log 30
for a clock frame that still waits, as above). -/
def Obligations.PartPressQueuesTheRemainder : Prop :=
  ∀ (r : RostrumId) (desk quantity : Byte) (d : Fin 96) (o : Offer) (lot : Lot) (buyer boat : Account) (snap : Snapshot)
    (tariff : Tariff) (net deposit e : Nat) (s : State),
    let k := quantity.toNat
    let sold := net * k / (lot.n * e) * e
    let v := valuate sold o.price k (tariff.commissionOf boat.cls) snap.levy (tariff.feeOf buyer.cls) deposit
    let total := v.amount + v.fee + k * deposit
    let credit : Int := (v.amount : Int) - v.commission - v.levy + (k * deposit : Nat)
    s.trading = true → unitIndex? 96 desk.toNat = some d → (s.rostrum r).state = .running →
      (s.rostrum r).desk d = some buyer.number → s.account? buyer.number = some buyer → buyer.state = .opened →
      (s.rostrum r).offer = some o → s.lot? o.key = some lot → 0 < k → k < lot.n → lot.net = some (net : Int) →
      lot.division = some e → o.key.part ≠ 7 → 20 * e ≤ sold → 20 * e ≤ net - sold → s.lotTable.lots.length < 1024 →
      s.account? lot.boat = some boat → lot.boat ≠ buyer.number → lot.snapshot = some snap →
      s.store.tariff? = some tariff → s.store.deposit? lot.crateType = some deposit → (total : Int) ≤ buyer.available →
      boat.balance + credit ≤ 2000000000 →
        let key : Key := { number := o.key.number, part := o.key.part + 1 }
        let remainder : Lot :=
          { key, boat := lot.boat, species := lot.species, crateType := lot.crateType, state := .queued, division := some e
            weighings := [], pending := none, n := lot.n - k, gross := none, deductions := none
            net := some ((net : Int) - sold), snapshot := some snap
            restartPrice :=
              some (min (lot.override.getD (lot.restartPrice.getD snap.start)) (o.price + snap.restartSteps * snap.step))
            override := none, rostrum := some r, sale := none }
        let displaced := (s.rostrum r).displaces (some key)
        let ended : LastLotEnd :=
          { code := .partSold, key := o.key, price := o.price
            winner := some { buyer := buyer.number, crates := k, desk := desk.toNat } }
        ∃ t, exec (.pressFrame r desk quantity (crc8 [desk, quantity])) s = .next t ∧
          t.account? buyer.number =
            some
              { buyer with
                balance := buyer.balance - total
                holding := buyer.holding.set lot.crateType (buyer.holding[lot.crateType] + k) } ∧
          t.account? lot.boat =
            some
              { boat with
                balance := boat.balance + credit
                holding := boat.holding.set lot.crateType (boat.holding[lot.crateType] - k)
                committed := boat.committed.set lot.crateType (boat.committed[lot.crateType] - k)
                liveLots := boat.liveLots + 1 } ∧
          (∀ m, m ≠ buyer.number → m ≠ lot.boat → t.account? m = s.account? m) ∧
          t.accountTable =
            { s.accountTable with
              accounts := t.accountTable.accounts, balanceSum := s.accountTable.balanceSum - total + credit
              hall :=
                { s.accountTable.hall with
                  commission := s.accountTable.hall.commission + BitVec.ofNat 64 v.commission
                  levy := s.accountTable.hall.levy + BitVec.ofNat 64 v.levy
                  fee := s.accountTable.hall.fee + BitVec.ofNat 64 v.fee } } ∧
          t.lotTable =
            { s.lotTable with
              lots :=
                (insertLot remainder
                  (s.lotTable.lots.map fun l =>
                    if l.key = o.key then
                      { l with
                        state := .sold
                        sale :=
                          some
                            { buyer := buyer.number, price := o.price, crates := k, net := sold, amount := v.amount
                              commission := v.commission, levy := v.levy, fee := v.fee, deposit := k * deposit } }
                    else l)).map
                  fun l => if some l.key = displaced then { l with state := .ready, rostrum := none } else l } ∧
          t.rostrum r =
            Rostrum.showClock
              { ((s.rostrum r).takes (some key)).answer { desk := desk.toNat, answer := .taken, crates := k } with
                state := .showing, offer := none, stepTimer := none, showTimer := some s.store.timing.showTime
                last := some ended, attention := true }
              { state := .showing, lot := none, price := none, result := some ended } ∧
          (∀ q, q ≠ r → t.rostrum q = s.rostrum q) ∧
          t =
            { s with
              accountTable := t.accountTable, lotTable := t.lotTable, rostrumA := t.rostrumA, rostrumB := t.rostrumB }

/-- R61 to R66, R78, R83 to R85, R178: a press that is no winner changes nothing but the answers of its rostrum: NOT_RUNNING and LATE
outside RUNNING; in it, in the order of the checks, UNASSIGNED, SUSPENDED, QUANTITY, for a part PART_LIMIT, PART_TOO_SMALL and
TABLE_FULL, and of the booking RANGE with the tariff INVALID, CREDIT, and RANGE by the boat's balance; a frame that fails its form
check or arrives malformed is counted. -/
def Obligations.LosingPressesAreAnswered : Prop :=
  ∀ (r : RostrumId) (desk quantity check : Byte) (s : State), s.trading = true →
    let answered (a : PressAnswer) := s.modRostrum r fun x => x.answer { desk := desk.toNat, answer := a, crates := 0 }
    let rejected := s.modRostrum r fun x => { x with rejected := min (x.rejected + 1) 65535 }
    exec (.malformedLineFrame (.rostrum r)) s = .next rejected ∧
    (check ≠ crc8 [desk, quantity] ∨ desk.toNat < 1 ∨ 96 < desk.toNat →
      exec (.pressFrame r desk quantity check) s = .next rejected) ∧
    ∀ d, unitIndex? 96 desk.toNat = some d → check = crc8 [desk, quantity] →
      let answeredBy (a : PressAnswer) := exec (.pressFrame r desk quantity check) s = .next (answered a)
      ((s.rostrum r).state = .idle ∨ (s.rostrum r).state = .waiting ∨ (s.rostrum r).state = .held →
        answeredBy .notRunning) ∧
      ((s.rostrum r).state = .showing → answeredBy .late) ∧
      ((s.rostrum r).state = .running → (s.rostrum r).desk d = none → answeredBy .unassigned) ∧
      ∀ buyer o lot, (s.rostrum r).state = .running → (s.rostrum r).desk d = some buyer.number →
        s.account? buyer.number = some buyer → (s.rostrum r).offer = some o → s.lot? o.key = some lot →
        (buyer.state = .suspended → answeredBy .suspended) ∧
        (buyer.state = .opened → lot.n < quantity.toNat → answeredBy .quantity) ∧
        ∀ boat net e, buyer.state = .opened → quantity.toNat ≤ lot.n → s.account? lot.boat = some boat →
          lot.net = some ((net : Nat) : Int) → lot.division = some e →
          let part := 0 < quantity.toNat ∧ quantity.toNat < lot.n
          let sold := if part then net * quantity.toNat / (lot.n * e) * e else net
          let small := sold < 20 * e ∨ net - sold < 20 * e
          (part → o.key.part = 7 → answeredBy .partLimit) ∧
          (part → o.key.part ≠ 7 → small → answeredBy .partTooSmall) ∧
          (part → o.key.part ≠ 7 → ¬ small → 1024 ≤ s.lotTable.lots.length → answeredBy .tableFull) ∧
          ((part → o.key.part ≠ 7 ∧ ¬ small ∧ s.lotTable.lots.length < 1024) →
            (s.store.tariff? = none → answeredBy .range) ∧
            ∀ tariff snap deposit, s.store.tariff? = some tariff → lot.snapshot = some snap →
              s.store.deposit? lot.crateType = some deposit →
              let k := if quantity.toNat = 0 then lot.n else quantity.toNat
              let v := valuate sold o.price k (tariff.commissionOf boat.cls) snap.levy (tariff.feeOf buyer.cls) deposit
              let total := v.amount + v.fee + k * deposit
              let credit : Int := (v.amount : Int) - v.commission - v.levy + (k * deposit : Nat)
              (buyer.available < total → answeredBy .credit) ∧
              ((total : Int) ≤ buyer.available → 2000000000 < boat.balance + credit → answeredBy .range))

/-- R20, R72, R73: when a ticket line or a rostrum frame has been sent, it leaves and the oldest frame behind it begins. A clock frame
that the rostrum forms replaces the one that still waits, in its place, and never the one in transmission; without one it is the
newest frame. A desk answer is the newest frame, or with 16 queued is counted as dropped. That a frame begins at once on an idle line
is the model's choice of log 8. -/
def Obligations.SentFramesLeaveTheirQueues : Prop :=
  (∀ s : State, s.trading = true →
    (∀ i line rest, (s.lane i).tickets = line :: rest →
      exec (.ticketLineSent i) s = .next (s.modLane i fun l => { l with tickets := rest })) ∧
    (∀ r frame rest, (s.rostrum r).out = frame :: rest →
      exec (.rostrumFrameSent r) s = .next (s.modRostrum r fun x => { x with sending := some frame, out := rest })) ∧
    ∀ r, (s.rostrum r).out = [] →
      exec (.rostrumFrameSent r) s = .next (s.modRostrum r fun x => { x with sending := none })) ∧
  ∀ (x : Rostrum) (f : ClockFrame) (a : DeskAnswer),
    (x.sending = none → x.out = [] → x.showClock f = { x with sending := some (.clock f) }) ∧
    (∀ now before old after, x.sending = some now → x.out = before ++ .clock old :: after →
      (∀ y ∈ before, y.isAnswer = true) → x.showClock f = { x with out := before ++ .clock f :: after }) ∧
    (∀ now, x.sending = some now → (∀ y ∈ x.out, y.isAnswer = true) →
      x.showClock f = { x with out := x.out ++ [.clock f] }) ∧
    (16 ≤ ((x.sending.toList ++ x.out).filter (·.isAnswer)).length →
      x.answer a = { x with dropped := min (x.dropped + 1) 65535 }) ∧
    (((x.sending.toList ++ x.out).filter (·.isAnswer)).length < 16 →
      (∀ now, x.sending = some now → x.answer a = { x with out := x.out ++ [.answer a] }) ∧
      (x.sending = none → x.out = [] → x.answer a = { x with sending := some (.answer a) }))

/-! ## Accounts -/

/-- R97, R98, R102: ADD ACCOUNT inserts a new record, ACCOUNT SET changes the fields given (a limit below reserved less balance is
raised to it and answered CLAMPED), and CLOSE ACCOUNT removes a record that nothing holds. That its OK answer carries 0 for the reason is
the model's choice of log 12. -/
def Obligations.AccountsAreAddedSetAndClosed : Prop :=
  ∀ (number limit cls : Nat) (s : State), s.trading = true → 1 ≤ number → number ≤ 9999 → limit ≤ 50000000 → cls ≤ 3 →
    (∀ kind kindCode, (kindCode = 0 ∧ kind = .boat ∨ kindCode = 1 ∧ kind = .buyer) → s.account? number = none →
      s.accountTable.accounts.length < 512 →
        let new : Account :=
          { number, kind, state := .opened, balance := 0, limit, reserved := 0, cls, holding := Vector.replicate 8 0
            committed := Vector.replicate 8 0, liveLots := 0, deskCount := 0 }
        exec (.addAccount number kindCode limit cls) s =
          .next (s.replied
            { s with
              accountTable :=
                { s.accountTable with
                  accounts := insertAccount new s.accountTable.accounts, recordCount := s.accountTable.recordCount + 1 } }
            0x40 .ok (be 2 (s.accountTable.recordCount + 1)))) ∧
    (∀ presence state stateCode a, presence ≤ 7 → (stateCode = 0 ∧ state = .opened ∨ stateCode = 1 ∧ state = .suspended) →
      s.account? number = some a →
        let limit' := if presence.testBit 0 then max limit ((a.reserved : Int) - a.balance).toNat else a.limit
        let cls' := if presence.testBit 1 then cls else a.cls
        let state' := if presence.testBit 2 then state else a.state
        exec (.accountSet number presence limit cls stateCode) s =
          .next (s.replied
            (s.modAccount number fun x =>
              { x with
                limit := if presence.testBit 0 then max limit ((x.reserved : Int) - x.balance).toNat else x.limit
                cls := if presence.testBit 1 then cls else x.cls
                state := if presence.testBit 2 then state else x.state })
            0x41 (if presence.testBit 0 ∧ (limit : Int) < (a.reserved : Int) - a.balance then .clamped else .ok)
            (be 4 limit' ++ be 1 cls' ++ [state'.byte] ++ beInt 4 (a.balance - a.reserved + limit')))) ∧
    ∀ a, s.account? number = some a → a.balance = 0 → a.reserved = 0 → (∀ t : Fin 8, a.holding[t] = 0) → a.liveLots = 0 →
      a.deskCount = 0 → (∀ b, ∀ o ∈ (s.bay b).order, o.account ≠ number) →
      (∀ g, ∀ w ∈ (s.gate g).session, w.account ≠ number) →
        exec (.closeAccount number) s =
          .next (s.replied
            { s with
              accountTable :=
                { s.accountTable with
                  accounts := s.accountTable.accounts.filter fun x => x.number != number
                  recordCount := s.accountTable.recordCount - 1 } }
            0x44 .ok)

/-- R103 and R104, as decision tables: PAYMENT IN and PAYMENT OUT move the balance, the balance sum and their cash counter together,
and answer the new balance and available credit. Where the available credit stands in the NO_CREDIT answer is the model's choice of
log 14. -/
def Obligations.PaymentsAreR103AndR104 : Prop :=
  ∀ (number amount : Nat) (s : State), s.trading = true →
    let bad := number < 1 ∨ 9999 < number ∨ amount < 1 ∨ 1000000000 < amount
    let moved (d : Int) (hall : HallCounters) : State :=
      { s with
        accountTable :=
          { s.accountTable with
            accounts :=
              s.accountTable.accounts.map fun x => if x.number = number then { x with balance := x.balance + d } else x
            balanceSum := s.accountTable.balanceSum + d, hall } }
    let hall := s.accountTable.hall
    exec (.paymentIn number amount) s =
      .next (
        if bad then s.replied s 0x45 .range
        else
          match s.account? number with
          | none => s.replied s 0x45 .noAccount
          | some a =>
            if 2000000000 < a.balance + amount then s.replied s 0x45 .range
            else
              s.replied (moved amount { hall with cashIn := hall.cashIn + BitVec.ofNat 64 amount }) 0x45 .ok
                (beInt 4 (a.balance + amount) ++ beInt 4 (a.available + amount))) ∧
    exec (.paymentOut number amount) s =
      .next (
        if bad then s.replied s 0x46 .range
        else
          match s.account? number with
          | none => s.replied s 0x46 .noAccount
          | some a =>
            if a.available < amount then s.replied s 0x46 .noCredit (beInt 4 a.available)
            else
              s.replied (moved (-(amount : Int)) { hall with cashOut := hall.cashOut + BitVec.ofNat 64 amount }) 0x46 .ok
                (beInt 4 (a.balance - amount) ++ beInt 4 (a.available - amount)))

/-- R21, R45, R46, R74, R100, R101, R113, R130, R146, R153, with the layouts of 11 section 11.4 and R177: every page and part of the
reading requests, each answered with the record as it stands, and what the read clears: a lane's attention flag; of a rostrum page 0
the attention flag and the displaced report, page 2 both counts; of a bay page 0 the attention flag, page 3 the ignored pulses; the
store's attention flag; page 0 of HALL TOTALS takes the totals copy. A refused ACCOUNT READ, RANGE before the lookup or NO_ACCOUNT,
carries the account number too. The model's choices: the status summary of a clearing read is
that of the state after it (log 5, in `replied`), F, W_g and W_e, every other absent field, and e and Max of an INVALID calibration
are sent as 0 (log 12), part 1 of ACCOUNT READ page 5 is taken and empty (log 15), and an absent rostrum is sent as 255 (log 32). -/
def Obligations.ReadsChangeOnlyWhatTheyClear : Prop :=
  ∀ s : State, s.trading = true →
    -- LANE READ
    (∀ lane i, unitIndex? 8 lane = some i →
      let l := s.lane i
      let cal (f : LaneCal → Nat) : Nat := ((s.store.laneCal? i).map f).getD 0
      ∀ partNo data, (partNo, data) ∈
        [ (0, [l.state.byte, optCode (·.byte) l.cause, flagByte l.enabled] ++ be 1 l.k ++ be 1 l.band ++ be 1 l.m ++ be 1 (cal (·.e)) ++
            be 3 (cal (·.max)) ++ be 1 l.samples ++
            [packBits [l.reading.isSome, l.stable, l.overload, l.underload, l.zeroLimit, l.attention, l.weighing.isSome,
              l.last.isSome]]),
          (1, beInt 3 ((l.reading.map (·.filtered)).getD 0) ++ beInt 4 ((l.reading.map (·.gram)).getD 0) ++
            beInt 4 ((l.reading.map (·.legal)).getD 0) ++ be 1 l.tickets.length),
          (2, beInt 2 l.tracking ++ be 1 l.badRun ++ be 1 l.goodRun ++ keyBytes (l.weighing.map (·.key)) ++
            be 1 ((l.weighing.map (·.crates)).getD 0) ++ be 2 ((l.weighing.map (·.timer)).getD 0)),
          (3, [optCode (·.result.byte) l.last] ++ beInt 3 ((l.last.bind (·.gross)).getD 0) ++ keyBytes (l.last.map (·.key)) ++
            be 1 ((l.last.bind (·.number)).getD 0) ++ [optCode (·.byte) (l.last.bind (·.ticket))]) ] →
        exec (.laneRead lane partNo) s =
          .next (s.replied (s.modLane i fun l => { l with attention := false }) 0x12 .ok data)) ∧
    -- LOT READ: EXACT the lot with the key, NEXT the first lot in key order above it
    (∀ selector number part lot, number ≤ 9999 → part ≤ 7 →
      (selector = 0 ∧ s.lot? { number, part } = some lot ∨
        selector = 1 ∧ s.lotTable.lots.find? (fun l => Key.before { number, part } l.key) = some lot) →
      let snap (f : Snapshot → Nat) : Nat := (lot.snapshot.map f).getD 0
      let sale (f : Sale → Nat) : Nat := (lot.sale.map f).getD 0
      (∀ page partNo data, (page, partNo, data) ∈
        [ (0, 0, [lot.state.byte] ++ be 2 lot.boat ++ be 1 lot.species ++ be 1 (unitNumber lot.crateType) ++
            [(lot.rostrum.map fun r => if r = .a then 0#8 else 1#8).getD 255#8] ++
            [packBits [lot.division.isSome, lot.pending.isSome, lot.deductions.isSome, lot.net.isSome, lot.snapshot.isSome,
              lot.restartPrice.isSome, lot.override.isSome, lot.sale.isSome]]),
          (1, 0, be 1 (lot.division.getD 0) ++ be 1 lot.weighings.length ++ be 1 lot.n ++ be 3 (lot.gross.getD 0) ++
            be 1 ((lot.pending.map (·.lane)).getD 0) ++ be 1 ((lot.pending.map (·.crates)).getD 0)),
          (2, 0, beInt 3 ((lot.deductions.map (·.tare)).getD 0) ++ beInt 3 ((lot.deductions.map (·.allowance)).getD 0) ++
            beInt 3 (lot.net.getD 0)),
          (3, 0, be 3 (snap (·.start)) ++ be 3 (snap (·.withdrawal)) ++ be 3 (snap fun x => x.step * 1024 + x.interval)),
          (4, 0, be 1 (snap (·.levy)) ++ be 1 (snap (·.restartSteps)) ++ be 1 (snap (·.allowance)) ++
            be 3 (lot.restartPrice.getD 0) ++ be 3 (lot.override.getD 0)),
          (5, 0, be 2 (sale (·.buyer)) ++ be 3 (sale (·.price)) ++ be 1 (sale (·.crates)) ++ be 3 (sale (·.net))),
          (5, 1, be 4 (sale (·.amount))),
          (6, 0, be 4 (sale (·.commission)) ++ be 4 (sale (·.levy))),
          (6, 1, be 4 (sale (·.fee)) ++ be 4 (sale (·.deposit))) ] →
        exec (.lotRead selector number part page partNo) s =
          .next (s.replied s 0x28 .ok (be 2 lot.key.number ++ be 1 lot.key.part ++ data))) ∧
      ∀ n : Fin 16,
        exec (.lotRead selector number part (8 + n.val) 0) s =
          .next (s.replied s 0x28 .ok
            (be 2 lot.key.number ++ be 1 lot.key.part ++
              ((lot.weighings[n.val]?).map fun w => be 1 w.lane ++ be 3 w.gross ++ be 1 w.crates).getD []))) ∧
    -- ROSTRUM READ
    (∀ r : RostrumId,
      let x := s.rostrum r
      let rn := if r = .a then 0 else 1
      let desks (first count : Nat) := (List.range count).flatMap fun k => be 2 ((x.desks.toList.getD (first + k) none).getD 0)
      (∀ page partNo data effect, (page, partNo, data, effect) ∈
        ([ (0, 0, [x.state.byte, flagByte x.attention, optCode (·.code.byte) x.last] ++ keyBytes (x.last.map (·.key)) ++
              be 1 x.displacedCount ++ keyBytes x.displacedKey ++ be 1 x.queue.length ++
              be 1 (x.desks.toList.filter (·.isSome)).length,
            fun x => { x with attention := false, displacedCount := 0, displacedKey := none }),
          (0, 1, keyBytes (x.offer.map (·.key)) ++ be 1 ((x.offer.bind fun o => (s.lot? o.key).map (·.n)).getD 0) ++
              be 3 ((x.offer.map (·.price)).getD 0) ++ be 3 ((x.offer.map (·.j)).getD 0) ++
              be 2 (x.stepTimer.getD (x.showTimer.getD 0)),
            fun x => { x with attention := false, displacedCount := 0, displacedKey := none }),
          (1, 0, [optCode (·.code.byte) x.last] ++ keyBytes (x.last.map (·.key)) ++ be 3 ((x.last.map (·.price)).getD 0) ++
              be 2 (((x.last.bind (·.winner)).map (·.buyer)).getD 0) ++
              be 1 (((x.last.bind (·.winner)).map (·.crates)).getD 0) ++ be 1 (((x.last.bind (·.winner)).map (·.desk)).getD 0),
            fun x => x),
          (1, 1,
            match x.last with
            | none => be 3 0
            | some e => if e.code = .partSold then be 2 e.key.number ++ be 1 (e.key.part + 1) else be 3 0,
            fun x => x),
          (2, 0, be 2 x.rejected ++ be 2 x.dropped, fun x => { x with rejected := 0, dropped := 0 }) ] :
            List (Nat × Nat × List Byte × (Rostrum → Rostrum))) →
        exec (.rostrumRead rn page partNo) s = .next (s.replied (s.modRostrum r effect) 0x34 .ok data)) ∧
      (∀ n : Fin 32,
        exec (.rostrumRead rn (16 + n.val) 0) s =
          .next (s.replied s 0x34 .ok
            (keyBytes x.queue[4 * n.val]? ++ keyBytes x.queue[4 * n.val + 1]? ++ keyBytes x.queue[4 * n.val + 2]? ++
              keyBytes x.queue[4 * n.val + 3]?))) ∧
      ∀ n : Fin 6,
        exec (.rostrumRead rn (64 + n.val) 0) s = .next (s.replied s 0x34 .ok (desks (16 * n.val) 6)) ∧
        exec (.rostrumRead rn (64 + n.val) 1) s = .next (s.replied s 0x34 .ok (desks (16 * n.val + 6) 6)) ∧
        exec (.rostrumRead rn (64 + n.val) 2) s = .next (s.replied s 0x34 .ok (desks (16 * n.val + 12) 4))) ∧
    -- ACCOUNT READ and ACCOUNT NEXT
    (∀ number a, 1 ≤ number → number ≤ 9999 → s.account? number = some a →
      let crates (t : Fin 8) := be 2 a.holding[t] ++ be 2 a.committed[t]
      ∀ page partNo data, (page, partNo, data) ∈
        [ (0, 0, [a.kind.byte, a.state.byte] ++ be 1 a.cls ++ be 2 a.liveLots ++ be 1 a.deskCount ++
            be 1 (all4.filter fun b => (s.bay b).order.any (·.account == number)).length ++
            be 1 (((all2.find? fun g => (s.gate g).session.any (·.account == number)).map unitNumber).getD 0)),
          (1, 0, beInt 4 a.balance ++ be 4 a.reserved), (1, 1, be 4 a.limit),
          (2, 0, beInt 4 (a.balance - a.reserved + a.limit)),
          (3, 0, crates 0 ++ crates 1), (3, 1, crates 2), (4, 0, crates 3 ++ crates 4), (4, 1, crates 5),
          (5, 0, crates 6 ++ crates 7), (5, 1, []) ] →
        exec (.accountRead number page partNo) s = .next (s.replied s 0x42 .ok (be 2 number ++ data))) ∧
    (∀ number page partNo,
      let pages : List (Nat × Nat) := [(0, 0), (1, 0), (1, 1), (2, 0), (3, 0), (3, 1), (4, 0), (4, 1), (5, 0), (5, 1)]
      (number < 1 ∨ 9999 < number ∨ (page, partNo) ∉ pages →
        exec (.accountRead number page partNo) s = .next (s.replied s 0x42 .range (be 2 number))) ∧
      (1 ≤ number → number ≤ 9999 → (page, partNo) ∈ pages → s.account? number = none →
        exec (.accountRead number page partNo) s = .next (s.replied s 0x42 .noAccount (be 2 number)))) ∧
    (∀ number a, number ≤ 9999 → s.accountTable.Tallied → a ∈ s.accountTable.accounts → number < a.number →
      (∀ b ∈ s.accountTable.accounts, number < b.number → a.number ≤ b.number) →
      exec (.accountNext number) s = .next (s.replied s 0x43 .ok (be 2 a.number ++ [a.kind.byte, a.state.byte]))) ∧
    -- HALL TOTALS
    (exec (.hallTotals 0) s =
        .next (s.replied
          { s with
            accountTable :=
              { s.accountTable with
                totals := some { counters := s.accountTable.hall, balanceSum := s.accountTable.balanceSum } } }
          0x47 .ok (be 8 s.accountTable.hall.commission.toNat)) ∧
      (∀ c page data, s.accountTable.totals = some c → (page, data) ∈
        [ (1, be 8 c.counters.levy.toNat), (2, be 8 c.counters.fee.toNat), (3, be 8 c.counters.ice.toNat),
          (4, be 8 c.counters.depositFloat.toNat), (5, be 8 c.counters.cashIn.toNat), (6, be 8 c.counters.cashOut.toNat),
          (7, beInt 8 c.balanceSum) ] →
        exec (.hallTotals page) s = .next (s.replied s 0x47 .ok data)) ∧
      exec (.hallTotals 8) s = .next (s.replied s 0x47 .ok (be 2 s.accountTable.recordCount))) ∧
    -- YARD READ
    (let figures (t : Fin 8) := be 2 (s.crateType t).yard ++ be 2 (s.crateType t).fleet ++ be 2 (s.crateType t).strays
      let session (g : Fin 2) (f : Session → Nat) : Nat := ((s.gate g).session.map f).getD 0
      let counted (g : Fin 2) (t : Fin 8) := be 2 (session g fun w => w.counted[t])
      let close (g : Fin 2) (f : LastClose → Nat) : Nat := ((s.gate g).lastClose.map f).getD 0
      let settled (g : Fin 2) (t : Fin 8) := be 2 (close g fun c => c.credited[t]) ++ be 2 (close g fun c => c.excess[t])
      let sum (w : Session) : Nat :=
        w.counted[0] + w.counted[1] + w.counted[2] + w.counted[3] + w.counted[4] + w.counted[5] + w.counted[6] + w.counted[7]
      let open_ (g : Fin 2) := [flagByte (s.gate g).session.isSome] ++ be 2 (session g (·.account)) ++
        be 2 (session g (·.rejected)) ++ be 2 (session g sum) ++ be 2 (s.gate g).refused
      let last (g : Fin 2) := [flagByte (s.gate g).lastClose.isSome] ++ be 2 (close g (·.account)) ++
        be 2 (close g (·.rejected)) ++ be 4 (close g (·.deposit))
      ∀ page data, (page, data) ∈
        [ (0, figures 0 ++ figures 1), (1, figures 2 ++ figures 3), (2, figures 4 ++ figures 5), (3, figures 6 ++ figures 7),
          (4, open_ 0), (5, open_ 1),
          (6, counted 0 0 ++ counted 0 1 ++ counted 0 2 ++ counted 0 3), (7, counted 0 4 ++ counted 0 5 ++ counted 0 6 ++ counted 0 7),
          (8, counted 1 0 ++ counted 1 1 ++ counted 1 2 ++ counted 1 3), (9, counted 1 4 ++ counted 1 5 ++ counted 1 6 ++ counted 1 7),
          (10, last 0), (11, settled 0 0 ++ settled 0 1 ++ settled 0 2), (12, settled 0 3 ++ settled 0 4 ++ settled 0 5),
          (13, settled 0 6 ++ settled 0 7),
          (14, last 1), (15, settled 1 0 ++ settled 1 1 ++ settled 1 2), (16, settled 1 3 ++ settled 1 4 ++ settled 1 5),
          (17, settled 1 6 ++ settled 1 7) ] →
        exec (.yardRead page) s = .next (s.replied s 0x55 .ok data)) ∧
    -- BAY READ
    (∀ bay b, unitIndex? 4 bay = some b →
      let x := s.bay b
      let order (f : IceOrder → Nat) : Nat := (x.order.map f).getD 0
      let last (f : LastIce → Nat) : Nat := (x.last.map f).getD 0
      ∀ page partNo data effect, (page, partNo, data, effect) ∈
        ([ (0, 0, [x.state.byte, flagByte x.release, flagByte x.attention, optCode (·.code.byte) x.last] ++
              be 2 (last (·.account)) ++ be 2 (last (·.q)) ++ be 2 (last (·.kilograms)), fun x => { x with attention := false }),
          (0, 1, be 3 (last (·.delivered)) ++ be 4 (last (·.charge)), fun x => { x with attention := false }),
          (1, 0, [flagByte x.order.isSome] ++ be 2 (order (·.account)) ++ be 2 (order (·.q)) ++ be 2 (order (·.price)) ++
              be 2 (order (·.pulseWeight)) ++ [flagByte (x.order.any (·.aborted))], fun x => x),
          (1, 1, be 4 (order (·.charge)) ++ be 3 x.delivered ++ be 1 x.runOnPulses ++
              be 2 (x.pulseTimer.getD (x.runOnTimer.getD 0)), fun x => x),
          (2, 0, be 4 s.ice.stock ++ be 4 s.ice.reservation ++ be 1 (all4.filter fun b => (s.bay b).order.isSome).length, fun x => x),
          (2, 1, be 4 (s.ice.stock - s.ice.reservation), fun x => x),
          (3, 0, be 2 x.ignored, fun x => { x with ignored := 0 }) ] : List (Nat × Nat × List Byte × (Bay → Bay))) →
        exec (.bayRead bay page partNo) s = .next (s.replied (s.modBay b effect) 0x63 .ok data)) ∧
    -- STORE READ: the contents of a write in the buffer, or the live ones
    ∀ selector id, RecordId.ofSelector selector = some id →
      let held := s.store.buffer.any fun w => w.target == id
      let shown := padTo 12 (if held then (s.store.buffer.map (·.contents)).getD [] else (s.store.live id).contents)
      ∀ partNo data, (partNo, data) ∈
        [ (0, [id.selector, if (s.store.live id).valid then 0 else 1, flagByte held,
            (s.store.last.map fun l => l.target.selector).getD 0, optCode (·.result.byte) s.store.last,
            flagByte s.store.attention] ++ shown.take 6),
          (1, [id.selector] ++ shown.drop 6) ] →
        exec (.storeRead selector partNo) s =
          .next (s.replied (s.modStore fun st => { st with attention := false }) 0x70 .ok data)

/-! ## The crate pool -/

/-- R120, R121: CRATE ISSUE gives out as many crates as the yard and the available credit allow, and moves yard stock, holding,
balance, balance sum and deposit float together; the totals copy stays (R113). -/
def Obligations.CrateIssueIsClamped : Prop :=
  ∀ (number crateType n d : Nat) (t : Fin 8) (a : Account) (s : State),
    let yard := (s.crateType t).yard
    let m := if 0 < d then min (min n yard) (a.available / d).toNat else min n yard
    s.trading = true → 1 ≤ number → number ≤ 9999 → unitIndex? 8 crateType = some t → 1 ≤ n → n ≤ 999 →
      s.account? number = some a → a.state = .opened → s.store.deposit? t = some d → 0 < yard → 1 ≤ m →
        ∃ u, exec (.crateIssue number crateType n) s =
            .next (s.replied u 0x50 (if m < n then .clamped else .ok)
              (be 2 m ++ be 4 (m * d) ++ beInt 4 (a.available - (m * d : Nat)))) ∧
          u.crateType t = { s.crateType t with yard := yard - m } ∧ (∀ v, v ≠ t → u.crateType v = s.crateType v) ∧
          (∀ g, u.gate g = s.gate g) ∧
          u.account? number =
            some { a with balance := a.balance - (m * d : Nat), holding := a.holding.set t (a.holding[t] + m) } ∧
          (∀ k, k ≠ number → u.account? k = s.account? k) ∧
          u.accountTable =
            { s.accountTable with
              accounts := u.accountTable.accounts, balanceSum := s.accountTable.balanceSum - (m * d : Nat)
              hall :=
                { s.accountTable.hall with
                  depositFloat := s.accountTable.hall.depositFloat + BitVec.ofNat 64 (m * d) } } ∧
          u = { s with crates := u.crates, accountTable := u.accountTable }

/-- R128, R129: CRATE TRANSFER moves crates and their deposit between two accounts, and FLEET ADJUST moves the yard stock and the
fleet count of a type together, within 0 and 65,535. -/
def Obligations.TransferAndFleetAdjust : Prop :=
  ∀ (crateType : Nat) (t : Fin 8) (s : State), s.trading = true → unitIndex? 8 crateType = some t →
    (∀ giver taker n d a b, 1 ≤ giver → giver ≤ 9999 → 1 ≤ taker → taker ≤ 9999 → giver ≠ taker → 1 ≤ n → n ≤ 999 →
      s.account? giver = some a → s.account? taker = some b → b.state = .opened → s.store.deposit? t = some d →
      n ≤ a.holding[t] - a.committed[t] → (n * d : Nat) ≤ b.available → a.balance + (n * d : Nat) ≤ 2000000000 →
        ∃ u, exec (.crateTransfer giver taker crateType n) s =
            .next (s.replied u 0x53 .ok
              (be 2 (a.holding[t] - n) ++ be 2 (b.holding[t] + n) ++ beInt 4 (b.available - (n * d : Nat)))) ∧
          u.account? giver =
            some { a with balance := a.balance + (n * d : Nat), holding := a.holding.set t (a.holding[t] - n) } ∧
          u.account? taker =
            some { b with balance := b.balance - (n * d : Nat), holding := b.holding.set t (b.holding[t] + n) } ∧
          (∀ k, k ≠ giver → k ≠ taker → u.account? k = s.account? k) ∧
          u.accountTable = { s.accountTable with accounts := u.accountTable.accounts } ∧
          u = { s with accountTable := u.accountTable }) ∧
    ∀ n : Int,
      exec (.fleetAdjust crateType n) s =
        .next (
          if n < -65535 ∨ 65535 < n ∨ (s.crateType t).yard + n < 0 ∨ 65535 < (s.crateType t).fleet + n then
            s.replied s 0x54 .range
          else
            s.replied
              (s.modCrateType t fun c => { c with yard := (c.yard + n).toNat, fleet := (c.fleet + n).toNat }) 0x54 .ok
              (be 2 ((s.crateType t).yard + n).toNat ++ be 2 ((s.crateType t).fleet + n).toNat))

/-- R122 to R124, R178: RETURN OPEN opens a session at an idle gate; a readable frame is counted in the session up to 999, and at a full
count or an idle gate is a stray while the fleet has room and refused otherwise; an unreadable or malformed frame, one of a type with
an INVALID deposit record among them, is counted as rejected or refused. -/
def Obligations.GateFramesAreCounted : Prop :=
  ∀ (gate : Nat) (g : Fin 2) (s : State), s.trading = true → unitIndex? 2 gate = some g →
    let refused := s.modGate g fun x => { x with refused := min (x.refused + 1) 65535 }
    (∀ account a, 1 ≤ account → account ≤ 9999 → s.account? account = some a → (s.gate g).session = none →
      (∀ h, ∀ w ∈ (s.gate h).session, w.account ≠ account) →
        exec (.returnOpen gate account) s =
          .next (s.replied
            (s.modGate g fun x =>
              { x with session := some { account, counted := Vector.replicate 8 0, rejected := 0 } })
            0x51 .ok)) ∧
    (∀ code t, unitIndex? 8 code.toNat = some t → (s.store.deposit? t).isSome = true →
      (∀ w, (s.gate g).session = some w → w.counted[t] < 999 →
        exec (.gateFrame g code (crc8 [code])) s =
          .next (s.modGate g fun x => { x with session := some { w with counted := w.counted.set t (w.counted[t] + 1) } })) ∧
      ((s.gate g).session = none ∨ (∃ w, (s.gate g).session = some w ∧ 999 ≤ w.counted[t]) →
        ((s.crateType t).fleet < 65535 →
          exec (.gateFrame g code (crc8 [code])) s =
            .next (s.modCrateType t fun c =>
              { yard := c.yard + 1, fleet := c.fleet + 1, strays := min (c.strays + 1) 65535 })) ∧
        (65535 ≤ (s.crateType t).fleet → exec (.gateFrame g code (crc8 [code])) s = .next refused))) ∧
    ∀ code check c,
      (c = .malformedLineFrame (.gate g) ∨
        c = .gateFrame g code check ∧
          (check ≠ crc8 [code] ∨ code.toNat < 1 ∨ 8 < code.toNat ∨
            ∃ t, unitIndex? 8 code.toNat = some t ∧ s.store.deposit? t = none)) →
        ((s.gate g).session = none → exec c s = .next refused) ∧
        ∀ w, (s.gate g).session = some w →
          exec c s = .next (s.modGate g fun x => { x with session := some { w with rejected := min (w.rejected + 1) 999 } })

/-- R125, R126: RETURN CLOSE credits, per type, the lesser of the counted crates and the account's free crates, takes the rest as
excess into fleet and strays, and records the settlement; the totals copy stays (R113). -/
def Obligations.ReturnCloseSettles : Prop :=
  ∀ (gate : Nat) (g : Fin 2) (w : Session) (a : Account) (s : State),
    let credited (t : Fin 8) := min w.counted[t] (a.holding[t] - a.committed[t])
    let excess (t : Fin 8) := w.counted[t] - credited t
    let total (f : Fin 8 → Nat) := f 0 + f 1 + f 2 + f 3 + f 4 + f 5 + f 6 + f 7
    let deposit := total fun t => credited t * s.store.deposit t
    s.trading = true → unitIndex? 2 gate = some g → (s.gate g).session = some w → s.account? w.account = some a →
      (∀ t, (s.crateType t).fleet + excess t ≤ 65535) → a.balance + deposit ≤ 2000000000 →
        ∃ u, exec (.returnClose gate) s =
            .next (s.replied u 0x52 .ok
              (be 2 (total credited) ++ be 2 (total excess) ++ be 2 w.rejected ++ be 4 deposit)) ∧
          (∀ t, u.crateType t =
            { yard := (s.crateType t).yard + w.counted[t], fleet := (s.crateType t).fleet + excess t
              strays := min ((s.crateType t).strays + excess t) 65535 }) ∧
          (∃ b, u.account? w.account = some b ∧ b.balance = a.balance + deposit ∧ (∀ t : Fin 8, b.holding[t] = a.holding[t] - credited t) ∧
            b = { a with balance := b.balance, holding := b.holding }) ∧
          (∀ k, k ≠ w.account → u.account? k = s.account? k) ∧
          u.accountTable =
            { s.accountTable with
              accounts := u.accountTable.accounts, balanceSum := s.accountTable.balanceSum + deposit
              hall :=
                { s.accountTable.hall with
                  depositFloat := s.accountTable.hall.depositFloat - BitVec.ofNat 64 deposit } } ∧
          (∃ c, u.gate g = { s.gate g with session := none, lastClose := some c } ∧ c.account = w.account ∧
            c.rejected = w.rejected ∧ c.deposit = deposit ∧
            ∀ t : Fin 8, c.credited[t] = credited t ∧ c.excess[t] = excess t) ∧
          (∀ h, h ≠ g → u.gate h = s.gate h) ∧ u = { s with crates := u.crates, accountTable := u.accountTable }

/-! ## Ice -/

/-- R135 to R137: ICE ORDER is clamped to the free stock and then to the available credit, reserves its charge and its stock, opens
the gate and starts the pulse timer. -/
def Obligations.IceOrderIsClampedAndReserved : Prop :=
  ∀ (number bay q pulseWeight : Nat) (b : Fin 4) (a : Account) (tariff : Tariff) (s : State),
    let price := if a.kind = .boat then tariff.iceBoat else tariff.iceBuyer
    let free := s.ice.stock - s.ice.reservation
    let q1 := min q (free / 1000)
    let q2 := if 0 < price then min q1 (a.available / price).toNat else q1
    s.trading = true → 1 ≤ number → number ≤ 9999 → unitIndex? 4 bay = some b → 1 ≤ q → q ≤ 5000 →
      (s.bay b).state = .idle → s.account? number = some a → a.state = .opened → s.store.tariff? = some tariff →
      s.store.pulseWeight? b = some pulseWeight → 1 ≤ q2 →
        exec (.iceOrder number bay q) s =
          .next (s.replied
            (((s.modAccount number fun x => { x with reserved := x.reserved + q2 * price }).modIce fun u =>
                { u with reservation := u.reservation + q2 * 1000 }).modBay b fun x =>
              { x with
                state := .dispensing
                order :=
                  some
                    { account := number, q := q2, price, pulseWeight, charge := q2 * price, stock := q2 * 1000
                      aborted := false }
                delivered := 0, runOnPulses := 0, pulseTimer := some s.store.timing.pulse, runOnTimer := none
                release := true })
            0x60 (if q2 < q then .clamped else .ok)
            (be 2 q2 ++ be 4 (q2 * price) ++ beInt 4 (a.available - (q2 * price : Nat))))

/-- R139 to R142: a pulse in DISPENSING grows d and restarts the pulse timer (at a pulse timeout that R150 keeps at 200 ms or more), so
that an expiry of it that arrived with the pulse does not happen, or at the target shuts the gate and enters RUN_ON; in RUN_ON up to 8
pulses are counted; elsewhere a pulse is ignored; ICE ABORT shuts the gate of a dispensing bay. With a run-on window of 0 the order
completes in the same event, DONE at the target and ABORTED at ICE ABORT (`OrderCompleted`), whose answer then carries IDLE and a d of
0. -/
def Obligations.PulsesAndAborts : Prop :=
  ∀ (bay : Nat) (b : Fin 4) (s : State), s.trading = true → unitIndex? 4 bay = some b →
    let window := s.store.timing.runOn
    let ignored := s.modBay b fun x => { x with ignored := min (x.ignored + 1) 65535 }
    let runOn (o : IceOrder) (d : Nat) := s.modBay b fun x =>
      { x with
        state := .runOn, order := some o, delivered := d, runOnPulses := 0, pulseTimer := none, runOnTimer := some window
        release := false }
    ((s.bay b).state = .idle → exec (.bayPulse b) s = .next ignored) ∧
    ((s.bay b).state = .idle → exec (.iceAbort bay) s = .next (s.replied s 0x61 .wrongState)) ∧
    ∀ o a, (s.bay b).order = some o → s.account? o.account = some a →
      ((s.bay b).state = .dispensing → (s.bay b).delivered + o.pulseWeight < o.q * 1000 →
        let counted := s.modBay b fun x =>
          { x with delivered := x.delivered + o.pulseWeight, pulseTimer := some s.store.timing.pulse }
        exec (.bayPulse b) s = .next counted ∧
          (s.store.timing.pulse ≠ 0 → exec (.pulseTimerExpiry b) counted = .next counted)) ∧
      ((s.bay b).state = .dispensing → o.q * 1000 ≤ (s.bay b).delivered + o.pulseWeight →
        (0 < window →
          exec (.bayPulse b) s = .next (runOn { o with aborted := false } ((s.bay b).delivered + o.pulseWeight))) ∧
        (window = 0 → ∃ t, exec (.bayPulse b) s = .next t ∧
          s.OrderCompleted t b o ((s.bay b).delivered + o.pulseWeight) .done)) ∧
      ((s.bay b).state = .runOn → (s.bay b).runOnPulses < 8 →
        exec (.bayPulse b) s =
          .next (s.modBay b fun x =>
            { x with delivered := x.delivered + o.pulseWeight, runOnPulses := x.runOnPulses + 1 })) ∧
      ((s.bay b).state = .runOn → 8 ≤ (s.bay b).runOnPulses → exec (.bayPulse b) s = .next ignored) ∧
      ((s.bay b).state = .dispensing →
        (0 < window →
          exec (.iceAbort bay) s =
            .next (s.replied (runOn { o with aborted := true } (s.bay b).delivered) 0x61 .ok
              ([2#8] ++ be 3 (s.bay b).delivered))) ∧
        (window = 0 → ∃ t, exec (.iceAbort bay) s = .next (s.replied t 0x61 .ok ([0#8] ++ be 3 0)) ∧
          s.OrderCompleted t b o (s.bay b).delivered .aborted)) ∧
      ((s.bay b).state = .runOn →
        exec (.iceAbort bay) s = .next (s.replied s 0x61 .ok ([2#8] ++ be 3 (s.bay b).delivered)))

/-- R140, R141, R143: the expiry of a pulse timer that has run out completes an order JAM, and that of a run-on timer DONE or ABORTED
(`OrderCompleted`); a timer that is stopped or has time left does not expire (log 3). The kilograms charged are the lesser of Q and d
rounded to the kilogram; the account's reserved falls by R and its balance by the charge, which the ice revenue gains; the bunker loses
d and its reservation Q × 1,000; the totals copy stays (R113). -/
def Obligations.IceCompletionCharges : Prop :=
  (∀ (b : Fin 4) (s : State), s.trading = true →
    ((s.bay b).pulseTimer ≠ some 0 → exec (.pulseTimerExpiry b) s = .next s) ∧
    ((s.bay b).runOnTimer ≠ some 0 → exec (.runOnTimerExpiry b) s = .next s)) ∧
  ∀ (b : Fin 4) (o : IceOrder) (a : Account) (s : State) (c : Instr) (code : IceCode),
    s.trading = true → (s.bay b).order = some o → s.account? o.account = some a →
      (c = .pulseTimerExpiry b ∧ code = .jam ∧ (s.bay b).pulseTimer = some 0 ∨
        c = .runOnTimerExpiry b ∧ code = (if o.aborted then .aborted else .done) ∧ (s.bay b).runOnTimer = some 0) →
        ∃ t, exec c s = .next t ∧ s.OrderCompleted t b o (s.bay b).delivered code

/-- R145: ICE STOCK ADD. -/
def Obligations.IceStockAddIsR145 : Prop :=
  ∀ (grams : Nat) (s : State), s.trading = true →
    exec (.iceStockAdd grams) s =
      .next (
        if grams < 1 ∨ 2000000000 < grams then s.replied s 0x62 .range
        else
          s.replied (s.modIce fun u => { u with stock := min (u.stock + grams) 2000000000 }) 0x62
            (if 2000000000 < s.ice.stock + grams then .clamped else .ok)
            (be 4 (min (s.ice.stock + grams) 2000000000) ++
              be 4 (min (s.ice.stock + grams) 2000000000 - s.ice.reservation)))

/-! ## The configuration store -/

/-- R22, R154 to R157, R162: a STORE WRITE that meets the conditions before R156's is refused IN_USE when one of R156's holds: a lane
calibration with a weighing pending, a VALID tare changed with an OPEN lot of the type, a VALID deposit changed with crates of the type
held. Otherwise it is held with the target's previous record and answered PENDING, and until its completion every block reads the
previous record. The completion drops it when a condition on a tare or a deposit now holds, and otherwise makes it live and VALID. A
timing record loads the supply codes: a change of the level suspends detection for 2 ms and
returns a monitor in LOW to NORMAL. A calibration record settles its lane anew at the new Z_cal unless it is OFF, and a pending
weighing ends CAL_CHANGED. -/
def Obligations.StoreWritesProgramAndComplete : Prop :=
  let weighed (s : State) (id : RecordId) : Prop := ∃ i, id = .laneCal i ∧ (s.lane i).weighing ≠ none
  let inUse (s : State) (id : RecordId) (contents : List Byte) : Prop :=
    let new := 256 * (contents.getD 0 0#8).toNat + (contents.getD 1 0#8).toNat
    (∃ t old, id = .crateTare t ∧ s.store.tare? t = some old ∧ new ≠ old ∧
      ∃ l ∈ s.lotTable.lots, l.state = .opened ∧ l.crateType = t) ∨
    ∃ t old, id = .crateDeposit t ∧ s.store.deposit? t = some old ∧ new ≠ old ∧
      0 < (s.accountTable.accounts.map fun a => a.holding[t]).sum
  (∀ (selector : Nat) (bytes : List Byte) (id : RecordId) (s : State),
    let contents := padTo id.length bytes
    s.trading = true → RecordId.ofSelector selector = some id → id.contentsOk contents = true →
      (id.isMetrology = true → s.store.locked = false) → (id.isTariff = true → s.store.activeTariff = false) →
      (id = .timing → s.store.activeTiming = false) → s.store.buffer = none →
        let held : State := s.modStore fun st =>
          { st with buffer := some { target := id, contents, previous := st.cells.get id, suspended := false } }
        (weighed s id ∨ inUse s id contents → exec (.storeWrite selector bytes) s = .next (s.replied s 0x71 .inUse)) ∧
          (¬ weighed s id → ¬ inUse s id contents →
            exec (.storeWrite selector bytes) s = .next (s.replied held 0x71 .pending [id.selector])) ∧
          ∀ other, held.store.live other = s.store.live other) ∧
    ∀ (w : WriteBuffer) (s : State), s.trading = true → s.store.buffer = some w → w.suspended = false →
      let live : State := s.modStore fun st =>
        { st with
          cells := st.cells.set w.target { valid := true, contents := w.contents, check := crc8 w.contents }, buffer := none
          last := some { target := w.target, result := .ok }, attention := true }
      let settled (l : Lane) : Lane :=
        { l with
          state := .settling, window := [], history := [], reading := none, samples := 0, stable := false, overload := false
          underload := false, badRun := 0, goodRun := 0, cause := none, zero := (laneCalOf w.contents).zero, tracking := 0
          zeroLimit := false, silence := some 250 }
      let codes := timingOf w.contents
      (inUse s w.target w.contents →
        exec .programmingCompletion s =
          .next (s.modStore fun st =>
            { st with
              cells := st.cells.set w.target w.previous, buffer := none, last := some { target := w.target, result := .inUse }
              attention := true })) ∧
      (¬ inUse s w.target w.contents →
        ((∀ i, w.target ≠ .laneCal i) → w.target ≠ .timing → exec .programmingCompletion s = .next live) ∧
        (w.target = .timing →
          exec .programmingCompletion s =
            .next (live.modSupply fun p =>
              let moved := codes.level ≠ p.levelCode
              { p with
                levelCode := codes.level, filterCode := codes.filter, suspend := if moved then some 2 else p.suspend
                state := if moved ∧ p.state = .low then .normal else p.state
                persistence := if moved ∧ p.state = .low then none else p.persistence })) ∧
        ∀ i, w.target = .laneCal i →
          ((s.lane i).state = .off → exec .programmingCompletion s = .next live) ∧
          ((s.lane i).state ≠ .off →
            ((s.lane i).weighing = none → exec .programmingCompletion s = .next (live.modLane i settled)) ∧
            ∀ p lot, (s.lane i).weighing = some p → s.lot? p.key = some lot →
              exec .programmingCompletion s = .next ((live.weighingEnded i p lot .calChanged none).modLane i settled)))

/-- R158, R159: LOAD PROTECTION copies the live protection word, bit 0 TARIFF and bit 1 TIMING, an INVALID word as both clear;
METROLOGY LOCK with the CRC-8 of the twenty live metrology records programs the lock word, and without it is a MISMATCH. -/
def Obligations.ProtectionAndLock : Prop :=
  ∀ s : State, s.trading = true →
    (∀ word, s.store.live .protection = { valid := true, contents := [word], check := crc8 [word] } →
      exec .loadProtection s =
        .next (s.replied
          (s.modStore fun st => { st with activeTariff := word.getLsbD 0, activeTiming := word.getLsbD 1 }) 0x72 .ok
          [flagByte (word.getLsbD 0), flagByte (word.getLsbD 1)])) ∧
    ((s.store.live .protection).valid = false →
      exec .loadProtection s =
        .next (s.replied (s.modStore fun st => { st with activeTariff := false, activeTiming := false }) 0x72 .ok [0, 0])) ∧
    ∀ check, s.store.locked = false → s.store.buffer = none → (∀ id ∈ RecordId.metrology, (s.store.live id).valid = true) →
      (check = (crc8 (RecordId.metrology.flatMap fun id => (s.store.live id).contents)).toNat →
        exec (.metrologyLock check) s =
          .next (s.replied
            (s.modStore fun st =>
              { st with
                buffer := some { target := .lock, contents := [0x5A#8], previous := st.cells.get .lock, suspended := false } })
            0x73 .pending)) ∧
      (check ≠ (crc8 (RecordId.metrology.flatMap fun id => (s.store.live id).contents)).toNat →
        exec (.metrologyLock check) s =
          .next (s.replied s 0x73 .mismatch [crc8 (RecordId.metrology.flatMap fun id => (s.store.live id).contents)]))

/-! ## The supply monitor -/

/-- R162, R163: the crossings that the monitor sees outside HOLD, and SUPPLY SET. The detection level is 4.00 V plus 0.05 V times the
level code; the persistence time is 1, 4 or 16 ms for filter codes 1 to 3. A persistence timer that a rise has stopped, or that has
time left, does not expire, and detection stays suspended until its 2 ms have run out (log 3). A change of the level code suspends
detection for 2 ms and returns a monitor in LOW to NORMAL. -/
def Obligations.DetectionFollowsR162 : Prop :=
  ∀ s : State, s.supply.absent = false →
    let level := 4000 + 50 * s.supply.levelCode
    let time := if s.supply.filterCode = 1 then 1 else if s.supply.filterCode = 2 then 4 else 16
    let low := s.modSupply fun p => { p with state := .low, suspend := none, persistence := some time }
    (∀ mv, s.supply.state = .normal → s.supply.suspend = none → s.supply.filterCode ≠ 0 →
      exec (.supplyFall mv) s = .next (if mv < level then low else s)) ∧
    (∀ mv, s.supply.state = .low → s.supply.suspend = none →
      exec (.supplyRise mv) s =
        .next (if mv < level then s else s.modSupply fun p => { p with state := .normal, persistence := none })) ∧
    (s.supply.persistence ≠ some 0 → exec .persistenceTimerExpiry s = .next s) ∧
    (∀ mv, s.supply.suspend ≠ some 0 → exec (.detectionSuspendEnd mv) s = .next s) ∧
    (∀ mv, s.supply.state = .normal → s.supply.suspend = some 0 → s.supply.filterCode ≠ 0 →
      exec (.detectionSuspendEnd mv) s =
        .next (if mv < level then low else s.modSupply fun p => { p with suspend := none })) ∧
    ∀ newLevel filter, s.trading = true → newLevel ≤ 11 → filter ≤ 3 → s.store.activeTiming = false →
      exec (.supplySet newLevel filter) s =
        .next (s.replied
          (s.modSupply fun p =>
            let moved := newLevel ≠ p.levelCode
            { p with
              levelCode := newLevel, filterCode := filter, suspend := if moved then some 2 else p.suspend
              state := if moved ∧ p.state = .low then .normal else p.state
              persistence := if moved ∧ p.state = .low then none else p.persistence })
          0x78 .ok (be 1 newLevel ++ be 1 filter ++ be 2 (400 + 5 * newLevel)))

/-- R164, with R23, R32, R75, R115, R143, R147 and R160: the expiry of the persistence timer in LOW, and at filter code 0 a fall in
NORMAL or a supply below the level at the end of the suspension, enter HOLD. The work in flight ends (`WorkEnded`: every record of
every block, what is kept and what is not), the port takes nothing, and data out and the attention line stand at their idle levels. -/
def Obligations.HoldEndsTheWorkInFlight : Prop :=
  ∀ (s : State) (c : Instr) (mv : Nat),
    s.supply.absent = false →
      (c = .persistenceTimerExpiry ∧ s.supply.state = .low ∧ s.supply.persistence = some 0 ∨
        c = .supplyFall mv ∧ s.supply.state = .normal ∧ s.supply.suspend = none ∧ s.supply.filterCode = 0 ∧
          mv < 4000 + 50 * s.supply.levelCode ∨
        c = .detectionSuspendEnd mv ∧ s.supply.state = .normal ∧ s.supply.suspend = some 0 ∧ s.supply.filterCode = 0 ∧
          mv < 4000 + 50 * s.supply.levelCode) →
        ∃ t, exec c s = .next t ∧ s.WorkEnded t ∧
          t.supply =
            { s.supply with
              state := .hold, persistence := none, starting := none
              suspend := if c = .persistenceTimerExpiry then s.supply.suspend else none } ∧
          t.trading = false ∧ t.attentionLine = false ∧ ∀ clocked, t.dataOut clocked = none

/-- R164, R166, R167, with R23, R75, R76, R147, R148, R160 and R176: the recovery timer runs above the level plus 0.10 V and stops at
or below it, and does not expire with time left (log 3); its expiry restarts the part with cause SUPPLY_RESUME, at once, or with the
reset line asserted at its release. The assertion of the reset line in a trading part ends the work in flight (offers, weighings, ice
orders, programming: `WorkEnded`) and begins a start; in HOLD and RECOVERING the line changes its pin alone. The release finishes a
start that waits (`Started`); the line changes neither the supply state nor a timer of the monitor, but for the level change that the
codes loaded at the release may be. The model's choices: that a start counts as begun at the assertion and waits for the release, and
that silence timers, ticket queues and the totals copy end at the assertion as they do at HOLD (log 21), that its cause and the restart
flag are recorded at its beginning (log 27), that a running suspension hides no recovery crossing and a level change at the release
returns a monitor in LOW to NORMAL (log 17), and the samples 0 of a disabled lane at the end of a start (log 16). -/
def Obligations.RestartsLeaveHoldAndReset : Prop :=
  ∀ s : State, s.supply.absent = false →
    let level := 4000 + 50 * s.supply.levelCode
    (∀ mv, s.supply.state = .hold →
      exec (.recoveryRise mv) s =
        .next (if level + 100 < mv then s.modSupply fun p => { p with state := .recovering, recovery := some 50 } else s)) ∧
    (∀ mv, s.supply.state = .recovering →
      exec (.recoveryFall mv) s =
        .next (if level + 100 < mv then s else s.modSupply fun p => { p with state := .hold, recovery := none })) ∧
    (s.supply.recovery ≠ some 0 → exec .recoveryTimerExpiry s = .next s) ∧
    (s.supply.state = .recovering → s.supply.recovery = some 0 →
      (s.supply.resetLine = false → ∃ t, exec .recoveryTimerExpiry s = .next t ∧ s.Started t .supplyResume ∧
        t.supply =
          { s.supply with
            state := .normal, persistence := none, recovery := none, suspend := some 2, cause := .supplyResume
            restartFlag := true, starting := none, levelCode := t.store.timing.level, filterCode := t.store.timing.filter }) ∧
      (s.supply.resetLine = true →
        exec .recoveryTimerExpiry s =
          .next (s.modSupply fun p =>
            { p with
              state := .normal, persistence := none, recovery := none, suspend := some 2, cause := .supplyResume
              restartFlag := true, starting := some .supplyResume }))) ∧
    (s.trading = true → ∃ t, exec .resetLineAssert s = .next t ∧ s.WorkEnded t ∧
      t.supply =
        { s.supply with resetLine := true, cause := .resetLine, restartFlag := true, starting := some .resetLine } ∧
      t.trading = false ∧ t.attentionLine = false ∧ ∀ clocked, t.dataOut clocked = none) ∧
    (s.supply.state = .hold ∨ s.supply.state = .recovering →
      exec .resetLineAssert s = .next (s.modSupply fun p => { p with resetLine := true }) ∧
        exec .resetLineRelease s = .next (s.modSupply fun p => { p with resetLine := false })) ∧
    (∀ cause, s.supply.starting = some cause → s.supply.inHold = false → s.supply.cause = cause →
      s.supply.restartFlag = true → ∃ t, exec .resetLineRelease s = .next t ∧ s.Started t cause ∧
        t.supply =
          (let moved := t.store.timing.level ≠ s.supply.levelCode
          { s.supply with
            resetLine := false, levelCode := t.store.timing.level, filterCode := t.store.timing.filter, suspend := some 2
            starting := none, state := if moved ∧ s.supply.state = .low then .normal else s.supply.state
            persistence := if moved ∧ s.supply.state = .low then none else s.supply.persistence }))

/-- R160, R165, R166, with R23, R47, R48, R76, R116, R117, R133, R148 and R161: the loss of the main supply keeps the retained records
and loses what is volatile (`Dark`); the backup supply's fall sets the latch while the main supply is absent; a power-on is cold with
the latch set, and empties every retained record, and warm otherwise, with the retained records put right (`Reconciled`); either ends
as a start ends (`Started`), or, with the reset line asserted, waits for its release with the power-on's cause. From a part as the
loss left it, no block then has a last result or an attention flag. A write held at a cold power-on leaves its target INVALID,
whatever its cells hold (log 10). The model's choices: what a volatile field holds without main supply (log 23), that the loss
suspends a held write (log 20), that the active codes stand from the power-on on (log 19) and the cause from its beginning (log 27),
and the samples 0 of a disabled lane at the end of a start (log 16). -/
def Obligations.PowerLossAndPowerOn : Prop :=
  ∀ s : State,
    (s.supply.absent = false → ∃ t, exec .supplyAbsent s = .next t ∧ t.Dark ∧ t.supply.absent = true ∧ t.trading = false ∧
      t.supply.latch = s.supply.latch ∧ t.supply.resetLine = s.supply.resetLine ∧
      (∀ i, t.lane i = Lane.fresh (s.lane i).enabled (s.lane i).k (s.lane i).band (s.lane i).m) ∧
      (∀ r, t.rostrum r = Rostrum.fresh (s.rostrum r).queue (s.rostrum r).desks) ∧
      t.lotTable = s.lotTable ∧ t.accountTable = { s.accountTable with totals := none } ∧ t.crates = s.crates ∧
      t.ice.stock = s.ice.stock ∧ t.ice.reservation = s.ice.reservation ∧ t.store.cells = s.store.cells ∧
      t.store.buffer = s.store.buffer.map fun w => { w with suspended := true }) ∧
    exec .backupLow s = .next (if s.supply.absent then s.modSupply fun p => { p with latch := true } else s) ∧
    (s.supply.absent = true →
      let cause : RestartCause := if s.supply.latch then .powerOnCold else .powerOnWarm
      ∃ u,
        (s.supply.latch = false → s.Reconciled u) ∧
        (s.supply.latch = true →
          (∀ i, u.lane i = Lane.fresh false 2 1 5) ∧ u.lotTable = { lots := [], counter := 1, day := 0, dayWrap := false } ∧
            (∀ r, u.rostrum r = Rostrum.fresh [] (Vector.replicate 96 none)) ∧
            u.accountTable =
              { accounts := [], recordCount := 0, balanceSum := 0, hall := HallCounters.zero, totals := none } ∧
            (∀ ty, u.crateType ty = { yard := 0, fleet := 0, strays := 0 }) ∧
            (∀ g, u.gate g = { session := none, refused := 0, lastClose := none }) ∧ u.ice.stock = 0 ∧
            u.ice.reservation = 0 ∧ (∀ b, u.bay b = Bay.fresh) ∧ u.store.buffer = none ∧
            (∀ w ∈ s.store.buffer, (u.store.live w.target).valid = false) ∧
            (∀ id, s.store.buffer.map (·.target) ≠ some id → u.store.cells.get id = s.store.cells.get id) ∧
            u.store.last = s.store.last ∧ u.store.attention = s.store.attention) ∧
        (s.supply.resetLine = false → ∃ t, exec .powerOn s = .next t ∧ u.Started t cause ∧ t.supply.absent = false ∧
          t.supply.latch = false ∧ t.supply.state = .normal ∧ t.supply.persistence = none ∧ t.supply.recovery = none ∧
          (s.supply.latch = true → ∀ w ∈ s.store.buffer, (t.store.live w.target).valid = false) ∧
          (s.Dark →
            (∀ i, (t.lane i).last = none ∧ (t.lane i).attention = false) ∧
              (∀ r, (t.rostrum r).last = none ∧ (t.rostrum r).attention = false) ∧
              (∀ b, (t.bay b).last = none ∧ (t.bay b).attention = false) ∧ t.store.last = none ∧
              t.store.attention = false)) ∧
        (s.supply.resetLine = true →
          exec .powerOn s =
            .next { u with
              supply :=
                { s.supply with
                  state := .normal, persistence := none, recovery := none, suspend := some 2, latch := false, absent := false
                  levelCode := u.store.timing.level, filterCode := u.store.timing.filter, cause, restartFlag := true
                  starting := some cause } }))

/-- R168, with R24, R48, R77, R117, R133 and R149: RECORDS CLEAR is BUSY with a rostrum or a bay not IDLE, a weighing pending or a gate
session open; otherwise it clears the retained records and leaves the store, the supply monitor and the port. Z, ZERO_LIMIT and the
tracking offset keep their values (R15, R24). The model's choices: what the clear leaves alone that no rule names, such as frames on
a rostrum line (log 26), and the samples since settle start that OFF keeps (log 16). -/
def Obligations.RecordsClearIsR168 : Prop :=
  ∀ s : State, s.trading = true →
    ((∃ r, (s.rostrum r).state ≠ .idle) ∨ (∃ b, (s.bay b).state ≠ .idle) ∨ (∃ i, (s.lane i).weighing ≠ none) ∨
        (∃ g, (s.gate g).session ≠ none) →
      exec .recordsClear s = .next (s.replied s 0x79 .busy)) ∧
    ((∀ r, (s.rostrum r).state = .idle) → (∀ b, (s.bay b).state = .idle) → (∀ i, (s.lane i).weighing = none) →
      (∀ g, (s.gate g).session = none) →
        ∃ u, exec .recordsClear s = .next (s.replied u 0x79 .ok) ∧
          (∀ i, u.lane i =
            { s.lane i with
              enabled := false, k := 2, band := 1, m := 5, state := .off, window := [], history := [], reading := none
              stable := false, overload := false, underload := false, badRun := 0, goodRun := 0, cause := none, silence := none
              tickets := [], last := none, attention := false }) ∧
          u.lotTable = { lots := [], counter := 1, day := 0, dayWrap := false } ∧
          (∀ r, u.rostrum r =
            { s.rostrum r with
              queue := [], desks := Vector.replicate 96 none, last := none, attention := false, displacedCount := 0
              displacedKey := none, rejected := 0, dropped := 0 }) ∧
          u.accountTable =
            { accounts := [], recordCount := 0, balanceSum := 0, hall := HallCounters.zero, totals := none } ∧
          (∀ t, u.crateType t = { yard := 0, fleet := 0, strays := 0 }) ∧
          (∀ g, u.gate g = { session := none, refused := 0, lastClose := none }) ∧
          u.ice.stock = 0 ∧ u.ice.reservation = 0 ∧
          (∀ b, u.bay b = { s.bay b with last := none, attention := false, ignored := 0 }) ∧
          u.store = s.store ∧ u.supply = s.supply ∧ u.port = s.port ∧ u.freeCount = s.freeCount ∧ u.pending = s.pending)

/-! ## The request port -/

/-- R169 to R174, R176: STATUS reports and then clears; PORT SET changes the link parameters, the frame length two frames later; a
short frame, a CRC error and a request that names nothing are answered and executed nowhere, a named one whose byte 14 is not 0 is
RANGE; a CRC error counts, and sets LINK_FAULT at the limit. The pending answer is shifted out with the length in force, byte 15 its
CRC-8, followed by 0 bytes or cut off; while the part does not trade data out stands at its idle level (without main supply: log 7).
That a code that names nothing is UNKNOWN_REQUEST whatever its byte 14 is the model's choice of log 33. -/
def Obligations.PortFramesAreAnswered : Prop :=
  ∀ s : State,
    (∀ clocked, s.trading = false → s.dataOut clocked = none) ∧
    (∀ clocked, s.trading = true →
      let body := [s.port.answer.request, s.port.answer.code, s.port.answer.summary] ++ padTo 12 s.port.answer.data
      s.dataOut clocked =
        some (((if s.port.frameCrc then body ++ [crc8 body] else body) ++ List.replicate clocked 0#8).take clocked)) ∧
    (s.trading = true →
      exec .status s =
        .next { s with
          port :=
            { s.port with
              errorCount := 0, linkFault := false, frameCrc := s.port.crcSetting
              answer :=
                { request := 0x01, code := 0, summary := s.summary false false
                  data :=
                    padTo 12
                      ([s.laneFlagsByte, s.blockFlagsByte, flagByte s.supply.restartFlag, s.supply.cause.byte] ++
                        be 1 s.port.errorCount ++ be 1 s.port.errorLimit ++
                        [flagByte s.port.crcSetting, flagByte s.lotTable.dayWrap]) } }
          supply := { s.supply with cause := .none, restartFlag := false } } ∧
      (∀ setting limit, setting ≤ 1 → 1 ≤ limit → limit ≤ 15 →
        exec (.portSet setting limit) s =
          .next (s.replied
            (s.modPort fun p =>
              { p with
                crcSetting := setting == 1, errorLimit := limit, linkFault := p.linkFault || decide (limit ≤ p.errorCount) })
            0x02 .ok (be 1 setting ++ be 1 limit))) ∧
      exec .shortFrame s =
        .next { s with
          port :=
            { s.port with
              frameCrc := s.port.crcSetting
              answer := { request := 0, code := 255, summary := s.summary true false, data := List.replicate 12 0 } } } ∧
      (∀ code, s.port.frameCrc = true →
        ∃ t, exec (.crcErr code) s = .next t ∧ t.port.errorCount = min (s.port.errorCount + 1) 15 ∧
          (s.port.errorLimit ≤ min (s.port.errorCount + 1) 15 → t.port.linkFault = true) ∧
          (min (s.port.errorCount + 1) 15 < s.port.errorLimit → t.port.linkFault = s.port.linkFault) ∧
          t.port.answer = { request := code, code := 255, summary := t.summary false true, data := List.replicate 12 0 } ∧
          t.port.crcSetting = s.port.crcSetting ∧ t.port.frameCrc = s.port.crcSetting ∧
          t.port.errorLimit = s.port.errorLimit ∧ t = { s with port := t.port }) ∧
      ∀ code byte14,
        (namesRequest code = false → exec (.unknownRequest code byte14) s = .next (s.replied s code .unknownRequest)) ∧
        (namesRequest code = true → byte14 ≠ 0 → exec (.unknownRequest code byte14) s = .next (s.replied s code .range)))
end

