-- ==== Sys2Proof/Laws/State.lean ====
section
/-! SUPPORT. One lemma per field per elementary update of State. -/

namespace Sys2Proof.Machine

namespace State

/-! ### modLane -/

@[simp] theorem modLane_lanes (s : State) (i : Fin 8) (f : Lane → Lane) :
    (s.modLane i f).lanes =
      s.lanes.set i (f s.lanes[i]) :=
  rfl
@[simp] theorem modLane_lotTable (s : State) (i : Fin 8) (f : Lane → Lane) : (s.modLane i f).lotTable = s.lotTable := rfl
@[simp] theorem modLane_rostrumA (s : State) (i : Fin 8) (f : Lane → Lane) : (s.modLane i f).rostrumA = s.rostrumA := rfl
@[simp] theorem modLane_rostrumB (s : State) (i : Fin 8) (f : Lane → Lane) : (s.modLane i f).rostrumB = s.rostrumB := rfl
@[simp] theorem modLane_accountTable (s : State) (i : Fin 8) (f : Lane → Lane) :
    (s.modLane i f).accountTable =
      s.accountTable :=
  rfl
@[simp] theorem modLane_crates (s : State) (i : Fin 8) (f : Lane → Lane) : (s.modLane i f).crates = s.crates := rfl
@[simp] theorem modLane_ice (s : State) (i : Fin 8) (f : Lane → Lane) : (s.modLane i f).ice = s.ice := rfl
@[simp] theorem modLane_store (s : State) (i : Fin 8) (f : Lane → Lane) : (s.modLane i f).store = s.store := rfl
@[simp] theorem modLane_supply (s : State) (i : Fin 8) (f : Lane → Lane) : (s.modLane i f).supply = s.supply := rfl
@[simp] theorem modLane_port (s : State) (i : Fin 8) (f : Lane → Lane) : (s.modLane i f).port = s.port := rfl
@[simp] theorem modLane_freeCount (s : State) (i : Fin 8) (f : Lane → Lane) : (s.modLane i f).freeCount = s.freeCount := rfl
@[simp] theorem modLane_pending (s : State) (i : Fin 8) (f : Lane → Lane) : (s.modLane i f).pending = s.pending := rfl

/-! ### modBay -/

@[simp] theorem modBay_lanes (s : State) (b : Fin 4) (f : Bay → Bay) : (s.modBay b f).lanes = s.lanes := rfl
@[simp] theorem modBay_lotTable (s : State) (b : Fin 4) (f : Bay → Bay) : (s.modBay b f).lotTable = s.lotTable := rfl
@[simp] theorem modBay_rostrumA (s : State) (b : Fin 4) (f : Bay → Bay) : (s.modBay b f).rostrumA = s.rostrumA := rfl
@[simp] theorem modBay_rostrumB (s : State) (b : Fin 4) (f : Bay → Bay) : (s.modBay b f).rostrumB = s.rostrumB := rfl
@[simp] theorem modBay_accountTable (s : State) (b : Fin 4) (f : Bay → Bay) : (s.modBay b f).accountTable = s.accountTable := rfl
@[simp] theorem modBay_crates (s : State) (b : Fin 4) (f : Bay → Bay) : (s.modBay b f).crates = s.crates := rfl
@[simp] theorem modBay_ice (s : State) (b : Fin 4) (f : Bay → Bay) :
    (s.modBay b f).ice =
      { s.ice with bays := s.ice.bays.set b (f s.ice.bays[b]) } :=
  rfl
@[simp] theorem modBay_store (s : State) (b : Fin 4) (f : Bay → Bay) : (s.modBay b f).store = s.store := rfl
@[simp] theorem modBay_supply (s : State) (b : Fin 4) (f : Bay → Bay) : (s.modBay b f).supply = s.supply := rfl
@[simp] theorem modBay_port (s : State) (b : Fin 4) (f : Bay → Bay) : (s.modBay b f).port = s.port := rfl
@[simp] theorem modBay_freeCount (s : State) (b : Fin 4) (f : Bay → Bay) : (s.modBay b f).freeCount = s.freeCount := rfl
@[simp] theorem modBay_pending (s : State) (b : Fin 4) (f : Bay → Bay) : (s.modBay b f).pending = s.pending := rfl

/-! ### modIce -/

@[simp] theorem modIce_lanes (s : State) (f : IceUnit → IceUnit) : (s.modIce f).lanes = s.lanes := rfl
@[simp] theorem modIce_lotTable (s : State) (f : IceUnit → IceUnit) : (s.modIce f).lotTable = s.lotTable := rfl
@[simp] theorem modIce_rostrumA (s : State) (f : IceUnit → IceUnit) : (s.modIce f).rostrumA = s.rostrumA := rfl
@[simp] theorem modIce_rostrumB (s : State) (f : IceUnit → IceUnit) : (s.modIce f).rostrumB = s.rostrumB := rfl
@[simp] theorem modIce_accountTable (s : State) (f : IceUnit → IceUnit) : (s.modIce f).accountTable = s.accountTable := rfl
@[simp] theorem modIce_crates (s : State) (f : IceUnit → IceUnit) : (s.modIce f).crates = s.crates := rfl
@[simp] theorem modIce_ice (s : State) (f : IceUnit → IceUnit) : (s.modIce f).ice = f s.ice := rfl
@[simp] theorem modIce_store (s : State) (f : IceUnit → IceUnit) : (s.modIce f).store = s.store := rfl
@[simp] theorem modIce_supply (s : State) (f : IceUnit → IceUnit) : (s.modIce f).supply = s.supply := rfl
@[simp] theorem modIce_port (s : State) (f : IceUnit → IceUnit) : (s.modIce f).port = s.port := rfl
@[simp] theorem modIce_freeCount (s : State) (f : IceUnit → IceUnit) : (s.modIce f).freeCount = s.freeCount := rfl
@[simp] theorem modIce_pending (s : State) (f : IceUnit → IceUnit) : (s.modIce f).pending = s.pending := rfl

/-! ### modCrateType -/

@[simp] theorem modCrateType_lanes (s : State) (t : Fin 8) (f : CrateType → CrateType) :
    (s.modCrateType t f).lanes =
      s.lanes :=
  rfl
@[simp] theorem modCrateType_lotTable (s : State) (t : Fin 8) (f : CrateType → CrateType) :
    (s.modCrateType t f).lotTable =
      s.lotTable :=
  rfl
@[simp] theorem modCrateType_rostrumA (s : State) (t : Fin 8) (f : CrateType → CrateType) :
    (s.modCrateType t f).rostrumA =
      s.rostrumA :=
  rfl
@[simp] theorem modCrateType_rostrumB (s : State) (t : Fin 8) (f : CrateType → CrateType) :
    (s.modCrateType t f).rostrumB =
      s.rostrumB :=
  rfl
@[simp] theorem modCrateType_accountTable (s : State) (t : Fin 8) (f : CrateType → CrateType) :
    (s.modCrateType t f).accountTable =
      s.accountTable :=
  rfl
@[simp] theorem modCrateType_crates (s : State) (t : Fin 8) (f : CrateType → CrateType) :
    (s.modCrateType t f).crates =
      { s.crates with types := s.crates.types.set t (f s.crates.types[t]) } :=
  rfl
@[simp] theorem modCrateType_ice (s : State) (t : Fin 8) (f : CrateType → CrateType) : (s.modCrateType t f).ice = s.ice := rfl
@[simp] theorem modCrateType_store (s : State) (t : Fin 8) (f : CrateType → CrateType) :
    (s.modCrateType t f).store =
      s.store :=
  rfl
@[simp] theorem modCrateType_supply (s : State) (t : Fin 8) (f : CrateType → CrateType) :
    (s.modCrateType t f).supply =
      s.supply :=
  rfl
@[simp] theorem modCrateType_port (s : State) (t : Fin 8) (f : CrateType → CrateType) : (s.modCrateType t f).port = s.port := rfl
@[simp] theorem modCrateType_freeCount (s : State) (t : Fin 8) (f : CrateType → CrateType) :
    (s.modCrateType t f).freeCount =
      s.freeCount :=
  rfl
@[simp] theorem modCrateType_pending (s : State) (t : Fin 8) (f : CrateType → CrateType) :
    (s.modCrateType t f).pending =
      s.pending :=
  rfl

/-! ### modGate -/

@[simp] theorem modGate_lanes (s : State) (g : Fin 2) (f : Gate → Gate) : (s.modGate g f).lanes = s.lanes := rfl
@[simp] theorem modGate_lotTable (s : State) (g : Fin 2) (f : Gate → Gate) : (s.modGate g f).lotTable = s.lotTable := rfl
@[simp] theorem modGate_rostrumA (s : State) (g : Fin 2) (f : Gate → Gate) : (s.modGate g f).rostrumA = s.rostrumA := rfl
@[simp] theorem modGate_rostrumB (s : State) (g : Fin 2) (f : Gate → Gate) : (s.modGate g f).rostrumB = s.rostrumB := rfl
@[simp] theorem modGate_accountTable (s : State) (g : Fin 2) (f : Gate → Gate) :
    (s.modGate g f).accountTable =
      s.accountTable :=
  rfl
@[simp] theorem modGate_crates (s : State) (g : Fin 2) (f : Gate → Gate) :
    (s.modGate g f).crates =
      { s.crates with gates := s.crates.gates.set g (f s.crates.gates[g]) } :=
  rfl
@[simp] theorem modGate_ice (s : State) (g : Fin 2) (f : Gate → Gate) : (s.modGate g f).ice = s.ice := rfl
@[simp] theorem modGate_store (s : State) (g : Fin 2) (f : Gate → Gate) : (s.modGate g f).store = s.store := rfl
@[simp] theorem modGate_supply (s : State) (g : Fin 2) (f : Gate → Gate) : (s.modGate g f).supply = s.supply := rfl
@[simp] theorem modGate_port (s : State) (g : Fin 2) (f : Gate → Gate) : (s.modGate g f).port = s.port := rfl
@[simp] theorem modGate_freeCount (s : State) (g : Fin 2) (f : Gate → Gate) : (s.modGate g f).freeCount = s.freeCount := rfl
@[simp] theorem modGate_pending (s : State) (g : Fin 2) (f : Gate → Gate) : (s.modGate g f).pending = s.pending := rfl

/-! ### modStore -/

@[simp] theorem modStore_lanes (s : State) (f : Store → Store) : (s.modStore f).lanes = s.lanes := rfl
@[simp] theorem modStore_lotTable (s : State) (f : Store → Store) : (s.modStore f).lotTable = s.lotTable := rfl
@[simp] theorem modStore_rostrumA (s : State) (f : Store → Store) : (s.modStore f).rostrumA = s.rostrumA := rfl
@[simp] theorem modStore_rostrumB (s : State) (f : Store → Store) : (s.modStore f).rostrumB = s.rostrumB := rfl
@[simp] theorem modStore_accountTable (s : State) (f : Store → Store) : (s.modStore f).accountTable = s.accountTable := rfl
@[simp] theorem modStore_crates (s : State) (f : Store → Store) : (s.modStore f).crates = s.crates := rfl
@[simp] theorem modStore_ice (s : State) (f : Store → Store) : (s.modStore f).ice = s.ice := rfl
@[simp] theorem modStore_store (s : State) (f : Store → Store) : (s.modStore f).store = f s.store := rfl
@[simp] theorem modStore_supply (s : State) (f : Store → Store) : (s.modStore f).supply = s.supply := rfl
@[simp] theorem modStore_port (s : State) (f : Store → Store) : (s.modStore f).port = s.port := rfl
@[simp] theorem modStore_freeCount (s : State) (f : Store → Store) : (s.modStore f).freeCount = s.freeCount := rfl
@[simp] theorem modStore_pending (s : State) (f : Store → Store) : (s.modStore f).pending = s.pending := rfl

/-! ### modSupply -/

@[simp] theorem modSupply_lanes (s : State) (f : Supply → Supply) : (s.modSupply f).lanes = s.lanes := rfl
@[simp] theorem modSupply_lotTable (s : State) (f : Supply → Supply) : (s.modSupply f).lotTable = s.lotTable := rfl
@[simp] theorem modSupply_rostrumA (s : State) (f : Supply → Supply) : (s.modSupply f).rostrumA = s.rostrumA := rfl
@[simp] theorem modSupply_rostrumB (s : State) (f : Supply → Supply) : (s.modSupply f).rostrumB = s.rostrumB := rfl
@[simp] theorem modSupply_accountTable (s : State) (f : Supply → Supply) : (s.modSupply f).accountTable = s.accountTable := rfl
@[simp] theorem modSupply_crates (s : State) (f : Supply → Supply) : (s.modSupply f).crates = s.crates := rfl
@[simp] theorem modSupply_ice (s : State) (f : Supply → Supply) : (s.modSupply f).ice = s.ice := rfl
@[simp] theorem modSupply_store (s : State) (f : Supply → Supply) : (s.modSupply f).store = s.store := rfl
@[simp] theorem modSupply_supply (s : State) (f : Supply → Supply) : (s.modSupply f).supply = f s.supply := rfl
@[simp] theorem modSupply_port (s : State) (f : Supply → Supply) : (s.modSupply f).port = s.port := rfl
@[simp] theorem modSupply_freeCount (s : State) (f : Supply → Supply) : (s.modSupply f).freeCount = s.freeCount := rfl
@[simp] theorem modSupply_pending (s : State) (f : Supply → Supply) : (s.modSupply f).pending = s.pending := rfl

/-! ### modPort -/

@[simp] theorem modPort_lanes (s : State) (f : Port → Port) : (s.modPort f).lanes = s.lanes := rfl
@[simp] theorem modPort_lotTable (s : State) (f : Port → Port) : (s.modPort f).lotTable = s.lotTable := rfl
@[simp] theorem modPort_rostrumA (s : State) (f : Port → Port) : (s.modPort f).rostrumA = s.rostrumA := rfl
@[simp] theorem modPort_rostrumB (s : State) (f : Port → Port) : (s.modPort f).rostrumB = s.rostrumB := rfl
@[simp] theorem modPort_accountTable (s : State) (f : Port → Port) : (s.modPort f).accountTable = s.accountTable := rfl
@[simp] theorem modPort_crates (s : State) (f : Port → Port) : (s.modPort f).crates = s.crates := rfl
@[simp] theorem modPort_ice (s : State) (f : Port → Port) : (s.modPort f).ice = s.ice := rfl
@[simp] theorem modPort_store (s : State) (f : Port → Port) : (s.modPort f).store = s.store := rfl
@[simp] theorem modPort_supply (s : State) (f : Port → Port) : (s.modPort f).supply = s.supply := rfl
@[simp] theorem modPort_port (s : State) (f : Port → Port) : (s.modPort f).port = f s.port := rfl
@[simp] theorem modPort_freeCount (s : State) (f : Port → Port) : (s.modPort f).freeCount = s.freeCount := rfl
@[simp] theorem modPort_pending (s : State) (f : Port → Port) : (s.modPort f).pending = s.pending := rfl

/-! ### endFrame -/

@[simp] theorem endFrame_lanes (s : State) (setting : Bool) (a : Answer) : (s.endFrame setting a).lanes = s.lanes := rfl
@[simp] theorem endFrame_lotTable (s : State) (setting : Bool) (a : Answer) : (s.endFrame setting a).lotTable = s.lotTable := rfl
@[simp] theorem endFrame_rostrumA (s : State) (setting : Bool) (a : Answer) : (s.endFrame setting a).rostrumA = s.rostrumA := rfl
@[simp] theorem endFrame_rostrumB (s : State) (setting : Bool) (a : Answer) : (s.endFrame setting a).rostrumB = s.rostrumB := rfl
@[simp] theorem endFrame_accountTable (s : State) (setting : Bool) (a : Answer) :
    (s.endFrame setting a).accountTable =
      s.accountTable :=
  rfl
@[simp] theorem endFrame_crates (s : State) (setting : Bool) (a : Answer) : (s.endFrame setting a).crates = s.crates := rfl
@[simp] theorem endFrame_ice (s : State) (setting : Bool) (a : Answer) : (s.endFrame setting a).ice = s.ice := rfl
@[simp] theorem endFrame_store (s : State) (setting : Bool) (a : Answer) : (s.endFrame setting a).store = s.store := rfl
@[simp] theorem endFrame_supply (s : State) (setting : Bool) (a : Answer) : (s.endFrame setting a).supply = s.supply := rfl
@[simp] theorem endFrame_port (s : State) (setting : Bool) (a : Answer) :
    (s.endFrame setting a).port =
      { s.port with answer := a, frameCrc := setting } :=
  rfl
@[simp] theorem endFrame_freeCount (s : State) (setting : Bool) (a : Answer) :
    (s.endFrame setting a).freeCount =
      s.freeCount :=
  rfl
@[simp] theorem endFrame_pending (s : State) (setting : Bool) (a : Answer) : (s.endFrame setting a).pending = s.pending := rfl

/-! ### modHall -/

@[simp] theorem modHall_lanes (s : State) (f : HallCounters → HallCounters) : (s.modHall f).lanes = s.lanes := rfl
@[simp] theorem modHall_lotTable (s : State) (f : HallCounters → HallCounters) : (s.modHall f).lotTable = s.lotTable := rfl
@[simp] theorem modHall_rostrumA (s : State) (f : HallCounters → HallCounters) : (s.modHall f).rostrumA = s.rostrumA := rfl
@[simp] theorem modHall_rostrumB (s : State) (f : HallCounters → HallCounters) : (s.modHall f).rostrumB = s.rostrumB := rfl
@[simp] theorem modHall_accountTable (s : State) (f : HallCounters → HallCounters) :
    (s.modHall f).accountTable =
      { s.accountTable with hall := f s.accountTable.hall } :=
  rfl
@[simp] theorem modHall_crates (s : State) (f : HallCounters → HallCounters) : (s.modHall f).crates = s.crates := rfl
@[simp] theorem modHall_ice (s : State) (f : HallCounters → HallCounters) : (s.modHall f).ice = s.ice := rfl
@[simp] theorem modHall_store (s : State) (f : HallCounters → HallCounters) : (s.modHall f).store = s.store := rfl
@[simp] theorem modHall_supply (s : State) (f : HallCounters → HallCounters) : (s.modHall f).supply = s.supply := rfl
@[simp] theorem modHall_port (s : State) (f : HallCounters → HallCounters) : (s.modHall f).port = s.port := rfl
@[simp] theorem modHall_freeCount (s : State) (f : HallCounters → HallCounters) : (s.modHall f).freeCount = s.freeCount := rfl
@[simp] theorem modHall_pending (s : State) (f : HallCounters → HallCounters) : (s.modHall f).pending = s.pending := rfl

/-! ### setTotals -/

@[simp] theorem setTotals_lanes (s : State) (c : Option TotalsCopy) : (s.setTotals c).lanes = s.lanes := rfl
@[simp] theorem setTotals_lotTable (s : State) (c : Option TotalsCopy) : (s.setTotals c).lotTable = s.lotTable := rfl
@[simp] theorem setTotals_rostrumA (s : State) (c : Option TotalsCopy) : (s.setTotals c).rostrumA = s.rostrumA := rfl
@[simp] theorem setTotals_rostrumB (s : State) (c : Option TotalsCopy) : (s.setTotals c).rostrumB = s.rostrumB := rfl
@[simp] theorem setTotals_accountTable (s : State) (c : Option TotalsCopy) :
    (s.setTotals c).accountTable =
      { s.accountTable with totals := c } :=
  rfl
@[simp] theorem setTotals_crates (s : State) (c : Option TotalsCopy) : (s.setTotals c).crates = s.crates := rfl
@[simp] theorem setTotals_ice (s : State) (c : Option TotalsCopy) : (s.setTotals c).ice = s.ice := rfl
@[simp] theorem setTotals_store (s : State) (c : Option TotalsCopy) : (s.setTotals c).store = s.store := rfl
@[simp] theorem setTotals_supply (s : State) (c : Option TotalsCopy) : (s.setTotals c).supply = s.supply := rfl
@[simp] theorem setTotals_port (s : State) (c : Option TotalsCopy) : (s.setTotals c).port = s.port := rfl
@[simp] theorem setTotals_freeCount (s : State) (c : Option TotalsCopy) : (s.setTotals c).freeCount = s.freeCount := rfl
@[simp] theorem setTotals_pending (s : State) (c : Option TotalsCopy) : (s.setTotals c).pending = s.pending := rfl

/-! ### modLot -/

@[simp] theorem modLot_lanes (s : State) (key : Key) (f : Lot → Lot) : (s.modLot key f).lanes = s.lanes := rfl
@[simp] theorem modLot_lotTable (s : State) (key : Key) (f : Lot → Lot) :
    (s.modLot key f).lotTable =
      { s.lotTable with lots := s.lotTable.lots.map fun l => if l.key = key then f l else l } :=
  rfl
@[simp] theorem modLot_rostrumA (s : State) (key : Key) (f : Lot → Lot) : (s.modLot key f).rostrumA = s.rostrumA := rfl
@[simp] theorem modLot_rostrumB (s : State) (key : Key) (f : Lot → Lot) : (s.modLot key f).rostrumB = s.rostrumB := rfl
@[simp] theorem modLot_accountTable (s : State) (key : Key) (f : Lot → Lot) :
    (s.modLot key f).accountTable =
      s.accountTable :=
  rfl
@[simp] theorem modLot_crates (s : State) (key : Key) (f : Lot → Lot) : (s.modLot key f).crates = s.crates := rfl
@[simp] theorem modLot_ice (s : State) (key : Key) (f : Lot → Lot) : (s.modLot key f).ice = s.ice := rfl
@[simp] theorem modLot_store (s : State) (key : Key) (f : Lot → Lot) : (s.modLot key f).store = s.store := rfl
@[simp] theorem modLot_supply (s : State) (key : Key) (f : Lot → Lot) : (s.modLot key f).supply = s.supply := rfl
@[simp] theorem modLot_port (s : State) (key : Key) (f : Lot → Lot) : (s.modLot key f).port = s.port := rfl
@[simp] theorem modLot_freeCount (s : State) (key : Key) (f : Lot → Lot) : (s.modLot key f).freeCount = s.freeCount := rfl
@[simp] theorem modLot_pending (s : State) (key : Key) (f : Lot → Lot) : (s.modLot key f).pending = s.pending := rfl

/-! ### addLot -/

@[simp] theorem addLot_lanes (s : State) (l : Lot) : (s.addLot l).lanes = s.lanes := rfl
@[simp] theorem addLot_lotTable (s : State) (l : Lot) :
    (s.addLot l).lotTable =
      { s.lotTable with lots := insertLot l s.lotTable.lots } :=
  rfl
@[simp] theorem addLot_rostrumA (s : State) (l : Lot) : (s.addLot l).rostrumA = s.rostrumA := rfl
@[simp] theorem addLot_rostrumB (s : State) (l : Lot) : (s.addLot l).rostrumB = s.rostrumB := rfl
@[simp] theorem addLot_accountTable (s : State) (l : Lot) : (s.addLot l).accountTable = s.accountTable := rfl
@[simp] theorem addLot_crates (s : State) (l : Lot) : (s.addLot l).crates = s.crates := rfl
@[simp] theorem addLot_ice (s : State) (l : Lot) : (s.addLot l).ice = s.ice := rfl
@[simp] theorem addLot_store (s : State) (l : Lot) : (s.addLot l).store = s.store := rfl
@[simp] theorem addLot_supply (s : State) (l : Lot) : (s.addLot l).supply = s.supply := rfl
@[simp] theorem addLot_port (s : State) (l : Lot) : (s.addLot l).port = s.port := rfl
@[simp] theorem addLot_freeCount (s : State) (l : Lot) : (s.addLot l).freeCount = s.freeCount := rfl
@[simp] theorem addLot_pending (s : State) (l : Lot) : (s.addLot l).pending = s.pending := rfl

/-! ### removeLot -/

@[simp] theorem removeLot_lanes (s : State) (key : Key) : (s.removeLot key).lanes = s.lanes := rfl
@[simp] theorem removeLot_lotTable (s : State) (key : Key) :
    (s.removeLot key).lotTable =
      { s.lotTable with lots := s.lotTable.lots.filter fun l => l.key != key } :=
  rfl
@[simp] theorem removeLot_rostrumA (s : State) (key : Key) : (s.removeLot key).rostrumA = s.rostrumA := rfl
@[simp] theorem removeLot_rostrumB (s : State) (key : Key) : (s.removeLot key).rostrumB = s.rostrumB := rfl
@[simp] theorem removeLot_accountTable (s : State) (key : Key) : (s.removeLot key).accountTable = s.accountTable := rfl
@[simp] theorem removeLot_crates (s : State) (key : Key) : (s.removeLot key).crates = s.crates := rfl
@[simp] theorem removeLot_ice (s : State) (key : Key) : (s.removeLot key).ice = s.ice := rfl
@[simp] theorem removeLot_store (s : State) (key : Key) : (s.removeLot key).store = s.store := rfl
@[simp] theorem removeLot_supply (s : State) (key : Key) : (s.removeLot key).supply = s.supply := rfl
@[simp] theorem removeLot_port (s : State) (key : Key) : (s.removeLot key).port = s.port := rfl
@[simp] theorem removeLot_freeCount (s : State) (key : Key) : (s.removeLot key).freeCount = s.freeCount := rfl
@[simp] theorem removeLot_pending (s : State) (key : Key) : (s.removeLot key).pending = s.pending := rfl

/-! ### modAccount -/

@[simp] theorem modAccount_lanes (s : State) (number : Nat) (f : Account → Account) :
    (s.modAccount number f).lanes =
      s.lanes :=
  rfl
@[simp] theorem modAccount_lotTable (s : State) (number : Nat) (f : Account → Account) :
    (s.modAccount number f).lotTable =
      s.lotTable :=
  rfl
@[simp] theorem modAccount_rostrumA (s : State) (number : Nat) (f : Account → Account) :
    (s.modAccount number f).rostrumA =
      s.rostrumA :=
  rfl
@[simp] theorem modAccount_rostrumB (s : State) (number : Nat) (f : Account → Account) :
    (s.modAccount number f).rostrumB =
      s.rostrumB :=
  rfl
@[simp] theorem modAccount_accountTable (s : State) (number : Nat) (f : Account → Account) :
    (s.modAccount number f).accountTable =
      { s.accountTable with accounts := s.accountTable.accounts.map fun a => if a.number = number then f a else a } :=
  rfl
@[simp] theorem modAccount_crates (s : State) (number : Nat) (f : Account → Account) :
    (s.modAccount number f).crates =
      s.crates :=
  rfl
@[simp] theorem modAccount_ice (s : State) (number : Nat) (f : Account → Account) : (s.modAccount number f).ice = s.ice := rfl
@[simp] theorem modAccount_store (s : State) (number : Nat) (f : Account → Account) :
    (s.modAccount number f).store =
      s.store :=
  rfl
@[simp] theorem modAccount_supply (s : State) (number : Nat) (f : Account → Account) :
    (s.modAccount number f).supply =
      s.supply :=
  rfl
@[simp] theorem modAccount_port (s : State) (number : Nat) (f : Account → Account) : (s.modAccount number f).port = s.port := rfl
@[simp] theorem modAccount_freeCount (s : State) (number : Nat) (f : Account → Account) :
    (s.modAccount number f).freeCount =
      s.freeCount :=
  rfl
@[simp] theorem modAccount_pending (s : State) (number : Nat) (f : Account → Account) :
    (s.modAccount number f).pending =
      s.pending :=
  rfl

/-! ### addAccount -/

@[simp] theorem addAccount_lanes (s : State) (a : Account) : (s.addAccount a).lanes = s.lanes := rfl
@[simp] theorem addAccount_lotTable (s : State) (a : Account) : (s.addAccount a).lotTable = s.lotTable := rfl
@[simp] theorem addAccount_rostrumA (s : State) (a : Account) : (s.addAccount a).rostrumA = s.rostrumA := rfl
@[simp] theorem addAccount_rostrumB (s : State) (a : Account) : (s.addAccount a).rostrumB = s.rostrumB := rfl
@[simp] theorem addAccount_accountTable (s : State) (a : Account) :
    (s.addAccount a).accountTable =
      { s.accountTable with accounts := insertAccount a s.accountTable.accounts, recordCount := s.accountTable.recordCount + 1 } :=
  rfl
@[simp] theorem addAccount_crates (s : State) (a : Account) : (s.addAccount a).crates = s.crates := rfl
@[simp] theorem addAccount_ice (s : State) (a : Account) : (s.addAccount a).ice = s.ice := rfl
@[simp] theorem addAccount_store (s : State) (a : Account) : (s.addAccount a).store = s.store := rfl
@[simp] theorem addAccount_supply (s : State) (a : Account) : (s.addAccount a).supply = s.supply := rfl
@[simp] theorem addAccount_port (s : State) (a : Account) : (s.addAccount a).port = s.port := rfl
@[simp] theorem addAccount_freeCount (s : State) (a : Account) : (s.addAccount a).freeCount = s.freeCount := rfl
@[simp] theorem addAccount_pending (s : State) (a : Account) : (s.addAccount a).pending = s.pending := rfl

/-! ### removeAccount -/

@[simp] theorem removeAccount_lanes (s : State) (number : Nat) : (s.removeAccount number).lanes = s.lanes := rfl
@[simp] theorem removeAccount_lotTable (s : State) (number : Nat) : (s.removeAccount number).lotTable = s.lotTable := rfl
@[simp] theorem removeAccount_rostrumA (s : State) (number : Nat) : (s.removeAccount number).rostrumA = s.rostrumA := rfl
@[simp] theorem removeAccount_rostrumB (s : State) (number : Nat) : (s.removeAccount number).rostrumB = s.rostrumB := rfl
@[simp] theorem removeAccount_accountTable (s : State) (number : Nat) :
    (s.removeAccount number).accountTable =
      { s.accountTable with accounts := s.accountTable.accounts.filter fun a => a.number != number, recordCount := s.accountTable.recordCount - 1 } :=
  rfl
@[simp] theorem removeAccount_crates (s : State) (number : Nat) : (s.removeAccount number).crates = s.crates := rfl
@[simp] theorem removeAccount_ice (s : State) (number : Nat) : (s.removeAccount number).ice = s.ice := rfl
@[simp] theorem removeAccount_store (s : State) (number : Nat) : (s.removeAccount number).store = s.store := rfl
@[simp] theorem removeAccount_supply (s : State) (number : Nat) : (s.removeAccount number).supply = s.supply := rfl
@[simp] theorem removeAccount_port (s : State) (number : Nat) : (s.removeAccount number).port = s.port := rfl
@[simp] theorem removeAccount_freeCount (s : State) (number : Nat) : (s.removeAccount number).freeCount = s.freeCount := rfl
@[simp] theorem removeAccount_pending (s : State) (number : Nat) : (s.removeAccount number).pending = s.pending := rfl

/-! ### modRostrum -/

@[simp] theorem modRostrum_lanes (s : State) (r : RostrumId) (f : Rostrum → Rostrum) : (s.modRostrum r f).lanes = s.lanes := by
  cases r <;> rfl
@[simp] theorem modRostrum_lotTable (s : State) (r : RostrumId) (f : Rostrum → Rostrum) : (s.modRostrum r f).lotTable = s.lotTable := by
  cases r <;> rfl
@[simp] theorem modRostrum_accountTable (s : State) (r : RostrumId) (f : Rostrum → Rostrum) : (s.modRostrum r f).accountTable = s.accountTable := by
  cases r <;> rfl
@[simp] theorem modRostrum_crates (s : State) (r : RostrumId) (f : Rostrum → Rostrum) : (s.modRostrum r f).crates = s.crates := by
  cases r <;> rfl
@[simp] theorem modRostrum_ice (s : State) (r : RostrumId) (f : Rostrum → Rostrum) : (s.modRostrum r f).ice = s.ice := by
  cases r <;> rfl
@[simp] theorem modRostrum_store (s : State) (r : RostrumId) (f : Rostrum → Rostrum) : (s.modRostrum r f).store = s.store := by
  cases r <;> rfl
@[simp] theorem modRostrum_supply (s : State) (r : RostrumId) (f : Rostrum → Rostrum) : (s.modRostrum r f).supply = s.supply := by
  cases r <;> rfl
@[simp] theorem modRostrum_port (s : State) (r : RostrumId) (f : Rostrum → Rostrum) : (s.modRostrum r f).port = s.port := by
  cases r <;> rfl
@[simp] theorem modRostrum_freeCount (s : State) (r : RostrumId) (f : Rostrum → Rostrum) : (s.modRostrum r f).freeCount = s.freeCount := by
  cases r <;> rfl
@[simp] theorem modRostrum_pending (s : State) (r : RostrumId) (f : Rostrum → Rostrum) : (s.modRostrum r f).pending = s.pending := by
  cases r <;> rfl
/-! ### Reading a record that the update does not change -/

@[simp] theorem lane_modBay_frame (s : State) (b : Fin 4) (f : Bay → Bay) (x : Fin 8) : (s.modBay b f).lane x = s.lane x := rfl
@[simp] theorem lane_modIce_frame (s : State) (f : IceUnit → IceUnit) (x : Fin 8) : (s.modIce f).lane x = s.lane x := rfl
@[simp] theorem lane_modCrateType_frame (s : State) (t : Fin 8) (f : CrateType → CrateType) (x : Fin 8) :
    (s.modCrateType t f).lane x = s.lane x := rfl
@[simp] theorem lane_modGate_frame (s : State) (g : Fin 2) (f : Gate → Gate) (x : Fin 8) :
    (s.modGate g f).lane x = s.lane x := rfl
@[simp] theorem lane_modStore_frame (s : State) (f : Store → Store) (x : Fin 8) : (s.modStore f).lane x = s.lane x := rfl
@[simp] theorem lane_modSupply_frame (s : State) (f : Supply → Supply) (x : Fin 8) : (s.modSupply f).lane x = s.lane x := rfl
@[simp] theorem lane_modPort_frame (s : State) (f : Port → Port) (x : Fin 8) : (s.modPort f).lane x = s.lane x := rfl
@[simp] theorem lane_endFrame_frame (s : State) (setting : Bool) (a : Answer) (x : Fin 8) :
    (s.endFrame setting a).lane x = s.lane x := rfl
@[simp] theorem lane_modHall_frame (s : State) (f : HallCounters → HallCounters) (x : Fin 8) :
    (s.modHall f).lane x = s.lane x := rfl
@[simp] theorem lane_setTotals_frame (s : State) (c : Option TotalsCopy) (x : Fin 8) : (s.setTotals c).lane x = s.lane x := rfl
@[simp] theorem lane_modLot_frame (s : State) (key : Key) (f : Lot → Lot) (x : Fin 8) : (s.modLot key f).lane x = s.lane x := rfl
@[simp] theorem lane_addLot_frame (s : State) (l : Lot) (x : Fin 8) : (s.addLot l).lane x = s.lane x := rfl
@[simp] theorem lane_removeLot_frame (s : State) (key : Key) (x : Fin 8) : (s.removeLot key).lane x = s.lane x := rfl
@[simp] theorem lane_modAccount_frame (s : State) (number : Nat) (f : Account → Account) (x : Fin 8) :
    (s.modAccount number f).lane x = s.lane x := rfl
@[simp] theorem lane_addAccount_frame (s : State) (a : Account) (x : Fin 8) : (s.addAccount a).lane x = s.lane x := rfl
@[simp] theorem lane_removeAccount_frame (s : State) (number : Nat) (x : Fin 8) :
    (s.removeAccount number).lane x = s.lane x := rfl
@[simp] theorem lane_modRostrum_frame (s : State) (r : RostrumId) (f : Rostrum → Rostrum) (x : Fin 8) :
    (s.modRostrum r f).lane x = s.lane x := by cases r <;> rfl
@[simp] theorem bay_modLane_frame (s : State) (i : Fin 8) (f : Lane → Lane) (x : Fin 4) : (s.modLane i f).bay x = s.bay x := rfl
@[simp] theorem bay_modCrateType_frame (s : State) (t : Fin 8) (f : CrateType → CrateType) (x : Fin 4) :
    (s.modCrateType t f).bay x = s.bay x := rfl
@[simp] theorem bay_modGate_frame (s : State) (g : Fin 2) (f : Gate → Gate) (x : Fin 4) : (s.modGate g f).bay x = s.bay x := rfl
@[simp] theorem bay_modStore_frame (s : State) (f : Store → Store) (x : Fin 4) : (s.modStore f).bay x = s.bay x := rfl
@[simp] theorem bay_modSupply_frame (s : State) (f : Supply → Supply) (x : Fin 4) : (s.modSupply f).bay x = s.bay x := rfl
@[simp] theorem bay_modPort_frame (s : State) (f : Port → Port) (x : Fin 4) : (s.modPort f).bay x = s.bay x := rfl
@[simp] theorem bay_endFrame_frame (s : State) (setting : Bool) (a : Answer) (x : Fin 4) :
    (s.endFrame setting a).bay x = s.bay x := rfl
@[simp] theorem bay_modHall_frame (s : State) (f : HallCounters → HallCounters) (x : Fin 4) : (s.modHall f).bay x = s.bay x := rfl
@[simp] theorem bay_setTotals_frame (s : State) (c : Option TotalsCopy) (x : Fin 4) : (s.setTotals c).bay x = s.bay x := rfl
@[simp] theorem bay_modLot_frame (s : State) (key : Key) (f : Lot → Lot) (x : Fin 4) : (s.modLot key f).bay x = s.bay x := rfl
@[simp] theorem bay_addLot_frame (s : State) (l : Lot) (x : Fin 4) : (s.addLot l).bay x = s.bay x := rfl
@[simp] theorem bay_removeLot_frame (s : State) (key : Key) (x : Fin 4) : (s.removeLot key).bay x = s.bay x := rfl
@[simp] theorem bay_modAccount_frame (s : State) (number : Nat) (f : Account → Account) (x : Fin 4) :
    (s.modAccount number f).bay x = s.bay x := rfl
@[simp] theorem bay_addAccount_frame (s : State) (a : Account) (x : Fin 4) : (s.addAccount a).bay x = s.bay x := rfl
@[simp] theorem bay_removeAccount_frame (s : State) (number : Nat) (x : Fin 4) : (s.removeAccount number).bay x = s.bay x := rfl
@[simp] theorem bay_modRostrum_frame (s : State) (r : RostrumId) (f : Rostrum → Rostrum) (x : Fin 4) :
    (s.modRostrum r f).bay x = s.bay x := by cases r <;> rfl
@[simp] theorem crateType_modLane_frame (s : State) (i : Fin 8) (f : Lane → Lane) (x : Fin 8) :
    (s.modLane i f).crateType x = s.crateType x := rfl
@[simp] theorem crateType_modBay_frame (s : State) (b : Fin 4) (f : Bay → Bay) (x : Fin 8) :
    (s.modBay b f).crateType x = s.crateType x := rfl
@[simp] theorem crateType_modIce_frame (s : State) (f : IceUnit → IceUnit) (x : Fin 8) :
    (s.modIce f).crateType x = s.crateType x := rfl
@[simp] theorem crateType_modStore_frame (s : State) (f : Store → Store) (x : Fin 8) :
    (s.modStore f).crateType x = s.crateType x := rfl
@[simp] theorem crateType_modSupply_frame (s : State) (f : Supply → Supply) (x : Fin 8) :
    (s.modSupply f).crateType x = s.crateType x := rfl
@[simp] theorem crateType_modPort_frame (s : State) (f : Port → Port) (x : Fin 8) :
    (s.modPort f).crateType x = s.crateType x := rfl
@[simp] theorem crateType_endFrame_frame (s : State) (setting : Bool) (a : Answer) (x : Fin 8) :
    (s.endFrame setting a).crateType x = s.crateType x := rfl
@[simp] theorem crateType_modHall_frame (s : State) (f : HallCounters → HallCounters) (x : Fin 8) :
    (s.modHall f).crateType x = s.crateType x := rfl
@[simp] theorem crateType_setTotals_frame (s : State) (c : Option TotalsCopy) (x : Fin 8) :
    (s.setTotals c).crateType x = s.crateType x := rfl
@[simp] theorem crateType_modLot_frame (s : State) (key : Key) (f : Lot → Lot) (x : Fin 8) :
    (s.modLot key f).crateType x = s.crateType x := rfl
@[simp] theorem crateType_addLot_frame (s : State) (l : Lot) (x : Fin 8) : (s.addLot l).crateType x = s.crateType x := rfl
@[simp] theorem crateType_removeLot_frame (s : State) (key : Key) (x : Fin 8) :
    (s.removeLot key).crateType x = s.crateType x := rfl
@[simp] theorem crateType_modAccount_frame (s : State) (number : Nat) (f : Account → Account) (x : Fin 8) :
    (s.modAccount number f).crateType x = s.crateType x := rfl
@[simp] theorem crateType_addAccount_frame (s : State) (a : Account) (x : Fin 8) :
    (s.addAccount a).crateType x = s.crateType x := rfl
@[simp] theorem crateType_removeAccount_frame (s : State) (number : Nat) (x : Fin 8) :
    (s.removeAccount number).crateType x = s.crateType x := rfl
@[simp] theorem crateType_modRostrum_frame (s : State) (r : RostrumId) (f : Rostrum → Rostrum) (x : Fin 8) :
    (s.modRostrum r f).crateType x = s.crateType x := by cases r <;> rfl
@[simp] theorem gate_modLane_frame (s : State) (i : Fin 8) (f : Lane → Lane) (x : Fin 2) :
    (s.modLane i f).gate x = s.gate x := rfl
@[simp] theorem gate_modBay_frame (s : State) (b : Fin 4) (f : Bay → Bay) (x : Fin 2) : (s.modBay b f).gate x = s.gate x := rfl
@[simp] theorem gate_modIce_frame (s : State) (f : IceUnit → IceUnit) (x : Fin 2) : (s.modIce f).gate x = s.gate x := rfl
@[simp] theorem gate_modStore_frame (s : State) (f : Store → Store) (x : Fin 2) : (s.modStore f).gate x = s.gate x := rfl
@[simp] theorem gate_modSupply_frame (s : State) (f : Supply → Supply) (x : Fin 2) : (s.modSupply f).gate x = s.gate x := rfl
@[simp] theorem gate_modPort_frame (s : State) (f : Port → Port) (x : Fin 2) : (s.modPort f).gate x = s.gate x := rfl
@[simp] theorem gate_endFrame_frame (s : State) (setting : Bool) (a : Answer) (x : Fin 2) :
    (s.endFrame setting a).gate x = s.gate x := rfl
@[simp] theorem gate_modHall_frame (s : State) (f : HallCounters → HallCounters) (x : Fin 2) :
    (s.modHall f).gate x = s.gate x := rfl
@[simp] theorem gate_setTotals_frame (s : State) (c : Option TotalsCopy) (x : Fin 2) : (s.setTotals c).gate x = s.gate x := rfl
@[simp] theorem gate_modLot_frame (s : State) (key : Key) (f : Lot → Lot) (x : Fin 2) : (s.modLot key f).gate x = s.gate x := rfl
@[simp] theorem gate_addLot_frame (s : State) (l : Lot) (x : Fin 2) : (s.addLot l).gate x = s.gate x := rfl
@[simp] theorem gate_removeLot_frame (s : State) (key : Key) (x : Fin 2) : (s.removeLot key).gate x = s.gate x := rfl
@[simp] theorem gate_modAccount_frame (s : State) (number : Nat) (f : Account → Account) (x : Fin 2) :
    (s.modAccount number f).gate x = s.gate x := rfl
@[simp] theorem gate_addAccount_frame (s : State) (a : Account) (x : Fin 2) : (s.addAccount a).gate x = s.gate x := rfl
@[simp] theorem gate_removeAccount_frame (s : State) (number : Nat) (x : Fin 2) :
    (s.removeAccount number).gate x = s.gate x := rfl
@[simp] theorem gate_modRostrum_frame (s : State) (r : RostrumId) (f : Rostrum → Rostrum) (x : Fin 2) :
    (s.modRostrum r f).gate x = s.gate x := by cases r <;> rfl
@[simp] theorem rostrum_modLane_frame (s : State) (i : Fin 8) (f : Lane → Lane) (x : RostrumId) :
    (s.modLane i f).rostrum x = s.rostrum x := by cases x <;> rfl
@[simp] theorem rostrum_modBay_frame (s : State) (b : Fin 4) (f : Bay → Bay) (x : RostrumId) :
    (s.modBay b f).rostrum x = s.rostrum x := by cases x <;> rfl
@[simp] theorem rostrum_modIce_frame (s : State) (f : IceUnit → IceUnit) (x : RostrumId) :
    (s.modIce f).rostrum x = s.rostrum x := by cases x <;> rfl
@[simp] theorem rostrum_modCrateType_frame (s : State) (t : Fin 8) (f : CrateType → CrateType) (x : RostrumId) :
    (s.modCrateType t f).rostrum x = s.rostrum x := by cases x <;> rfl
@[simp] theorem rostrum_modGate_frame (s : State) (g : Fin 2) (f : Gate → Gate) (x : RostrumId) :
    (s.modGate g f).rostrum x = s.rostrum x := by cases x <;> rfl
@[simp] theorem rostrum_modStore_frame (s : State) (f : Store → Store) (x : RostrumId) :
    (s.modStore f).rostrum x = s.rostrum x := by cases x <;> rfl
@[simp] theorem rostrum_modSupply_frame (s : State) (f : Supply → Supply) (x : RostrumId) :
    (s.modSupply f).rostrum x = s.rostrum x := by cases x <;> rfl
@[simp] theorem rostrum_modPort_frame (s : State) (f : Port → Port) (x : RostrumId) :
    (s.modPort f).rostrum x = s.rostrum x := by cases x <;> rfl
@[simp] theorem rostrum_endFrame_frame (s : State) (setting : Bool) (a : Answer) (x : RostrumId) :
    (s.endFrame setting a).rostrum x = s.rostrum x := by cases x <;> rfl
@[simp] theorem rostrum_modHall_frame (s : State) (f : HallCounters → HallCounters) (x : RostrumId) :
    (s.modHall f).rostrum x = s.rostrum x := by cases x <;> rfl
@[simp] theorem rostrum_setTotals_frame (s : State) (c : Option TotalsCopy) (x : RostrumId) :
    (s.setTotals c).rostrum x = s.rostrum x := by cases x <;> rfl
@[simp] theorem rostrum_modLot_frame (s : State) (key : Key) (f : Lot → Lot) (x : RostrumId) :
    (s.modLot key f).rostrum x = s.rostrum x := by cases x <;> rfl
@[simp] theorem rostrum_addLot_frame (s : State) (l : Lot) (x : RostrumId) :
    (s.addLot l).rostrum x = s.rostrum x := by cases x <;> rfl
@[simp] theorem rostrum_removeLot_frame (s : State) (key : Key) (x : RostrumId) :
    (s.removeLot key).rostrum x = s.rostrum x := by cases x <;> rfl
@[simp] theorem rostrum_modAccount_frame (s : State) (number : Nat) (f : Account → Account) (x : RostrumId) :
    (s.modAccount number f).rostrum x = s.rostrum x := by cases x <;> rfl
@[simp] theorem rostrum_addAccount_frame (s : State) (a : Account) (x : RostrumId) :
    (s.addAccount a).rostrum x = s.rostrum x := by cases x <;> rfl
@[simp] theorem rostrum_removeAccount_frame (s : State) (number : Nat) (x : RostrumId) :
    (s.removeAccount number).rostrum x = s.rostrum x := by cases x <;> rfl
@[simp] theorem account?_modLane_frame (s : State) (i : Fin 8) (f : Lane → Lane) (x : Nat) :
    (s.modLane i f).account? x = s.account? x := rfl
@[simp] theorem account?_modBay_frame (s : State) (b : Fin 4) (f : Bay → Bay) (x : Nat) :
    (s.modBay b f).account? x = s.account? x := rfl
@[simp] theorem account?_modIce_frame (s : State) (f : IceUnit → IceUnit) (x : Nat) :
    (s.modIce f).account? x = s.account? x := rfl
@[simp] theorem account?_modCrateType_frame (s : State) (t : Fin 8) (f : CrateType → CrateType) (x : Nat) :
    (s.modCrateType t f).account? x = s.account? x := rfl
@[simp] theorem account?_modGate_frame (s : State) (g : Fin 2) (f : Gate → Gate) (x : Nat) :
    (s.modGate g f).account? x = s.account? x := rfl
@[simp] theorem account?_modStore_frame (s : State) (f : Store → Store) (x : Nat) :
    (s.modStore f).account? x = s.account? x := rfl
@[simp] theorem account?_modSupply_frame (s : State) (f : Supply → Supply) (x : Nat) :
    (s.modSupply f).account? x = s.account? x := rfl
@[simp] theorem account?_modPort_frame (s : State) (f : Port → Port) (x : Nat) : (s.modPort f).account? x = s.account? x := rfl
@[simp] theorem account?_endFrame_frame (s : State) (setting : Bool) (a : Answer) (x : Nat) :
    (s.endFrame setting a).account? x = s.account? x := rfl
@[simp] theorem account?_modHall_frame (s : State) (f : HallCounters → HallCounters) (x : Nat) :
    (s.modHall f).account? x = s.account? x := rfl
@[simp] theorem account?_setTotals_frame (s : State) (c : Option TotalsCopy) (x : Nat) :
    (s.setTotals c).account? x = s.account? x := rfl
@[simp] theorem account?_modLot_frame (s : State) (key : Key) (f : Lot → Lot) (x : Nat) :
    (s.modLot key f).account? x = s.account? x := rfl
@[simp] theorem account?_addLot_frame (s : State) (l : Lot) (x : Nat) : (s.addLot l).account? x = s.account? x := rfl
@[simp] theorem account?_removeLot_frame (s : State) (key : Key) (x : Nat) : (s.removeLot key).account? x = s.account? x := rfl
@[simp] theorem account?_modRostrum_frame (s : State) (r : RostrumId) (f : Rostrum → Rostrum) (x : Nat) :
    (s.modRostrum r f).account? x = s.account? x := by cases r <;> rfl
@[simp] theorem lot?_modLane_frame (s : State) (i : Fin 8) (f : Lane → Lane) (x : Key) : (s.modLane i f).lot? x = s.lot? x := rfl
@[simp] theorem lot?_modBay_frame (s : State) (b : Fin 4) (f : Bay → Bay) (x : Key) : (s.modBay b f).lot? x = s.lot? x := rfl
@[simp] theorem lot?_modIce_frame (s : State) (f : IceUnit → IceUnit) (x : Key) : (s.modIce f).lot? x = s.lot? x := rfl
@[simp] theorem lot?_modCrateType_frame (s : State) (t : Fin 8) (f : CrateType → CrateType) (x : Key) :
    (s.modCrateType t f).lot? x = s.lot? x := rfl
@[simp] theorem lot?_modGate_frame (s : State) (g : Fin 2) (f : Gate → Gate) (x : Key) : (s.modGate g f).lot? x = s.lot? x := rfl
@[simp] theorem lot?_modStore_frame (s : State) (f : Store → Store) (x : Key) : (s.modStore f).lot? x = s.lot? x := rfl
@[simp] theorem lot?_modSupply_frame (s : State) (f : Supply → Supply) (x : Key) : (s.modSupply f).lot? x = s.lot? x := rfl
@[simp] theorem lot?_modPort_frame (s : State) (f : Port → Port) (x : Key) : (s.modPort f).lot? x = s.lot? x := rfl
@[simp] theorem lot?_endFrame_frame (s : State) (setting : Bool) (a : Answer) (x : Key) :
    (s.endFrame setting a).lot? x = s.lot? x := rfl
@[simp] theorem lot?_modHall_frame (s : State) (f : HallCounters → HallCounters) (x : Key) :
    (s.modHall f).lot? x = s.lot? x := rfl
@[simp] theorem lot?_setTotals_frame (s : State) (c : Option TotalsCopy) (x : Key) : (s.setTotals c).lot? x = s.lot? x := rfl
@[simp] theorem lot?_modAccount_frame (s : State) (number : Nat) (f : Account → Account) (x : Key) :
    (s.modAccount number f).lot? x = s.lot? x := rfl
@[simp] theorem lot?_addAccount_frame (s : State) (a : Account) (x : Key) : (s.addAccount a).lot? x = s.lot? x := rfl
@[simp] theorem lot?_removeAccount_frame (s : State) (number : Nat) (x : Key) : (s.removeAccount number).lot? x = s.lot? x := rfl
@[simp] theorem lot?_modRostrum_frame (s : State) (r : RostrumId) (f : Rostrum → Rostrum) (x : Key) :
    (s.modRostrum r f).lot? x = s.lot? x := by cases r <;> rfl
@[simp] theorem trading_modLane_frame (s : State) (i : Fin 8) (f : Lane → Lane) : (s.modLane i f).trading = s.trading := rfl
@[simp] theorem trading_modBay_frame (s : State) (b : Fin 4) (f : Bay → Bay) : (s.modBay b f).trading = s.trading := rfl
@[simp] theorem trading_modIce_frame (s : State) (f : IceUnit → IceUnit) : (s.modIce f).trading = s.trading := rfl
@[simp] theorem trading_modCrateType_frame (s : State) (t : Fin 8) (f : CrateType → CrateType) :
    (s.modCrateType t f).trading = s.trading := rfl
@[simp] theorem trading_modGate_frame (s : State) (g : Fin 2) (f : Gate → Gate) : (s.modGate g f).trading = s.trading := rfl
@[simp] theorem trading_modStore_frame (s : State) (f : Store → Store) : (s.modStore f).trading = s.trading := rfl
@[simp] theorem trading_modPort_frame (s : State) (f : Port → Port) : (s.modPort f).trading = s.trading := rfl
@[simp] theorem trading_endFrame_frame (s : State) (setting : Bool) (a : Answer) :
    (s.endFrame setting a).trading = s.trading := rfl
@[simp] theorem trading_modHall_frame (s : State) (f : HallCounters → HallCounters) : (s.modHall f).trading = s.trading := rfl
@[simp] theorem trading_setTotals_frame (s : State) (c : Option TotalsCopy) : (s.setTotals c).trading = s.trading := rfl
@[simp] theorem trading_modLot_frame (s : State) (key : Key) (f : Lot → Lot) : (s.modLot key f).trading = s.trading := rfl
@[simp] theorem trading_addLot_frame (s : State) (l : Lot) : (s.addLot l).trading = s.trading := rfl
@[simp] theorem trading_removeLot_frame (s : State) (key : Key) : (s.removeLot key).trading = s.trading := rfl
@[simp] theorem trading_modAccount_frame (s : State) (number : Nat) (f : Account → Account) :
    (s.modAccount number f).trading = s.trading := rfl
@[simp] theorem trading_addAccount_frame (s : State) (a : Account) : (s.addAccount a).trading = s.trading := rfl
@[simp] theorem trading_removeAccount_frame (s : State) (number : Nat) : (s.removeAccount number).trading = s.trading := rfl
@[simp] theorem trading_modRostrum_frame (s : State) (r : RostrumId) (f : Rostrum → Rostrum) :
    (s.modRostrum r f).trading = s.trading := by cases r <;> rfl

@[simp] theorem modRostrum_rostrum (s : State) (r : RostrumId) (f : Rostrum → Rostrum) :
    (s.modRostrum r f).rostrum r = f (s.rostrum r) := by cases r <;> rfl
theorem modRostrum_rostrum_ne (s : State) {r q : RostrumId} (f : Rostrum → Rostrum) (h : q ≠ r) :
    (s.modRostrum r f).rostrum q = s.rostrum q := by cases r <;> cases q <;> first | rfl | exact absurd rfl h

end State

end Sys2Proof.Machine
end

