-- ==== Sys2Proof/Laws/Ops.lean ====
section
/-! SUPPORT. What reading a record gives after each elementary update, and one lemma per posting operation. -/

namespace Sys2Proof.Machine

/-! ## Vectors of records -/

theorem vector_get_set {α : Type} {n : Nat} (v : Vector α n) (i j : Fin n) (x : α) :
    (v.set i x)[j] = if j = i then x else v[j] := by
  simp only [Fin.getElem_fin, Vector.getElem_set, Fin.ext_iff, eq_comm]

@[simp] theorem vector_get_set_self {α : Type} {n : Nat} (v : Vector α n) (i : Fin n) (x : α) : (v.set i x)[i] = x := by
  simp

@[simp] theorem StoreCells.get_set_self (c : StoreCells) (id : RecordId) (r : StoreRecord) : (c.set id r).get id = r := by
  cases id <;> simp [set, get]

/-- The first two bytes of a run as one number; a byte beyond the run is 0. -/
theorem field_zero_two (bs : List Byte) : field bs 0 2 = 256 * (bs.getD 0 0#8).toNat + (bs.getD 1 0#8).toNat := by
  rcases bs with _ | ⟨a, _ | ⟨b, _⟩⟩ <;> simp [field, ofBytes] <;> omega

/-! ## Reading one record after an update -/

namespace State

theorem lane_modLane (s : State) (i j : Fin 8) (f : Lane → Lane) :
    (s.modLane i f).lane j = if j = i then f (s.lane i) else s.lane j := vector_get_set ..

@[simp] theorem lane_modLane_self (s : State) (i : Fin 8) (f : Lane → Lane) : (s.modLane i f).lane i = f (s.lane i) := by
  simp [lane_modLane]

theorem bay_modBay (s : State) (b c : Fin 4) (f : Bay → Bay) :
    (s.modBay b f).bay c = if c = b then f (s.bay b) else s.bay c := vector_get_set ..

@[simp] theorem bay_modBay_self (s : State) (b : Fin 4) (f : Bay → Bay) : (s.modBay b f).bay b = f (s.bay b) := by
  simp [bay_modBay]

theorem crateType_modCrateType (s : State) (t u : Fin 8) (f : CrateType → CrateType) :
    (s.modCrateType t f).crateType u = if u = t then f (s.crateType t) else s.crateType u := vector_get_set ..

@[simp] theorem crateType_modCrateType_self (s : State) (t : Fin 8) (f : CrateType → CrateType) :
    (s.modCrateType t f).crateType t = f (s.crateType t) := by
  simp [crateType_modCrateType]

theorem gate_modGate (s : State) (g h : Fin 2) (f : Gate → Gate) :
    (s.modGate g f).gate h = if h = g then f (s.gate g) else s.gate h := vector_get_set ..

@[simp] theorem gate_modGate_self (s : State) (g : Fin 2) (f : Gate → Gate) : (s.modGate g f).gate g = f (s.gate g) := by
  simp [gate_modGate]

/-! ## Several changes of one record -/

/-- Two changes of one record in a row. -/
theorem modLane_modLane (s : State) (i : Fin 8) (f g : Lane → Lane) :
    (s.modLane i f).modLane i g = s.modLane i fun x => g (f x) := by
  simp [modLane]

/-- A change of a record depends on the record alone. -/
theorem modLane_congr {s : State} {i : Fin 8} {f g : Lane → Lane} (h : f (s.lane i) = g (s.lane i)) :
    s.modLane i f = s.modLane i g := by
  unfold lane at h
  simp only [modLane, h]

/-- Two changes of one record in a row. -/
theorem modBay_modBay (s : State) (b : Fin 4) (f g : Bay → Bay) :
    (s.modBay b f).modBay b g = s.modBay b fun x => g (f x) := by
  simp [modBay]

/-- A change of a record depends on the record alone. -/
theorem modBay_congr {s : State} {b : Fin 4} {f g : Bay → Bay} (h : f (s.bay b) = g (s.bay b)) :
    s.modBay b f = s.modBay b g := by
  unfold bay at h
  simp only [modBay, h]

/-- Two changes of one record in a row. -/
theorem modCrateType_modCrateType (s : State) (t : Fin 8) (f g : CrateType → CrateType) :
    (s.modCrateType t f).modCrateType t g = s.modCrateType t fun x => g (f x) := by
  simp [modCrateType]

/-- A change of a record depends on the record alone. -/
theorem modCrateType_congr {s : State} {t : Fin 8} {f g : CrateType → CrateType} (h : f (s.crateType t) = g (s.crateType t)) :
    s.modCrateType t f = s.modCrateType t g := by
  unfold crateType at h
  simp only [modCrateType, h]

/-- Two changes of one record in a row. -/
theorem modGate_modGate (s : State) (x : Fin 2) (f g : Gate → Gate) :
    (s.modGate x f).modGate x g = s.modGate x fun y => g (f y) := by
  simp [modGate]

/-- A change of a record depends on the record alone. -/
theorem modGate_congr {s : State} {x : Fin 2} {f g : Gate → Gate} (h : f (s.gate x) = g (s.gate x)) :
    s.modGate x f = s.modGate x g := by
  unfold gate at h
  simp only [modGate, h]

/-- Two changes of one rostrum in a row. -/
theorem modRostrum_modRostrum (s : State) (r : RostrumId) (f g : Rostrum → Rostrum) :
    (s.modRostrum r f).modRostrum r g = s.modRostrum r fun x => g (f x) := by cases r <;> rfl

/-- A change of a rostrum depends on its record alone. -/
theorem modRostrum_congr {s : State} {r : RostrumId} {f g : Rostrum → Rostrum} (h : f (s.rostrum r) = g (s.rostrum r)) :
    s.modRostrum r f = s.modRostrum r g := by
  cases r <;> simp only [rostrum] at h <;> simp only [modRostrum, h]

/-! ## Changing every lane, bay, crate type or gate -/

/-- A change of every lane changes each lane once. -/
@[simp] theorem lane_foldl_modLane (s : State) (f : Fin 8 → Lane → Lane) (j : Fin 8) :
    (all8.foldl (fun s i => s.modLane i (f i)) s).lane j = f j (s.lane j) := by
  simp only [all8, List.foldl_cons, List.foldl_nil, lane_modLane]
  match j with
  | 0 | 1 | 2 | 3 | 4 | 5 | 6 | 7 => rfl

/-- A change of every bay changes each bay once. -/
@[simp] theorem bay_foldl_modBay (s : State) (f : Fin 4 → Bay → Bay) (j : Fin 4) :
    (all4.foldl (fun s i => s.modBay i (f i)) s).bay j = f j (s.bay j) := by
  simp only [all4, List.foldl_cons, List.foldl_nil, bay_modBay]
  match j with
  | 0 | 1 | 2 | 3 => rfl

/-- A change of every crate type changes each type once. -/
@[simp] theorem crateType_foldl_modCrateType (s : State) (f : Fin 8 → CrateType → CrateType) (j : Fin 8) :
    (all8.foldl (fun s i => s.modCrateType i (f i)) s).crateType j = f j (s.crateType j) := by
  simp only [all8, List.foldl_cons, List.foldl_nil, crateType_modCrateType]
  match j with
  | 0 | 1 | 2 | 3 | 4 | 5 | 6 | 7 => rfl

/-- A change of both gates changes each gate once. -/
@[simp] theorem gate_foldl_modGate (s : State) (f : Fin 2 → Gate → Gate) (j : Fin 2) :
    (all2.foldl (fun s i => s.modGate i (f i)) s).gate j = f j (s.gate j) := by
  simp only [all2, List.foldl_cons, List.foldl_nil, gate_modGate]
  match j with
  | 0 | 1 => rfl

/-! ## The account table as a map (R95) -/

/-- The record found under a number has that number. -/
theorem account?_number {s : State} {n : Nat} {a : Account} (h : s.account? n = some a) : a.number = n := by
  simpa using List.find?_some h

/-- The record found under a number stands in the table. -/
theorem account?_mem {s : State} {n : Nat} {a : Account} (h : s.account? n = some a) : a ∈ s.accountTable.accounts :=
  List.mem_of_find?_eq_some h

/-- An update that keeps the number changes the record of its account alone. -/
theorem account?_modAccount (s : State) (n m : Nat) (f : Account → Account) (hf : ∀ a, (f a).number = a.number) :
    (s.modAccount n f).account? m = (s.account? m).map fun a => if a.number = n then f a else a := by
  simp only [account?, modAccount_accountTable, List.find?_map]
  congr 1
  refine congrArg (fun p => List.find? p _) (funext fun a => ?_)
  by_cases h : a.number = n <;> simp [h, hf]

/-- An account still exists after an update of any account. -/
theorem account?_modAccount_isSome (s : State) (n m : Nat) (f : Account → Account) (hf : ∀ a, (f a).number = a.number) :
    ((s.modAccount n f).account? m).isSome = (s.account? m).isSome := by
  rw [account?_modAccount s n m f hf, Option.isSome_map]

/-! ## Posting (R95, R105 to R108) -/

/-- A posting changes the balance of its account alone. -/
theorem account?_post (s : State) (n m : Nat) (d : Int) :
    (s.post n d).account? m =
      (s.account? m).map fun a => if a.number = n then { a with balance := a.balance + d } else a := by
  unfold post
  cases h : s.account? n with
  | none =>
    cases hm : s.account? m with
    | none => rfl
    | some a =>
      have : a.number ≠ n := by
        rintro rfl
        have := account?_number hm
        simp_all
      simp [this]
  | some b =>
    rw [← account?_modAccount s n m (fun a => { a with balance := a.balance + d }) fun _ => rfl]
    rfl

/-- A posting on an account that exists changes the balance sum by the same amount (R95). -/
theorem post_balanceSum (s : State) (n : Nat) (d : Int) (h : (s.account? n).isSome) :
    (s.post n d).accountTable.balanceSum = s.accountTable.balanceSum + d := by
  unfold post
  cases hn : s.account? n with
  | none => simp [hn] at h
  | some a => rfl

/-- What a posting leaves unchanged. -/
@[simp] theorem post_frame (s : State) (n : Nat) (d : Int) :
    (s.post n d).lanes = s.lanes ∧ (s.post n d).lotTable = s.lotTable ∧ (s.post n d).rostrumA = s.rostrumA ∧
      (s.post n d).rostrumB = s.rostrumB ∧ (s.post n d).crates = s.crates ∧ (s.post n d).ice = s.ice ∧
      (s.post n d).store = s.store ∧ (s.post n d).supply = s.supply ∧ (s.post n d).port = s.port ∧
      (s.post n d).freeCount = s.freeCount ∧ (s.post n d).pending = s.pending ∧
      (s.post n d).accountTable.hall = s.accountTable.hall ∧
      (s.post n d).accountTable.recordCount = s.accountTable.recordCount ∧
      (s.post n d).accountTable.totals = s.accountTable.totals := by
  unfold post
  cases s.account? n <;> simp

/-- A release lowers the reserved and the balance of its account together (R108). -/
theorem account?_release (s : State) (n m r c : Nat) :
    (s.release n r c).account? m =
      (s.account? m).map fun a =>
        if a.number = n then { a with reserved := a.reserved - r, balance := a.balance - c } else a := by
  rw [release, account?_post]
  rw [account?_modAccount s n m (fun a => { a with reserved := a.reserved - r }) fun _ => rfl, Option.map_map]
  congr 1
  funext a
  by_cases h : a.number = n <;> simp [h, Int.sub_eq_add_neg]

/-! ## The lot table as a map -/

/-- The lot found under a key has that key. -/
theorem lot?_key {s : State} {k : Key} {l : Lot} (h : s.lot? k = some l) : l.key = k := by
  simpa using List.find?_some h

/-- An update that keeps the key changes the record of its lot alone. -/
theorem lot?_modLot (s : State) (k m : Key) (f : Lot → Lot) (hf : ∀ l, (f l).key = l.key) :
    (s.modLot k f).lot? m = (s.lot? m).map fun l => if l.key = k then f l else l := by
  simp only [lot?, modLot_lotTable, List.find?_map]
  congr 1
  refine congrArg (fun p => List.find? p _) (funext fun l => ?_)
  by_cases h : l.key = k <;> simp [h, hf]

end State

/-! ## One request, one event -/

/-- While the part trades, a request's answer follows its owner's judgement. -/
theorem request_trading {s : State} (h : s.trading = true) (code : Byte) (owner : State → State × Reply) :
    request code owner s = s.replied (owner s).1 code (owner s).2.code (owner s).2.data := by
  simp [request, h]

/-- Outside trading a request is not taken. -/
theorem request_idle {s : State} (h : s.trading = false) (code : Byte) (owner : State → State × Reply) :
    request code owner s = s := by
  simp [request, h]

/-- While the part trades, an event is taken. -/
theorem event_trading {s : State} (h : s.trading = true) (f : State → State) : event f s = f s := by simp [event, h]

/-- A timer has run out when it runs with no time left. -/
@[simp] theorem runOut_iff (t : Option Nat) : runOut t = true ↔ t = some 0 := by simp [runOut]

/-- A timer that is stopped or has time left has not run out. -/
@[simp] theorem runOut_eq_false_iff (t : Option Nat) : runOut t = false ↔ t ≠ some 0 := by simp [runOut]

/-- Outside trading an event is discarded. -/
theorem event_idle {s : State} (h : s.trading = false) (f : State → State) : event f s = s := by simp [event, h]

/-- What the end of a request leaves as its owner left it. -/
@[simp] theorem State.replied_frame (s t : State) (c : Byte) (a : AnswerCode) (d : List Byte) :
    (s.replied t c a d).lanes = t.lanes ∧ (s.replied t c a d).lotTable = t.lotTable ∧
      (s.replied t c a d).rostrumA = t.rostrumA ∧ (s.replied t c a d).rostrumB = t.rostrumB ∧
      (s.replied t c a d).accountTable = t.accountTable ∧ (s.replied t c a d).crates = t.crates ∧
      (s.replied t c a d).ice = t.ice ∧ (s.replied t c a d).store = t.store ∧ (s.replied t c a d).supply = t.supply ∧
      (s.replied t c a d).freeCount = t.freeCount ∧ (s.replied t c a d).pending = t.pending :=
  ⟨rfl, rfl, rfl, rfl, rfl, rfl, rfl, rfl, rfl, rfl, rfl⟩

end Sys2Proof.Machine
end

