-- ==== Sys2Proof/Laws/Endings.lean ====
section
/-! SUPPORT. What the shared endings do, once each: a weighing that ends other than TAKEN, an ice order that completes, a lot that goes
back to the head of its rostrum's queue. -/

namespace Sys2Proof.Machine

namespace State

/-- A pending weighing of a living lot that ends other than TAKEN (R19, R32). -/
theorem endWeighing_ended {s : State} {i : Fin 8} {p : PendingWeighing} {lot : Lot} (hp : (s.lane i).weighing = some p)
    (hl : s.lot? p.key = some lot) {result : WeighResult} (hr : result ≠ .taken) (gross : Option Int) :
    s.endWeighing i result gross none none = s.weighingEnded i p lot result gross := by
  simp [endWeighing, hp, hr, releaseWeighing, hl, weighingEnded, uncommit, bump]

/-- A lane without a pending weighing has none to end. -/
theorem failWeighing_none {s : State} {i : Fin 8} (h : (s.lane i).weighing = none) (result : WeighResult) :
    s.failWeighing i result = s := by
  simp only [failWeighing, endWeighing, h]

/-- The completion of an order of an account that exists (R143). -/
theorem completeOrder_completed {s : State} {b : Fin 4} {o : IceOrder} {a : Account} (ho : (s.bay b).order = some o)
    (ha : s.account? o.account = some a) (code : IceCode) :
    s.OrderCompleted (s.completeOrder b code) b o (s.bay b).delivered code := by
  have hr :
      (s.modAccount o.account fun x => { x with reserved := x.reserved - o.charge }).account? o.account =
        some { a with reserved := a.reserved - o.charge } := by
    rw [account?_modAccount s o.account o.account (fun x => { x with reserved := x.reserved - o.charge }) fun _ => rfl, ha]
    simp [account?_number ha]
  have hs :
      ∀ n, (s.completeOrder b code).account? n =
        (s.release o.account o.charge (chargedKilograms o.q (s.bay b).delivered * o.price)).account? n := by
    intro n
    simp only [completeOrder, ho]
    rfl
  refine ⟨fun x hx => ?_, fun n hn => ?_, ?_, ?_, ?_, fun c hc => ?_, ?_⟩
  · simp only [hs, account?_release, hx, account?_number hx, Option.map_some, if_true, chargedKilograms]
  · rw [hs, account?_release]
    cases h : s.account? n with
    | none => rfl
    | some x => simp [account?_number h, hn]
  · simp only [completeOrder, ho, release, post, hr]
    rfl
  · constructor <;> simp only [completeOrder, ho, release, post, hr] <;> rfl
  · simp only [completeOrder, ho, bay_modBay_self, release, post, hr]
    rfl
  · simp only [completeOrder, ho]
    rw [bay_modBay, if_neg hc]
    simp only [release, post, hr]
    rfl
  · simp only [completeOrder, ho, release, post, hr]
    rfl

/-- The lot on the clock goes back to the head of its queue, a full queue losing its tail (R42, R50). -/
theorem putBack_takes {s : State} {r : RostrumId} {o : Offer} (ho : (s.rostrum r).offer = some o) :
    s.putBack r =
      (((s.rostrum r).displaces (some o.key)).elim (s.modLot o.key fun l => { l with state := .queued }) fun tail =>
          (s.modLot o.key fun l => { l with state := .queued }).modLot tail fun l =>
            { l with state := .ready, rostrum := none }).modRostrum r fun x => x.takes (some o.key) := by
  have hm : ∀ (u : State) k f, (u.modLot k f).rostrum r = u.rostrum r := by intro u k f; cases r <;> rfl
  simp only [putBack, ho, headInsert, hm]
  by_cases hq : (s.rostrum r).queue.length < Config.maxQueue
  · have hd : (s.rostrum r).displaces (some o.key) = none := by
      simp only [Rostrum.displaces]
      exact if_neg fun h => absurd h.2 (Nat.not_le.mpr hq)
    rw [if_pos hq, hd]
    refine modRostrum_congr ?_
    simp only [hm, Rostrum.takes]
    exact (if_pos hq).symm
  · have hd : (s.rostrum r).displaces (some o.key) = (s.rostrum r).queue.getLast? := by
      simp only [Rostrum.displaces]
      exact if_pos ⟨rfl, Nat.not_lt.mp hq⟩
    rw [if_neg hq, hd]
    cases hg : (s.rostrum r).queue.getLast? with
    | none =>
      rw [List.getLast?_eq_none_iff] at hg
      exact absurd (show (s.rostrum r).queue.length < Config.maxQueue by rw [hg]; decide) hq
    | some tail =>
      refine modRostrum_congr ?_
      simp only [hm, Rostrum.takes, hg]
      exact (if_neg hq).symm

end State

end Sys2Proof.Machine
end

