-- ==== Sys2Proof/Laws/Frames.lean ====
section
/-! SUPPORT. Frames: for each composite operation, the blocks it leaves as they were; what the IN_USE tests of a write and
the end of a start do. -/

namespace Sys2Proof.Machine

namespace State

/-! ## The account table and the crate pool -/

@[simp] theorem debit_frame (s : State) (n m : Nat) :
    (s.debit n m).lanes = s.lanes ∧ (s.debit n m).lotTable = s.lotTable ∧ (s.debit n m).rostrumA = s.rostrumA ∧
      (s.debit n m).rostrumB = s.rostrumB ∧ (s.debit n m).crates = s.crates ∧ (s.debit n m).ice = s.ice ∧
      (s.debit n m).store = s.store ∧ (s.debit n m).supply = s.supply ∧ (s.debit n m).port = s.port ∧
      (s.debit n m).freeCount = s.freeCount ∧ (s.debit n m).pending = s.pending := by
  simp only [debit]
  simp

@[simp] theorem credit_frame (s : State) (n m : Nat) :
    (s.credit n m).lanes = s.lanes ∧ (s.credit n m).lotTable = s.lotTable ∧ (s.credit n m).rostrumA = s.rostrumA ∧
      (s.credit n m).rostrumB = s.rostrumB ∧ (s.credit n m).crates = s.crates ∧ (s.credit n m).ice = s.ice ∧
      (s.credit n m).store = s.store ∧ (s.credit n m).supply = s.supply ∧ (s.credit n m).port = s.port ∧
      (s.credit n m).freeCount = s.freeCount ∧ (s.credit n m).pending = s.pending := by
  simp only [credit]
  simp

@[simp] theorem reserve_frame (s : State) (n m : Nat) :
    (s.reserve n m).lanes = s.lanes ∧ (s.reserve n m).lotTable = s.lotTable ∧ (s.reserve n m).rostrumA = s.rostrumA ∧
      (s.reserve n m).rostrumB = s.rostrumB ∧ (s.reserve n m).crates = s.crates ∧ (s.reserve n m).ice = s.ice ∧
      (s.reserve n m).store = s.store ∧ (s.reserve n m).supply = s.supply ∧ (s.reserve n m).port = s.port ∧
      (s.reserve n m).freeCount = s.freeCount ∧ (s.reserve n m).pending = s.pending := by
  simp only [reserve]
  simp

@[simp] theorem release_frame (s : State) (n r c : Nat) :
    (s.release n r c).lanes = s.lanes ∧ (s.release n r c).lotTable = s.lotTable ∧ (s.release n r c).rostrumA = s.rostrumA ∧
      (s.release n r c).rostrumB = s.rostrumB ∧ (s.release n r c).crates = s.crates ∧ (s.release n r c).ice = s.ice ∧
      (s.release n r c).store = s.store ∧ (s.release n r c).supply = s.supply ∧ (s.release n r c).port = s.port ∧
      (s.release n r c).freeCount = s.freeCount ∧ (s.release n r c).pending = s.pending := by
  simp only [release]
  simp

@[simp] theorem modLiveLots_frame (s : State) (n : Nat) (f : Nat → Nat) :
    (s.modLiveLots n f).lanes = s.lanes ∧ (s.modLiveLots n f).lotTable = s.lotTable ∧ (s.modLiveLots n f).rostrumA = s.rostrumA ∧
      (s.modLiveLots n f).rostrumB = s.rostrumB ∧ (s.modLiveLots n f).crates = s.crates ∧ (s.modLiveLots n f).ice = s.ice ∧
      (s.modLiveLots n f).store = s.store ∧ (s.modLiveLots n f).supply = s.supply ∧ (s.modLiveLots n f).port = s.port ∧
      (s.modLiveLots n f).freeCount = s.freeCount ∧ (s.modLiveLots n f).pending = s.pending := by
  simp only [modLiveLots]
  simp

@[simp] theorem modDeskCount_frame (s : State) (n : Nat) (f : Nat → Nat) :
    (s.modDeskCount n f).lanes = s.lanes ∧ (s.modDeskCount n f).lotTable = s.lotTable ∧
      (s.modDeskCount n f).rostrumA = s.rostrumA ∧ (s.modDeskCount n f).rostrumB = s.rostrumB ∧
      (s.modDeskCount n f).crates = s.crates ∧ (s.modDeskCount n f).ice = s.ice ∧ (s.modDeskCount n f).store = s.store ∧
      (s.modDeskCount n f).supply = s.supply ∧ (s.modDeskCount n f).port = s.port ∧
      (s.modDeskCount n f).freeCount = s.freeCount ∧ (s.modDeskCount n f).pending = s.pending := by
  simp only [modDeskCount]
  simp

@[simp] theorem modHolding_frame (s : State) (n : Nat) (t : Fin 8) (f : Nat → Nat) :
    (s.modHolding n t f).lanes = s.lanes ∧ (s.modHolding n t f).lotTable = s.lotTable ∧
      (s.modHolding n t f).rostrumA = s.rostrumA ∧ (s.modHolding n t f).rostrumB = s.rostrumB ∧
      (s.modHolding n t f).crates = s.crates ∧ (s.modHolding n t f).ice = s.ice ∧ (s.modHolding n t f).store = s.store ∧
      (s.modHolding n t f).supply = s.supply ∧ (s.modHolding n t f).port = s.port ∧
      (s.modHolding n t f).freeCount = s.freeCount ∧ (s.modHolding n t f).pending = s.pending := by
  simp only [modHolding]
  simp

@[simp] theorem commit_frame (s : State) (n : Nat) (t : Fin 8) (c : Nat) :
    (s.commit n t c).lanes = s.lanes ∧ (s.commit n t c).lotTable = s.lotTable ∧ (s.commit n t c).rostrumA = s.rostrumA ∧
      (s.commit n t c).rostrumB = s.rostrumB ∧ (s.commit n t c).crates = s.crates ∧ (s.commit n t c).ice = s.ice ∧
      (s.commit n t c).store = s.store ∧ (s.commit n t c).supply = s.supply ∧ (s.commit n t c).port = s.port ∧
      (s.commit n t c).freeCount = s.freeCount ∧ (s.commit n t c).pending = s.pending := by
  simp only [commit]
  simp

@[simp] theorem uncommit_frame (s : State) (n : Nat) (t : Fin 8) (c : Nat) :
    (s.uncommit n t c).lanes = s.lanes ∧ (s.uncommit n t c).lotTable = s.lotTable ∧ (s.uncommit n t c).rostrumA = s.rostrumA ∧
      (s.uncommit n t c).rostrumB = s.rostrumB ∧ (s.uncommit n t c).crates = s.crates ∧ (s.uncommit n t c).ice = s.ice ∧
      (s.uncommit n t c).store = s.store ∧ (s.uncommit n t c).supply = s.supply ∧ (s.uncommit n t c).port = s.port ∧
      (s.uncommit n t c).freeCount = s.freeCount ∧ (s.uncommit n t c).pending = s.pending := by
  simp only [uncommit]
  simp

@[simp] theorem saleMove_frame (s : State) (n m : Nat) (t : Fin 8) (k : Nat) :
    (s.saleMove n m t k).lanes = s.lanes ∧ (s.saleMove n m t k).lotTable = s.lotTable ∧
      (s.saleMove n m t k).rostrumA = s.rostrumA ∧ (s.saleMove n m t k).rostrumB = s.rostrumB ∧
      (s.saleMove n m t k).crates = s.crates ∧ (s.saleMove n m t k).ice = s.ice ∧ (s.saleMove n m t k).store = s.store ∧
      (s.saleMove n m t k).supply = s.supply ∧ (s.saleMove n m t k).port = s.port ∧
      (s.saleMove n m t k).freeCount = s.freeCount ∧ (s.saleMove n m t k).pending = s.pending := by
  simp only [saleMove]
  simp

@[simp] theorem modFloat_frame (s : State) (d : Int) :
    (s.modFloat d).lanes = s.lanes ∧ (s.modFloat d).lotTable = s.lotTable ∧ (s.modFloat d).rostrumA = s.rostrumA ∧
      (s.modFloat d).rostrumB = s.rostrumB ∧ (s.modFloat d).crates = s.crates ∧ (s.modFloat d).ice = s.ice ∧
      (s.modFloat d).store = s.store ∧ (s.modFloat d).supply = s.supply ∧ (s.modFloat d).port = s.port ∧
      (s.modFloat d).freeCount = s.freeCount ∧ (s.modFloat d).pending = s.pending := by
  simp only [modFloat]
  simp

@[simp] theorem dropReserved_frame (s : State) :
    s.dropReserved.lanes = s.lanes ∧ s.dropReserved.lotTable = s.lotTable ∧ s.dropReserved.rostrumA = s.rostrumA ∧
      s.dropReserved.rostrumB = s.rostrumB ∧ s.dropReserved.crates = s.crates ∧ s.dropReserved.ice = s.ice ∧
      s.dropReserved.store = s.store ∧ s.dropReserved.supply = s.supply ∧ s.dropReserved.port = s.port ∧
      s.dropReserved.freeCount = s.freeCount ∧ s.dropReserved.pending = s.pending := by
  simp only [dropReserved]
  simp

@[simp] theorem issueCrates_frame (s : State) (n : Nat) (t : Fin 8) (k d : Nat) :
    (s.issueCrates n t k d).lanes = s.lanes ∧ (s.issueCrates n t k d).lotTable = s.lotTable ∧
      (s.issueCrates n t k d).rostrumA = s.rostrumA ∧ (s.issueCrates n t k d).rostrumB = s.rostrumB ∧
      (s.issueCrates n t k d).ice = s.ice ∧ (s.issueCrates n t k d).store = s.store ∧ (s.issueCrates n t k d).supply = s.supply ∧
      (s.issueCrates n t k d).port = s.port ∧ (s.issueCrates n t k d).freeCount = s.freeCount ∧
      (s.issueCrates n t k d).pending = s.pending := by
  simp only [issueCrates]
  simp

@[simp] theorem transferCrates_frame (s : State) (n m : Nat) (t : Fin 8) (k d : Nat) :
    (s.transferCrates n m t k d).lanes = s.lanes ∧ (s.transferCrates n m t k d).lotTable = s.lotTable ∧
      (s.transferCrates n m t k d).rostrumA = s.rostrumA ∧ (s.transferCrates n m t k d).rostrumB = s.rostrumB ∧
      (s.transferCrates n m t k d).crates = s.crates ∧ (s.transferCrates n m t k d).ice = s.ice ∧
      (s.transferCrates n m t k d).store = s.store ∧ (s.transferCrates n m t k d).supply = s.supply ∧
      (s.transferCrates n m t k d).port = s.port ∧ (s.transferCrates n m t k d).freeCount = s.freeCount ∧
      (s.transferCrates n m t k d).pending = s.pending := by
  simp only [transferCrates]
  simp

@[simp] theorem strayCrate_frame (s : State) (g : Fin 2) (t : Fin 8) :
    (s.strayCrate g t).lanes = s.lanes ∧ (s.strayCrate g t).lotTable = s.lotTable ∧ (s.strayCrate g t).rostrumA = s.rostrumA ∧
      (s.strayCrate g t).rostrumB = s.rostrumB ∧ (s.strayCrate g t).accountTable = s.accountTable ∧
      (s.strayCrate g t).ice = s.ice ∧ (s.strayCrate g t).store = s.store ∧ (s.strayCrate g t).supply = s.supply ∧
      (s.strayCrate g t).port = s.port ∧ (s.strayCrate g t).freeCount = s.freeCount ∧
      (s.strayCrate g t).pending = s.pending := by
  simp only [strayCrate]
  (repeat' split) <;> simp

@[simp] theorem gateArrival_frame (s : State) (g : Fin 2) (c k : Byte) :
    (s.gateArrival g c k).lanes = s.lanes ∧ (s.gateArrival g c k).lotTable = s.lotTable ∧
      (s.gateArrival g c k).rostrumA = s.rostrumA ∧ (s.gateArrival g c k).rostrumB = s.rostrumB ∧
      (s.gateArrival g c k).accountTable = s.accountTable ∧ (s.gateArrival g c k).ice = s.ice ∧
      (s.gateArrival g c k).store = s.store ∧ (s.gateArrival g c k).supply = s.supply ∧ (s.gateArrival g c k).port = s.port ∧
      (s.gateArrival g c k).freeCount = s.freeCount ∧ (s.gateArrival g c k).pending = s.pending := by
  simp only [gateArrival]
  (repeat' split) <;> simp

@[simp] theorem settle_frame (s : State) (g : Fin 2) (w : Session) (a : Account) :
    (s.settle g w a).lanes = s.lanes ∧ (s.settle g w a).lotTable = s.lotTable ∧ (s.settle g w a).rostrumA = s.rostrumA ∧
      (s.settle g w a).rostrumB = s.rostrumB ∧ (s.settle g w a).ice = s.ice ∧ (s.settle g w a).store = s.store ∧
      (s.settle g w a).supply = s.supply ∧ (s.settle g w a).port = s.port ∧ (s.settle g w a).freeCount = s.freeCount ∧
      (s.settle g w a).pending = s.pending := by
  simp [settle, settleType, all8]

/-! ## Lanes and weighings -/

@[simp] theorem releaseWeighing_frame (s : State) (k : Key) (c : Nat) :
    (s.releaseWeighing k c).lanes = s.lanes ∧ (s.releaseWeighing k c).rostrumA = s.rostrumA ∧
      (s.releaseWeighing k c).rostrumB = s.rostrumB ∧ (s.releaseWeighing k c).crates = s.crates ∧
      (s.releaseWeighing k c).ice = s.ice ∧ (s.releaseWeighing k c).store = s.store ∧ (s.releaseWeighing k c).supply = s.supply ∧
      (s.releaseWeighing k c).port = s.port ∧ (s.releaseWeighing k c).freeCount = s.freeCount ∧
      (s.releaseWeighing k c).pending = s.pending := by
  simp only [releaseWeighing]
  (repeat' split) <;> simp

@[simp] theorem endWeighing_frame (s : State) (i : Fin 8) (r : WeighResult) (g : Option Int) (n : Option Nat) (t : Option TicketStatus) :
    (s.endWeighing i r g n t).rostrumA = s.rostrumA ∧ (s.endWeighing i r g n t).rostrumB = s.rostrumB ∧
      (s.endWeighing i r g n t).crates = s.crates ∧ (s.endWeighing i r g n t).ice = s.ice ∧
      (s.endWeighing i r g n t).store = s.store ∧ (s.endWeighing i r g n t).supply = s.supply ∧
      (s.endWeighing i r g n t).port = s.port ∧ (s.endWeighing i r g n t).freeCount = s.freeCount ∧
      (s.endWeighing i r g n t).pending = s.pending := by
  simp only [endWeighing]
  (repeat' split) <;> simp

@[simp] theorem failWeighing_frame (s : State) (i : Fin 8) (r : WeighResult) :
    (s.failWeighing i r).rostrumA = s.rostrumA ∧ (s.failWeighing i r).rostrumB = s.rostrumB ∧
      (s.failWeighing i r).crates = s.crates ∧ (s.failWeighing i r).ice = s.ice ∧ (s.failWeighing i r).store = s.store ∧
      (s.failWeighing i r).supply = s.supply ∧ (s.failWeighing i r).port = s.port ∧
      (s.failWeighing i r).freeCount = s.freeCount ∧ (s.failWeighing i r).pending = s.pending := by
  simp only [failWeighing]
  simp

@[simp] theorem completeWeighing_frame (s : State) (i : Fin 8) (w : Int) :
    (s.completeWeighing i w).rostrumA = s.rostrumA ∧ (s.completeWeighing i w).rostrumB = s.rostrumB ∧
      (s.completeWeighing i w).crates = s.crates ∧ (s.completeWeighing i w).ice = s.ice ∧
      (s.completeWeighing i w).store = s.store ∧ (s.completeWeighing i w).supply = s.supply ∧
      (s.completeWeighing i w).port = s.port ∧ (s.completeWeighing i w).freeCount = s.freeCount ∧
      (s.completeWeighing i w).pending = s.pending := by
  simp only [completeWeighing]
  (repeat' split) <;> simp

@[simp] theorem acceptSample_frame (s : State) (i : Fin 8) (c : Int) :
    (s.acceptSample i c).rostrumA = s.rostrumA ∧ (s.acceptSample i c).rostrumB = s.rostrumB ∧
      (s.acceptSample i c).crates = s.crates ∧ (s.acceptSample i c).ice = s.ice ∧ (s.acceptSample i c).store = s.store ∧
      (s.acceptSample i c).supply = s.supply ∧ (s.acceptSample i c).port = s.port ∧
      (s.acceptSample i c).freeCount = s.freeCount ∧ (s.acceptSample i c).pending = s.pending := by
  simp only [acceptSample]
  (repeat' split) <;> simp

@[simp] theorem laneFault_frame (s : State) (i : Fin 8) (c : FaultCause) :
    (s.laneFault i c).rostrumA = s.rostrumA ∧ (s.laneFault i c).rostrumB = s.rostrumB ∧ (s.laneFault i c).crates = s.crates ∧
      (s.laneFault i c).ice = s.ice ∧ (s.laneFault i c).store = s.store ∧ (s.laneFault i c).supply = s.supply ∧
      (s.laneFault i c).port = s.port ∧ (s.laneFault i c).freeCount = s.freeCount ∧ (s.laneFault i c).pending = s.pending := by
  simp only [laneFault]
  simp

@[simp] theorem badSample_frame (s : State) (i : Fin 8) :
    (s.badSample i).rostrumA = s.rostrumA ∧ (s.badSample i).rostrumB = s.rostrumB ∧ (s.badSample i).crates = s.crates ∧
      (s.badSample i).ice = s.ice ∧ (s.badSample i).store = s.store ∧ (s.badSample i).supply = s.supply ∧
      (s.badSample i).port = s.port ∧ (s.badSample i).freeCount = s.freeCount ∧ (s.badSample i).pending = s.pending := by
  simp only [badSample]
  (repeat' split) <;> simp

@[simp] theorem goodSample_frame (s : State) (i : Fin 8) (o : Bool) (c : Int) :
    (s.goodSample i o c).rostrumA = s.rostrumA ∧ (s.goodSample i o c).rostrumB = s.rostrumB ∧
      (s.goodSample i o c).crates = s.crates ∧ (s.goodSample i o c).ice = s.ice ∧ (s.goodSample i o c).store = s.store ∧
      (s.goodSample i o c).supply = s.supply ∧ (s.goodSample i o c).port = s.port ∧
      (s.goodSample i o c).freeCount = s.freeCount ∧ (s.goodSample i o c).pending = s.pending := by
  unfold goodSample
  cases (s.lane i).state <;> cases o <;> simp

@[simp] theorem silenceExpiry_frame (s : State) (i : Fin 8) :
    (s.silenceExpiry i).rostrumA = s.rostrumA ∧ (s.silenceExpiry i).rostrumB = s.rostrumB ∧
      (s.silenceExpiry i).crates = s.crates ∧ (s.silenceExpiry i).ice = s.ice ∧ (s.silenceExpiry i).store = s.store ∧
      (s.silenceExpiry i).supply = s.supply ∧ (s.silenceExpiry i).port = s.port ∧ (s.silenceExpiry i).freeCount = s.freeCount ∧
      (s.silenceExpiry i).pending = s.pending := by
  simp only [silenceExpiry]
  (repeat' split) <;> simp

@[simp] theorem calibrationChange_frame (s : State) (i : Fin 8) :
    (s.calibrationChange i).rostrumA = s.rostrumA ∧ (s.calibrationChange i).rostrumB = s.rostrumB ∧
      (s.calibrationChange i).crates = s.crates ∧ (s.calibrationChange i).ice = s.ice ∧ (s.calibrationChange i).store = s.store ∧
      (s.calibrationChange i).supply = s.supply ∧ (s.calibrationChange i).port = s.port ∧
      (s.calibrationChange i).freeCount = s.freeCount ∧ (s.calibrationChange i).pending = s.pending := by
  simp only [calibrationChange]
  (repeat' split) <;> simp

@[simp] theorem laneHold_frame (s : State) (i : Fin 8) :
    (s.laneHold i).rostrumA = s.rostrumA ∧ (s.laneHold i).rostrumB = s.rostrumB ∧ (s.laneHold i).crates = s.crates ∧
      (s.laneHold i).ice = s.ice ∧ (s.laneHold i).store = s.store ∧ (s.laneHold i).supply = s.supply ∧
      (s.laneHold i).port = s.port ∧ (s.laneHold i).freeCount = s.freeCount ∧ (s.laneHold i).pending = s.pending := by
  simp only [laneHold]
  simp

@[simp] theorem handIn_frame (s : State) (l : Lot) (i : Fin 8) (c : Nat) :
    (s.handIn l i c).rostrumA = s.rostrumA ∧ (s.handIn l i c).rostrumB = s.rostrumB ∧ (s.handIn l i c).crates = s.crates ∧
      (s.handIn l i c).ice = s.ice ∧ (s.handIn l i c).store = s.store ∧ (s.handIn l i c).supply = s.supply ∧
      (s.handIn l i c).port = s.port ∧ (s.handIn l i c).freeCount = s.freeCount ∧ (s.handIn l i c).pending = s.pending := by
  simp only [handIn]
  simp

@[simp] theorem retire_frame (s : State) (l : Lot) :
    (s.retire l).lanes = s.lanes ∧ (s.retire l).rostrumA = s.rostrumA ∧ (s.retire l).rostrumB = s.rostrumB ∧
      (s.retire l).crates = s.crates ∧ (s.retire l).ice = s.ice ∧ (s.retire l).store = s.store ∧ (s.retire l).supply = s.supply ∧
      (s.retire l).port = s.port ∧ (s.retire l).freeCount = s.freeCount ∧ (s.retire l).pending = s.pending := by
  simp only [retire]
  (repeat' split) <;> simp

@[simp] theorem dropPending_frame (s : State) (l : Lot) :
    (s.dropPending l).lanes = s.lanes ∧ (s.dropPending l).rostrumA = s.rostrumA ∧ (s.dropPending l).rostrumB = s.rostrumB ∧
      (s.dropPending l).crates = s.crates ∧ (s.dropPending l).ice = s.ice ∧ (s.dropPending l).store = s.store ∧
      (s.dropPending l).supply = s.supply ∧ (s.dropPending l).port = s.port ∧ (s.dropPending l).freeCount = s.freeCount ∧
      (s.dropPending l).pending = s.pending := by
  simp only [dropPending]
  (repeat' split) <;> simp

/-! ## Rostra and bookings -/

@[simp] theorem formClock_frame (s : State) (r : RostrumId) :
    (s.formClock r).lanes = s.lanes ∧ (s.formClock r).lotTable = s.lotTable ∧ (s.formClock r).accountTable = s.accountTable ∧
      (s.formClock r).crates = s.crates ∧ (s.formClock r).ice = s.ice ∧ (s.formClock r).store = s.store ∧
      (s.formClock r).supply = s.supply ∧ (s.formClock r).port = s.port ∧ (s.formClock r).freeCount = s.freeCount ∧
      (s.formClock r).pending = s.pending := by
  simp only [formClock]
  simp

@[simp] theorem headInsert_frame (s : State) (r : RostrumId) (k : Key) :
    (s.headInsert r k).lanes = s.lanes ∧ (s.headInsert r k).accountTable = s.accountTable ∧
      (s.headInsert r k).crates = s.crates ∧ (s.headInsert r k).ice = s.ice ∧ (s.headInsert r k).store = s.store ∧
      (s.headInsert r k).supply = s.supply ∧ (s.headInsert r k).port = s.port ∧ (s.headInsert r k).freeCount = s.freeCount ∧
      (s.headInsert r k).pending = s.pending := by
  simp only [headInsert]
  (repeat' split) <;> simp

@[simp] theorem putBack_frame (s : State) (r : RostrumId) :
    (s.putBack r).lanes = s.lanes ∧ (s.putBack r).accountTable = s.accountTable ∧ (s.putBack r).crates = s.crates ∧
      (s.putBack r).ice = s.ice ∧ (s.putBack r).store = s.store ∧ (s.putBack r).supply = s.supply ∧ (s.putBack r).port = s.port ∧
      (s.putBack r).freeCount = s.freeCount ∧ (s.putBack r).pending = s.pending := by
  simp only [putBack]
  (repeat' split) <;> simp

@[simp] theorem startOffer_frame (s : State) (r : RostrumId) :
    (s.startOffer r).lanes = s.lanes ∧ (s.startOffer r).accountTable = s.accountTable ∧ (s.startOffer r).crates = s.crates ∧
      (s.startOffer r).ice = s.ice ∧ (s.startOffer r).store = s.store ∧ (s.startOffer r).supply = s.supply ∧
      (s.startOffer r).port = s.port ∧ (s.startOffer r).freeCount = s.freeCount ∧ (s.startOffer r).pending = s.pending := by
  simp only [startOffer]
  (repeat' split) <;> simp

@[simp] theorem enterWaiting_frame (s : State) (r : RostrumId) :
    (s.enterWaiting r).lanes = s.lanes ∧ (s.enterWaiting r).lotTable = s.lotTable ∧
      (s.enterWaiting r).accountTable = s.accountTable ∧ (s.enterWaiting r).crates = s.crates ∧ (s.enterWaiting r).ice = s.ice ∧
      (s.enterWaiting r).store = s.store ∧ (s.enterWaiting r).supply = s.supply ∧ (s.enterWaiting r).port = s.port ∧
      (s.enterWaiting r).freeCount = s.freeCount ∧ (s.enterWaiting r).pending = s.pending := by
  simp only [enterWaiting]
  simp

@[simp] theorem enterShowing_frame (s : State) (r : RostrumId) :
    (s.enterShowing r).lanes = s.lanes ∧ (s.enterShowing r).lotTable = s.lotTable ∧
      (s.enterShowing r).accountTable = s.accountTable ∧ (s.enterShowing r).crates = s.crates ∧ (s.enterShowing r).ice = s.ice ∧
      (s.enterShowing r).store = s.store ∧ (s.enterShowing r).supply = s.supply ∧ (s.enterShowing r).port = s.port ∧
      (s.enterShowing r).freeCount = s.freeCount ∧ (s.enterShowing r).pending = s.pending := by
  simp only [enterShowing]
  simp

@[simp] theorem stepExpiry_frame (s : State) (r : RostrumId) :
    (s.stepExpiry r).lanes = s.lanes ∧ (s.stepExpiry r).accountTable = s.accountTable ∧ (s.stepExpiry r).crates = s.crates ∧
      (s.stepExpiry r).ice = s.ice ∧ (s.stepExpiry r).store = s.store ∧ (s.stepExpiry r).supply = s.supply ∧
      (s.stepExpiry r).port = s.port ∧ (s.stepExpiry r).freeCount = s.freeCount ∧ (s.stepExpiry r).pending = s.pending := by
  simp only [stepExpiry]
  (repeat' split) <;> simp

@[simp] theorem showExpiry_frame (s : State) (r : RostrumId) :
    (s.showExpiry r).lanes = s.lanes ∧ (s.showExpiry r).accountTable = s.accountTable ∧ (s.showExpiry r).crates = s.crates ∧
      (s.showExpiry r).ice = s.ice ∧ (s.showExpiry r).store = s.store ∧ (s.showExpiry r).supply = s.supply ∧
      (s.showExpiry r).port = s.port ∧ (s.showExpiry r).freeCount = s.freeCount ∧ (s.showExpiry r).pending = s.pending := by
  simp only [showExpiry]
  (repeat' split) <;> simp

@[simp] theorem stopOffer_frame (s : State) (r : RostrumId) :
    (s.stopOffer r).lanes = s.lanes ∧ (s.stopOffer r).accountTable = s.accountTable ∧ (s.stopOffer r).crates = s.crates ∧
      (s.stopOffer r).ice = s.ice ∧ (s.stopOffer r).store = s.store ∧ (s.stopOffer r).supply = s.supply ∧
      (s.stopOffer r).port = s.port ∧ (s.stopOffer r).freeCount = s.freeCount ∧ (s.stopOffer r).pending = s.pending := by
  simp only [stopOffer]
  (repeat' split) <;> simp

@[simp] theorem rostrumHoldEntry_frame (s : State) (r : RostrumId) :
    (s.rostrumHoldEntry r).lanes = s.lanes ∧ (s.rostrumHoldEntry r).accountTable = s.accountTable ∧
      (s.rostrumHoldEntry r).crates = s.crates ∧ (s.rostrumHoldEntry r).ice = s.ice ∧ (s.rostrumHoldEntry r).store = s.store ∧
      (s.rostrumHoldEntry r).supply = s.supply ∧ (s.rostrumHoldEntry r).port = s.port ∧
      (s.rostrumHoldEntry r).freeCount = s.freeCount ∧ (s.rostrumHoldEntry r).pending = s.pending := by
  simp only [rostrumHoldEntry]
  simp

@[simp] theorem unqueue_frame (s : State) (l : Lot) :
    (s.unqueue l).lanes = s.lanes ∧ (s.unqueue l).lotTable = s.lotTable ∧ (s.unqueue l).accountTable = s.accountTable ∧
      (s.unqueue l).crates = s.crates ∧ (s.unqueue l).ice = s.ice ∧ (s.unqueue l).store = s.store ∧
      (s.unqueue l).supply = s.supply ∧ (s.unqueue l).port = s.port ∧ (s.unqueue l).freeCount = s.freeCount ∧
      (s.unqueue l).pending = s.pending := by
  simp only [unqueue]
  (repeat' split) <;> simp

@[simp] theorem putBackFound_frame (s : State) (l : Lot) :
    (s.putBackFound l).lanes = s.lanes ∧ (s.putBackFound l).accountTable = s.accountTable ∧
      (s.putBackFound l).crates = s.crates ∧ (s.putBackFound l).ice = s.ice ∧ (s.putBackFound l).store = s.store ∧
      (s.putBackFound l).supply = s.supply ∧ (s.putBackFound l).port = s.port ∧ (s.putBackFound l).freeCount = s.freeCount ∧
      (s.putBackFound l).pending = s.pending := by
  simp only [putBackFound]
  (repeat' split) <;> simp

@[simp] theorem postSale_frame (s : State) (c : Candidate) (v : Valuation) :
    (s.postSale c v).lanes = s.lanes ∧ (s.postSale c v).rostrumA = s.rostrumA ∧ (s.postSale c v).rostrumB = s.rostrumB ∧
      (s.postSale c v).crates = s.crates ∧ (s.postSale c v).ice = s.ice ∧ (s.postSale c v).store = s.store ∧
      (s.postSale c v).supply = s.supply ∧ (s.postSale c v).port = s.port ∧ (s.postSale c v).freeCount = s.freeCount ∧
      (s.postSale c v).pending = s.pending := by
  simp only [postSale]
  simp

@[simp] theorem addRemainder_frame (s : State) (r : RostrumId) (c : Candidate) :
    (s.addRemainder r c).lanes = s.lanes ∧ (s.addRemainder r c).crates = s.crates ∧ (s.addRemainder r c).ice = s.ice ∧
      (s.addRemainder r c).store = s.store ∧ (s.addRemainder r c).supply = s.supply ∧ (s.addRemainder r c).port = s.port ∧
      (s.addRemainder r c).freeCount = s.freeCount ∧ (s.addRemainder r c).pending = s.pending := by
  simp only [addRemainder]
  simp

@[simp] theorem win_frame (s : State) (r : RostrumId) (c : Candidate) (v : Valuation) :
    (s.win r c v).lanes = s.lanes ∧ (s.win r c v).crates = s.crates ∧ (s.win r c v).ice = s.ice ∧ (s.win r c v).store = s.store ∧
      (s.win r c v).supply = s.supply ∧ (s.win r c v).port = s.port ∧ (s.win r c v).freeCount = s.freeCount ∧
      (s.win r c v).pending = s.pending := by
  simp only [win]
  (repeat' split) <;> simp

@[simp] theorem answerPress_frame (s : State) (r : RostrumId) (d : Nat) (a : PressAnswer) :
    (s.answerPress r d a).lanes = s.lanes ∧ (s.answerPress r d a).lotTable = s.lotTable ∧
      (s.answerPress r d a).accountTable = s.accountTable ∧ (s.answerPress r d a).crates = s.crates ∧
      (s.answerPress r d a).ice = s.ice ∧ (s.answerPress r d a).store = s.store ∧ (s.answerPress r d a).supply = s.supply ∧
      (s.answerPress r d a).port = s.port ∧ (s.answerPress r d a).freeCount = s.freeCount ∧
      (s.answerPress r d a).pending = s.pending := by
  simp only [answerPress]
  simp

@[simp] theorem press_frame (s : State) (r : RostrumId) (d : Fin 96) (q : Nat) :
    (s.press r d q).lanes = s.lanes ∧ (s.press r d q).crates = s.crates ∧ (s.press r d q).ice = s.ice ∧
      (s.press r d q).store = s.store ∧ (s.press r d q).supply = s.supply ∧ (s.press r d q).port = s.port ∧
      (s.press r d q).freeCount = s.freeCount ∧ (s.press r d q).pending = s.pending := by
  simp only [press]
  (repeat' split) <;> simp

@[simp] theorem pressArrival_frame (s : State) (r : RostrumId) (d q k : Byte) :
    (s.pressArrival r d q k).lanes = s.lanes ∧ (s.pressArrival r d q k).crates = s.crates ∧
      (s.pressArrival r d q k).ice = s.ice ∧ (s.pressArrival r d q k).store = s.store ∧
      (s.pressArrival r d q k).supply = s.supply ∧ (s.pressArrival r d q k).port = s.port ∧
      (s.pressArrival r d q k).freeCount = s.freeCount ∧ (s.pressArrival r d q k).pending = s.pending := by
  simp only [pressArrival]
  (repeat' split) <;> simp

/-! ## Ice -/

@[simp] theorem takeOrder_frame (s : State) (b : Fin 4) (o : IceOrder) :
    (s.takeOrder b o).lanes = s.lanes ∧ (s.takeOrder b o).lotTable = s.lotTable ∧ (s.takeOrder b o).rostrumA = s.rostrumA ∧
      (s.takeOrder b o).rostrumB = s.rostrumB ∧ (s.takeOrder b o).crates = s.crates ∧ (s.takeOrder b o).store = s.store ∧
      (s.takeOrder b o).supply = s.supply ∧ (s.takeOrder b o).port = s.port ∧ (s.takeOrder b o).freeCount = s.freeCount ∧
      (s.takeOrder b o).pending = s.pending := by
  simp only [takeOrder]
  simp

@[simp] theorem completeOrder_frame (s : State) (b : Fin 4) (c : IceCode) :
    (s.completeOrder b c).lanes = s.lanes ∧ (s.completeOrder b c).lotTable = s.lotTable ∧
      (s.completeOrder b c).rostrumA = s.rostrumA ∧ (s.completeOrder b c).rostrumB = s.rostrumB ∧
      (s.completeOrder b c).crates = s.crates ∧ (s.completeOrder b c).store = s.store ∧ (s.completeOrder b c).supply = s.supply ∧
      (s.completeOrder b c).port = s.port ∧ (s.completeOrder b c).freeCount = s.freeCount ∧
      (s.completeOrder b c).pending = s.pending := by
  simp only [completeOrder]
  (repeat' split) <;> simp

@[simp] theorem enterRunOn_frame (s : State) (b : Fin 4) (o : IceOrder) :
    (s.enterRunOn b o).lanes = s.lanes ∧ (s.enterRunOn b o).lotTable = s.lotTable ∧ (s.enterRunOn b o).rostrumA = s.rostrumA ∧
      (s.enterRunOn b o).rostrumB = s.rostrumB ∧ (s.enterRunOn b o).crates = s.crates ∧ (s.enterRunOn b o).store = s.store ∧
      (s.enterRunOn b o).supply = s.supply ∧ (s.enterRunOn b o).port = s.port ∧ (s.enterRunOn b o).freeCount = s.freeCount ∧
      (s.enterRunOn b o).pending = s.pending := by
  simp only [enterRunOn]
  (repeat' split) <;> simp

@[simp] theorem dispensePulse_frame (s : State) (b : Fin 4) (o : IceOrder) :
    (s.dispensePulse b o).lanes = s.lanes ∧ (s.dispensePulse b o).lotTable = s.lotTable ∧
      (s.dispensePulse b o).rostrumA = s.rostrumA ∧ (s.dispensePulse b o).rostrumB = s.rostrumB ∧
      (s.dispensePulse b o).crates = s.crates ∧ (s.dispensePulse b o).store = s.store ∧ (s.dispensePulse b o).supply = s.supply ∧
      (s.dispensePulse b o).port = s.port ∧ (s.dispensePulse b o).freeCount = s.freeCount ∧
      (s.dispensePulse b o).pending = s.pending := by
  simp only [dispensePulse]
  (repeat' split) <;> simp

@[simp] theorem pulse_frame (s : State) (b : Fin 4) :
    (s.pulse b).lanes = s.lanes ∧ (s.pulse b).lotTable = s.lotTable ∧ (s.pulse b).rostrumA = s.rostrumA ∧
      (s.pulse b).rostrumB = s.rostrumB ∧ (s.pulse b).crates = s.crates ∧ (s.pulse b).store = s.store ∧
      (s.pulse b).supply = s.supply ∧ (s.pulse b).port = s.port ∧ (s.pulse b).freeCount = s.freeCount ∧
      (s.pulse b).pending = s.pending := by
  simp only [pulse]
  (repeat' split) <;> simp

@[simp] theorem jam_frame (s : State) (b : Fin 4) :
    (s.jam b).lanes = s.lanes ∧ (s.jam b).lotTable = s.lotTable ∧ (s.jam b).rostrumA = s.rostrumA ∧
      (s.jam b).rostrumB = s.rostrumB ∧ (s.jam b).crates = s.crates ∧ (s.jam b).store = s.store ∧ (s.jam b).supply = s.supply ∧
      (s.jam b).port = s.port ∧ (s.jam b).freeCount = s.freeCount ∧ (s.jam b).pending = s.pending := by
  simp only [jam]
  (repeat' split) <;> simp

@[simp] theorem runOnExpiry_frame (s : State) (b : Fin 4) :
    (s.runOnExpiry b).lanes = s.lanes ∧ (s.runOnExpiry b).lotTable = s.lotTable ∧ (s.runOnExpiry b).rostrumA = s.rostrumA ∧
      (s.runOnExpiry b).rostrumB = s.rostrumB ∧ (s.runOnExpiry b).crates = s.crates ∧ (s.runOnExpiry b).store = s.store ∧
      (s.runOnExpiry b).supply = s.supply ∧ (s.runOnExpiry b).port = s.port ∧ (s.runOnExpiry b).freeCount = s.freeCount ∧
      (s.runOnExpiry b).pending = s.pending := by
  simp only [runOnExpiry]
  (repeat' split) <;> simp

@[simp] theorem bayHold_frame (s : State) (b : Fin 4) :
    (s.bayHold b).lanes = s.lanes ∧ (s.bayHold b).lotTable = s.lotTable ∧ (s.bayHold b).rostrumA = s.rostrumA ∧
      (s.bayHold b).rostrumB = s.rostrumB ∧ (s.bayHold b).crates = s.crates ∧ (s.bayHold b).store = s.store ∧
      (s.bayHold b).supply = s.supply ∧ (s.bayHold b).port = s.port ∧ (s.bayHold b).freeCount = s.freeCount ∧
      (s.bayHold b).pending = s.pending := by
  simp only [bayHold]
  simp

/-! ## Store, supply monitor and whole-part events -/

/-- R156's condition at the write alone: the lane of a calibration has a weighing pending. -/
theorem laneInUse_iff (s : State) (id : RecordId) :
    s.laneInUse id = true ↔ ∃ i, id = .laneCal i ∧ (s.lane i).weighing ≠ none := by
  cases id <;> simp [laneInUse, Option.isSome_iff_ne_none]

/-- R156's conditions at the write and at its completion, over the record's two bytes. -/
theorem inUse_iff (s : State) (id : RecordId) (contents : List Byte) :
    s.inUse id contents = true ↔
      (∃ t old, id = .crateTare t ∧ s.store.tare? t = some old ∧ field contents 0 2 ≠ old ∧
        ∃ l ∈ s.lotTable.lots, l.state = .opened ∧ l.crateType = t) ∨
      ∃ t old, id = .crateDeposit t ∧ s.store.deposit? t = some old ∧ field contents 0 2 ≠ old ∧ 0 < s.holdingsOf t := by
  cases id with
  | crateTare t =>
    simp only [inUse, Bool.and_eq_true, Option.any_eq_true, List.any_eq_true, bne_iff_ne, beq_iff_eq]
    constructor
    · rintro ⟨⟨old, h1, h2⟩, l, h3, h4, h5⟩
      exact Or.inl ⟨t, old, rfl, h1, h2.symm, l, h3, h4, h5⟩
    · rintro (⟨_, old, e, h1, h2, l, h3, h4, h5⟩ | ⟨_, _, e, _⟩)
      · cases e
        exact ⟨⟨old, h1, h2.symm⟩, l, h3, h4, h5⟩
      · cases e
  | crateDeposit t =>
    simp only [inUse, Bool.and_eq_true, Option.any_eq_true, bne_iff_ne, decide_eq_true_eq]
    constructor
    · rintro ⟨⟨old, h1, h2⟩, h3⟩
      exact Or.inr ⟨t, old, rfl, h1, h2.symm, h3⟩
    · rintro (⟨_, _, e, _⟩ | ⟨_, old, e, h1, h2, h3⟩)
      · cases e
      · cases e
        exact ⟨⟨old, h1, h2.symm⟩, h3⟩
  | _ => simp [inUse]

@[simp] theorem loadCodes_frame (s : State) :
    s.loadCodes.lanes = s.lanes ∧ s.loadCodes.lotTable = s.lotTable ∧ s.loadCodes.rostrumA = s.rostrumA ∧
      s.loadCodes.rostrumB = s.rostrumB ∧ s.loadCodes.accountTable = s.accountTable ∧ s.loadCodes.crates = s.crates ∧
      s.loadCodes.ice = s.ice ∧ s.loadCodes.store = s.store ∧ s.loadCodes.port = s.port ∧ s.loadCodes.freeCount = s.freeCount ∧
      s.loadCodes.pending = s.pending := by
  simp only [loadCodes]
  simp

@[simp] theorem writeEffect_frame (s : State) (id : RecordId) :
    (s.writeEffect id).rostrumA = s.rostrumA ∧ (s.writeEffect id).rostrumB = s.rostrumB ∧ (s.writeEffect id).crates = s.crates ∧
      (s.writeEffect id).ice = s.ice ∧ (s.writeEffect id).store = s.store ∧ (s.writeEffect id).port = s.port ∧
      (s.writeEffect id).freeCount = s.freeCount ∧ (s.writeEffect id).pending = s.pending := by
  simp only [writeEffect]
  (repeat' split) <;> simp

@[simp] theorem programmed_frame (s : State) :
    s.programmed.rostrumA = s.rostrumA ∧ s.programmed.rostrumB = s.rostrumB ∧ s.programmed.crates = s.crates ∧
      s.programmed.ice = s.ice ∧ s.programmed.port = s.port ∧ s.programmed.freeCount = s.freeCount ∧
      s.programmed.pending = s.pending := by
  simp only [programmed]
  (repeat' split) <;> simp

@[simp] theorem endInFlight_frame (s : State) :
    s.endInFlight.crates = s.crates ∧ s.endInFlight.supply = s.supply ∧ s.endInFlight.port = s.port ∧
      s.endInFlight.freeCount = s.freeCount ∧ s.endInFlight.pending = s.pending := by
  simp [endInFlight, all8, all4]

@[simp] theorem enterHold_frame (s : State) :
    s.enterHold.crates = s.crates ∧ s.enterHold.port = s.port ∧ s.enterHold.freeCount = s.freeCount ∧
      s.enterHold.pending = s.pending := by
  simp only [enterHold]
  simp

@[simp] theorem lowSupply_frame (s : State) :
    s.lowSupply.crates = s.crates ∧ s.lowSupply.port = s.port ∧ s.lowSupply.freeCount = s.freeCount ∧
      s.lowSupply.pending = s.pending := by
  simp only [lowSupply]
  (repeat' split) <;> simp

@[simp] theorem finishStart_frame (s : State) :
    s.finishStart.lotTable = s.lotTable ∧ s.finishStart.crates = s.crates ∧ s.finishStart.freeCount = s.freeCount ∧
      s.finishStart.pending = s.pending := by
  simp [finishStart, all8, all4]

/-- The supply monitor at the end of a start: the codes of the store as the start leaves it are loaded, detection is suspended, and no
start is unfinished. -/
theorem finishStart_supply (s : State) :
    s.finishStart.supply =
      { s.supply.setCodes s.finishStart.store.timing.level s.finishStart.store.timing.filter with
        suspend := some Config.suspendTime, starting := none } := by
  simp [finishStart, loadCodes, all8, all4]

@[simp] theorem beginStart_frame (s : State) (c : RestartCause) :
    (s.beginStart c).lotTable = s.lotTable ∧ (s.beginStart c).crates = s.crates ∧ (s.beginStart c).freeCount = s.freeCount ∧
      (s.beginStart c).pending = s.pending := by
  simp only [beginStart]
  (repeat' split) <;> simp

@[simp] theorem loseVolatile_frame (s : State) :
    s.loseVolatile.lotTable = s.lotTable ∧ s.loseVolatile.crates = s.crates ∧ s.loseVolatile.freeCount = s.freeCount ∧
      s.loseVolatile.pending = s.pending := by
  simp [loseVolatile, all8, all4]

@[simp] theorem statusClear_frame (s : State) :
    s.statusClear.lanes = s.lanes ∧ s.statusClear.lotTable = s.lotTable ∧ s.statusClear.rostrumA = s.rostrumA ∧
      s.statusClear.rostrumB = s.rostrumB ∧ s.statusClear.accountTable = s.accountTable ∧ s.statusClear.crates = s.crates ∧
      s.statusClear.ice = s.ice ∧ s.statusClear.store = s.store ∧ s.statusClear.freeCount = s.freeCount ∧
      s.statusClear.pending = s.pending := by
  simp only [statusClear]
  simp

end State

/-! ## The rostrum line -/

namespace Rostrum

@[simp] theorem feedLine_frame (x : Rostrum) :
    x.feedLine.state = x.state ∧ x.feedLine.queue = x.queue ∧ x.feedLine.offer = x.offer ∧ x.feedLine.stepTimer = x.stepTimer ∧
      x.feedLine.showTimer = x.showTimer ∧ x.feedLine.desks = x.desks ∧ x.feedLine.last = x.last ∧
      x.feedLine.displacedCount = x.displacedCount ∧ x.feedLine.displacedKey = x.displacedKey ∧
      x.feedLine.attention = x.attention ∧ x.feedLine.rejected = x.rejected ∧ x.feedLine.dropped = x.dropped := by
  simp only [feedLine]
  split <;> simp

/-- The frames of a rostrum, in transmission and waiting, keep their order when the first one begins. -/
theorem feedLine_frames (x : Rostrum) : x.feedLine.sending.toList ++ x.feedLine.out = x.sending.toList ++ x.out := by
  simp only [feedLine]
  split <;> simp_all

@[simp] theorem feedLine_answersQueued (x : Rostrum) : x.feedLine.answersQueued = x.answersQueued := by
  simp only [answersQueued, feedLine_frames]

/-- While a frame is in transmission no other begins. -/
theorem feedLine_busy {x : Rostrum} {f : OutFrame} (h : x.sending = some f) : x.feedLine = x := by
  simp only [feedLine, h]

/-- After it the line is idle only with nothing waiting. -/
theorem feedLine_idle (x : Rostrum) (h : x.feedLine.sending = none) : x.feedLine.out = [] := by
  revert h
  simp only [feedLine]
  split
  · simp
  · rename_i hn
    intro hs
    cases ho : x.out with
    | nil => rfl
    | cons f fs => exact absurd ho (hn f fs hs)

@[simp] theorem showClock_frame (x : Rostrum) (f : ClockFrame) :
    (x.showClock f).state = x.state ∧ (x.showClock f).queue = x.queue ∧ (x.showClock f).offer = x.offer ∧
      (x.showClock f).stepTimer = x.stepTimer ∧ (x.showClock f).showTimer = x.showTimer ∧ (x.showClock f).desks = x.desks ∧
      (x.showClock f).last = x.last ∧ (x.showClock f).displacedCount = x.displacedCount ∧
      (x.showClock f).displacedKey = x.displacedKey ∧ (x.showClock f).attention = x.attention ∧
      (x.showClock f).rejected = x.rejected ∧ (x.showClock f).dropped = x.dropped := by
  simp [showClock]

@[simp] theorem answer_frame (x : Rostrum) (a : DeskAnswer) :
    (x.answer a).state = x.state ∧ (x.answer a).queue = x.queue ∧ (x.answer a).offer = x.offer ∧
      (x.answer a).stepTimer = x.stepTimer ∧ (x.answer a).showTimer = x.showTimer ∧ (x.answer a).desks = x.desks ∧
      (x.answer a).last = x.last ∧ (x.answer a).displacedCount = x.displacedCount ∧
      (x.answer a).displacedKey = x.displacedKey ∧ (x.answer a).attention = x.attention ∧
      (x.answer a).rejected = x.rejected := by
  simp only [answer]
  split <;> simp

@[simp] theorem frameSent_frame (x : Rostrum) :
    x.frameSent.state = x.state ∧ x.frameSent.queue = x.queue ∧ x.frameSent.offer = x.offer ∧
      x.frameSent.stepTimer = x.stepTimer ∧ x.frameSent.showTimer = x.showTimer ∧ x.frameSent.desks = x.desks ∧
      x.frameSent.last = x.last ∧ x.frameSent.displacedCount = x.displacedCount ∧
      x.frameSent.displacedKey = x.displacedKey ∧ x.frameSent.attention = x.attention ∧
      x.frameSent.rejected = x.rejected ∧ x.frameSent.dropped = x.dropped := by
  simp [frameSent]

end Rostrum

/-! ## Data out -/

/-- While the part trades, the pending answer is shifted out (R172). -/
theorem State.dataOut_trading {s : State} (h : s.trading = true) (n : Nat) :
    s.dataOut n = some (padTo n (s.port.answer.bytes s.port.frameCrc)) := by
  simp [dataOut, h]

/-- Outside trading data out stands at its idle level (R176). -/
theorem State.dataOut_idle {s : State} (h : s.trading = false) (n : Nat) : s.dataOut n = none := by simp [dataOut, h]

end Sys2Proof.Machine
end

