-- ==== Sys2Proof/Tests/Slice0.lean ====
section
/-! SUPPORT. Small tests: an ill-formed command for each check of the well-formedness, the worked examples of the chapters as single
steps, and for every statement a state and operands that meet its hypotheses. -/

namespace Sys2Proof.Tests

set_option Elab.async false

open Sys2Proof Sys2Proof.Machine

/-! ## Well-formedness: each check refuses an ill-formed command -/

theorem test_wf_one_byte_field : (Instr.portSet 256 4).wf = false := by decide
theorem test_wf_two_byte_field : (Instr.accountNext 65536).wf = false := by decide
theorem test_wf_three_byte_field : (Instr.queueLot 417 0 0 1 16777216).wf = false := by decide
theorem test_wf_four_byte_field : (Instr.paymentIn 207 4294967296).wf = false := by decide
theorem test_wf_signed_field : (Instr.fleetAdjust 2 2147483648).wf = false ∧ (Instr.fleetAdjust 2 (-2147483648)).wf = true := by
  decide
theorem test_wf_twelve_content_bytes : (Instr.storeWrite 0x11 [7, 58]).wf = false := by decide
theorem test_wf_unknown_request :
    (Instr.unknownRequest 0x01 0).wf = false ∧ (Instr.unknownRequest 0x01 1).wf = true ∧ (Instr.unknownRequest 0 0).wf = true := by
  decide

/-! ## Formats -/

/-- R170: the CRC-8 of the single byte 0 is 196. -/
theorem test_crc8_of_zero : crc8 [0#8] = 196#8 := by decide
/-- 11 section 11.5: step 5 at 250 ms is 5,370, sent as 00h, 14h, FAh. -/
theorem test_step_word : be 3 5370 = [0x00#8, 0x14#8, 0xFA#8] ∧ (speciesOf [0, 5, 0xAA, 0, 3, 0x84, 0, 0x14, 0xFA, 40, 5, 4]) =
    { start := 1450, withdrawal := 900, step := 5, interval := 250, levy := 5, restartSteps := 4, allowance := 40 } := by
  decide +kernel
/-- 11 section 11.6: "012 3 0417/0 01 12  182.34 kg" with its line end. -/
theorem test_ticket_line : ticketLine 12 2 { number := 417, part := 0 } 1 12 20 182340 =
    [48, 49, 50, 32, 51, 32, 48, 52, 49, 55, 47, 48, 32, 48, 49, 32, 49, 50, 32, 32, 49, 56, 50, 46, 51, 52, 32, 107, 103, 13, 10] := by
  decide +kernel
/-- R9: with e = 20, 182,330 g gives 182,340 g and −30 g gives −40 g. -/
theorem test_legal_weight : legalOf { zero := 0, span := 65536, e := 20, max := 200000 } 182330 = 182340 ∧
    legalOf { zero := 0, span := 65536, e := 20, max := 200000 } (-30) = -40 := by decide
/-- 02 section 2.13: the window of lane 3 gives F = 860,430 and W_g = 182,340. -/
theorem test_filter_example : filteredOf [860428, 860431, 860430, 860432] = 860430 ∧
    gramsOf { zero := 131072, span := 16384, e := 20, max := 200000 } (860430 - 131072) = 182340 := by decide
/-- 02 section 2.13: T = 55,500, A = 15,876, N = 381,040. -/
theorem test_net_valuation : netValuation 30 452420 20 1850 40 = { tare := 55500, allowance := 15876, net := 381040 } := by decide
/-- R34: a negative weight after tare goes to the next lower multiple of e. -/
theorem test_net_valuation_negative : netValuation 1 100 20 150 200 = { tare := 150, allowance := 0, net := -60 } := by decide
/-- 04 section 4.7: the part booking and the whole-lot booking. -/
theorem test_part_booking : partNet 381040 10 30 20 = 127000 ∧ valuate 127000 1235 10 30 5 10 250 =
    { amount := 156845, commission := 4705, levy := 784, fee := 1568, deposit := 2500 } := by decide
theorem test_whole_booking : valuate 381040 1235 30 30 5 10 250 =
    { amount := 470584, commission := 14118, levy := 2353, fee := 4706, deposit := 7500 } := by decide
/-- 05 section 5.10: 1,243,500 g of an order of 1,250 kg are charged as 1,244 kg. -/
theorem test_charged_kilograms : chargedKilograms 1250 1243500 = 1244 ∧ chargedKilograms 2000 2007500 = 2000 := by decide
/-- R25: with the counter at 9998 and lots 9998/0 and 0001/0 living, 9999 is given and the counter wraps. -/
theorem test_number_search :
    searchNumber [Lot.opened { number := 1, part := 0 } 207 11 1, Lot.opened { number := 9998, part := 0 } 207 11 1] 1024 9998 false =
      (9999, 1, true) := by decide +kernel
/-- R72: a new clock frame takes the place of the waiting one. -/
theorem test_clock_frame_replaces :
    let f : ClockFrame := { state := .idle, lot := none, price := none, result := none }
    let g : ClockFrame := { state := .waiting, lot := none, price := none, result := none }
    let a : DeskAnswer := { desk := 1, answer := .late, crates := 0 }
    putClock g [.clock f, .answer a] = [.clock g, .answer a] ∧ putClock g [.answer a] = [.answer a, .clock g] := by decide
/-- 11 section 11.6: a clock frame has 18 bytes, a desk answer 5. -/
theorem test_line_frame_lengths :
    (ClockFrame.bytes { state := .idle, lot := none, price := none, result := none }).length = 18 ∧
      (DeskAnswer.bytes { desk := 14, answer := .taken, crates := 10 }).take 4 = [2, 14, 0, 10] := by decide
/-- R169: of an over-long run the last sixteen bytes are the frame; a run of fifteen bytes is short with CRC on. -/
theorem test_reception :
    (requestFrame true (.paymentIn 3105 5000)).map (fun f => (receive true (0xFF#8 :: f), receive true (f.take 15))) =
      some (.paymentIn 3105 5000, .shortFrame) := by decide +kernel
/-- R170, R171: a wrong check byte, a code that names nothing, a byte 14 that is not 0, and both (log 33). -/
theorem test_reception_rejects :
    receive true (List.replicate 15 1#8 ++ [0#8]) = .crcErr 1 ∧ receive false (List.replicate 15 0#8) = .unknownRequest 0 0 ∧
      receive false (1#8 :: List.replicate 13 0#8 ++ [7#8]) = .unknownRequest 1 7 ∧
      receive false (0#8 :: List.replicate 13 0#8 ++ [7#8]) = .unknownRequest 0 7 := by decide +kernel

/-! ## A hall: the records of the chapters' examples -/

/-- Snapshot of species 11 (02 section 2.13). -/
def species11 : Snapshot :=
  { start := 1450, withdrawal := 900, step := 5, interval := 250, levy := 5, restartSteps := 4, allowance := 40 }

/-- The cells of the examples: lanes 3 and 6 calibrated as in 02 section 2.13 and 01 section 1.13, lane 8 as lane 6; type 2 with tare
and deposit, type 5 with a deposit, species 11, bays 1 and 4, the tariff of 04 section 4.7. -/
def cells : StoreCells :=
  [ (RecordId.laneCal 2, [2, 0, 0, 0, 0x40, 0, 20, 3, 0x0D, 0x40]), (.laneCal 5, [3, 0x0D, 0x40, 1, 0, 0, 10, 0, 0xEA, 0x60]),
    (.laneCal 7, [3, 0x0D, 0x40, 1, 0, 0, 10, 0, 0xEA, 0x60]), (.crateTare 1, [7, 0x3A]), (.crateDeposit 1, [0, 250]),
    (.crateDeposit 4, [1, 44]), (.bayPulse 0, [9, 0xC4]), (.bayPulse 3, [9, 0xC4]),
    (.species 10, [0, 5, 0xAA, 0, 3, 0x84, 0, 0x14, 0xFA, 40, 5, 4]), (.tariff, [0, 30, 0, 0, 0, 10, 0, 0, 0, 100, 0, 120]) ].foldl
    (fun c r => c.set r.1 (.written r.2)) StoreCells.blank

/-- An account with crates of type 2 alone. -/
def account (number : Nat) (kind : AccountKind) (balance : Int) (limit holding committed liveLots deskCount : Nat) : Account :=
  { number, kind, state := .opened, balance, limit, reserved := 0, cls := 1, holding := #v[0, holding, 0, 0, 0, 0, 0, 0],
    committed := #v[0, committed, 0, 0, 0, 0, 0, 0], liveLots, deskCount }

/-- Boat 207, buyers 3105 and 3220, the suspended buyer 3107, and account 9999 with nothing outstanding. -/
def boat207 : Account := account 207 .boat (-10000) 100000 40 30 1 0
def buyer3105 : Account := account 3105 .buyer 25000 1000000 0 0 0 1
def buyer3107 : Account := { account 3107 .buyer 0 0 0 0 0 1 with state := .suspended }
def buyer3220 : Account := account 3220 .buyer 100000 200000 0 0 0 1
def buyer9999 : Account := account 9999 .buyer 0 200000 0 0 0 0

/-- Lot 0417/0 as CLOSE LOT leaves it (02 section 2.13). -/
def lot417 : Lot :=
  { Lot.opened { number := 417, part := 0 } 207 11 1 with
    state := .ready, division := some 20, n := 30, gross := some 452420,
    weighings :=
      [{ lane := 3, gross := 182340, crates := 12 }, { lane := 5, gross := 179960, crates := 12 },
        { lane := 3, gross := 90120, crates := 6 }],
    deductions := some { tare := 55500, allowance := 15876 }, net := some 381040, snapshot := some species11 }

/-- The hall in trade, after the first STATUS and the end of the detection suspension. -/
def hall : State :=
  { State.reset with
    lotTable := { lots := [lot417], counter := 418, day := 12, dayWrap := false }
    rostrumA := Rostrum.fresh [] (((Vector.replicate 96 none).set 13 (some 3105)).set 21 (some 3220) |>.set 39 (some 3107))
    accountTable :=
      { accounts := [boat207, buyer3105, buyer3107, buyer3220, buyer9999], recordCount := 5, balanceSum := 115000,
        hall := { HallCounters.zero with depositFloat := 10000, cashIn := 125000 }, totals := none }
    crates :=
      { CratePool.empty with types := (CratePool.empty.types.set 1 ⟨560, 600, 0⟩).set 4 ⟨200, 200, 0⟩ }
    ice := { State.reset.ice with stock := 30000000 }
    store := { State.reset.store with cells }
    supply := { State.reset.supply with suspend := none, cause := .none, restartFlag := false } }

/-- The state a command leaves, and the answer it leaves pending. -/
def after (c : Instr) (s : State) : State :=
  match exec c s with
  | .next t => t
  | .fault _ => s
  | .refused _ => s
def answered (c : Instr) (s : State) : Byte × List Byte := ((after c s).port.answer.code, (after c s).port.answer.data)

/-- Lot 0417/0 OPEN, before its closing. -/
def weighing : State :=
  hall.modLot { number := 417, part := 0 } fun l =>
    { l with state := .opened, deductions := none, net := none, snapshot := none }

/-- Lane 6 ACTIVE with the settings and the history of 01 section 1.13. -/
def lane6 : Lane :=
  { Lane.fresh true 0 1 4 with
    state := .active, window := [200003], samples := 32, zero := 200000, history := [2, 3, 3], silence := some 250,
    reading := some { filtered := 200003, gram := 3, legal := 0 } }
def lanes : State := weighing.modLane 5 fun _ => lane6

/-- Lane 6 with a pending weighing of 6 crates into 0417/0, one filtered value before it is stable. -/
def weighingOn6 : State :=
  (lanes.modLot { number := 417, part := 0 } fun l =>
      { l with n := 0, gross := some 0, division := none, weighings := [], pending := some { lane := 6, crates := 6 } }).modLane 5
    fun l =>
      { l with
        history := [4, 12406, 12392, 12397], zero := 200004, tracking := 4, window := [212401]
        weighing := some { key := { number := 417, part := 0 }, crates := 6, timer := 3000 } }

/-- 0417/0 on the clock of rostrum A at 1,235 after 43 steps (03 section 3.11). -/
def onClock : State :=
  (hall.modLot { number := 417, part := 0 } fun l => { l with state := .onClock, rostrum := some .a }).modRostrum .a fun x =>
    { x with state := .running, offer := some { key := { number := 417, part := 0 }, price := 1235, j := 43 }, stepTimer := some 60 }

/-- Rostrum A with 0417/0 in its queue. -/
def queued : State :=
  (hall.modLot { number := 417, part := 0 } fun l => { l with state := .queued, rostrum := some .a }).modRostrum .a fun x =>
    { x with queue := [{ number := 417, part := 0 }] }

/-- Bay 1 dispensing 2,000 kg for boat 207 with d grams delivered (07 section 7.8). -/
def iceOrder207 : IceOrder := IceOrder.taken 207 2000 40 2500
def dispensing (d : Nat) : State :=
  ((hall.modAccount 207 fun a => { a with reserved := 80000 }).modIce fun u => { u with reservation := 2000000 }).modBay 0 fun x =>
    { x.dispense iceOrder207 2000 with delivered := d }
def noWindow (d : Nat) : State :=
  (dispensing d).modStore fun st => { st with cells := st.cells.set .timing (.written [15, 160, 7, 208, 0, 0, 5, 220, 6, 2]) }
def runOn (pulses : Nat) : State :=
  (dispensing 2000000).modBay 0 fun x =>
    { x with state := .runOn, pulseTimer := none, runOnTimer := some 1500, release := false, runOnPulses := pulses }

/-- Buyer 3105 holds 10 crates of type 2 and returns 12 of them, and 2 of type 5, at gate 1 (06 section 6.7). -/
def returning : State :=
  ((hall.modAccount 3105 fun a => { a with holding := #v[0, 10, 0, 0, 0, 0, 0, 0] }).modCrateType 1 fun c =>
      { c with yard := 550 }).modGate 0 fun x =>
    { x with session := some { account := 3105, counted := #v[0, 12, 0, 0, 2, 0, 0, 0], rejected := 1 } }

/-- A write of record id held in the buffer. -/
def programming (id : RecordId) (contents : List Byte) : State := hall.modStore (·.begin id contents)

/-- The part in HOLD, and in other states of the supply monitor. -/
def supplyIn (state : SupplyState) : State :=
  hall.modSupply fun p =>
    { p with
      state, persistence := if state = .low then some 4 else none
      recovery := if state = .recovering then some 50 else none }

/-! ## The examples as single steps -/

/-- 01 section 1.13: the first sample is tracked. -/
theorem test_sample_tracks :
    let l := (after (.sampleFrame 5 0x80 200004#24) lanes).lane 5
    l.history = [2, 3, 3, 4] ∧ l.stable = true ∧ l.zero = 200004 ∧ l.tracking = 4 ∧
      l.reading = some { filtered := 200004, gram := 4, legal := 0 } := by decide +kernel
/-- 01 section 1.13: the last sample takes the weighing; the lot and the ticket queue gain it. -/
theorem test_weighing_taken :
    let t := after (.sampleFrame 5 0x80 212399#24) weighingOn6
    (t.lane 5).last =
        some
          { result := .taken, gross := some 12400, key := { number := 417, part := 0 }, number := some 1
            ticket := some .queued } ∧ (t.lane 5).tickets.length = 1 ∧ (t.lane 5).zero = 200004 ∧
      (t.lot? { number := 417, part := 0 }).map (fun l => (l.n, l.gross, l.division, l.pending)) =
        some (6, some 12400, some 10, none) := by decide +kernel
theorem test_open_lot :
    let t := after (.openLot 207 11 2) hall
    answered (.openLot 207 11 2) hall = (0, padTo 12 (be 2 418)) ∧ t.lotTable.counter = 419 ∧ t.lotTable.lots.length = 2 := by
  decide +kernel
theorem test_close_lot : answered (.closeLot 417 0) weighing = (0, padTo 12 (be 3 55500 ++ be 3 15876 ++ be 3 381040)) := by
  decide +kernel
/-- 03 section 3.11: the insertion into a WAITING rostrum starts the offer at 1,450. -/
theorem test_queue_lot_starts_offer :
    let t := after (.queueLot 417 0 0 1 0) (hall.modRostrum .a fun x => { x with state := .waiting })
    (t.rostrumA.state, t.rostrumA.offer, t.rostrumA.stepTimer, t.rostrumA.queue) =
      (.running, some { key := { number := 417, part := 0 }, price := 1450, j := 0 }, some 250, []) := by decide +kernel
/-- 04 section 4.7: the part press of desk 14. -/
theorem test_part_press :
    let t := after (.pressFrame .a 14 10 (crc8 [14, 10])) onClock
    (t.account? 3105).map (·.balance) = some (-135913) ∧
      (t.account? 207).map (fun a => (a.balance, a.holding[1], a.committed[1], a.liveLots)) = some (143856, 30, 20, 2) ∧
      (t.lot? { number := 417, part := 1 }).map (fun l => (l.n, l.net, l.restartPrice)) = some (20, some 254040, some 1255) ∧
      t.rostrumA.queue = [{ number := 417, part := 1 }] := by decide +kernel
/-- 04 section 4.7: the whole-lot press. -/
theorem test_whole_press :
    let t := after (.pressFrame .a 14 0 (crc8 [14, 0])) onClock
    (t.account? 3105).map (fun a => (a.balance, a.holding[1])) = some (-457790, 30) ∧
      (t.account? 207).map (fun a => (a.balance, a.holding[1], a.committed[1])) = some (451613, 10, 0) := by decide +kernel
/-- 03 section 3.11: desk 7 is not assigned; desk 40's buyer is suspended; 40 crates are more than the lot has. -/
theorem test_losing_presses :
    (after (.pressFrame .a 7 12 (crc8 [7, 12])) onClock).rostrumA.sending =
        some (.answer { desk := 7, answer := .unassigned, crates := 0 }) ∧
      (after (.pressFrame .a 40 0 (crc8 [40, 0])) onClock).rostrumA.sending =
        some (.answer { desk := 40, answer := .suspended, crates := 0 }) ∧
      (after (.pressFrame .a 14 40 (crc8 [14, 40])) onClock).rostrumA.sending =
        some (.answer { desk := 14, answer := .quantity, crates := 0 }) := by decide +kernel
/-- R72: the clock frame of a price step replaces the one that waits, never the one in transmission. -/
theorem test_clock_frame_in_transmission :
    let x := (after (.stepTimerExpiry .a) (after (.stepTimerExpiry .a) (after (.rostrumHold 0) onClock |>.modRostrum .a fun x =>
      { x with state := .running, stepTimer := some 0 }) |>.modRostrum .a fun x => { x with stepTimer := some 0 })).rostrumA
    (x.sending.map fun | .clock f => f.price | .answer _ => none, x.out.map fun | .clock f => f.price | .answer _ => none) =
      (some (some (1235, 43)), [some (1225, 45)]) := by decide +kernel
/-- R172: the pending answer with CRC on in 16 bytes, in 17 and in 2; data out in HOLD. -/
theorem test_data_out :
    let body := [0x00#8, 255#8, 9#8] ++ List.replicate 12 0#8
    (State.reset.dataOut 16, State.reset.dataOut 17, State.reset.dataOut 2, (supplyIn .hold).dataOut 16) =
      (some (body ++ [crc8 body]), some (body ++ [crc8 body] ++ [0]), some [0, 255], none) := by decide +kernel
/-- 05 section 5.10: the second PAYMENT OUT of boat 207 is refused with its available credit of 90,000. -/
theorem test_payment_out_refused : answered (.paymentOut 207 95000) hall = (10, padTo 12 (beInt 4 90000)) := by decide +kernel
theorem test_payment_in : answered (.paymentIn 3220 100000) hall = (0, padTo 12 (beInt 4 200000 ++ beInt 4 400000)) := by
  decide +kernel
/-- 06 section 6.7: the close credits 10 crates, takes 4 as excess, and pays 2,500 cents. -/
theorem test_return_close :
    let t := after (.returnClose 1) returning
    answered (.returnClose 1) returning = (0, padTo 12 (be 2 10 ++ be 2 4 ++ be 2 1 ++ be 4 2500)) ∧
      t.crateType 1 = { yard := 562, fleet := 602, strays := 2 } ∧ t.crateType 4 = { yard := 202, fleet := 202, strays := 2 } := by
  decide +kernel
/-- 06 section 6.7: boat 207's free crates are 10, fewer than 15. -/
theorem test_transfer_short : (answered (.crateTransfer 207 3105 2 15) hall).1 = 11 := by decide +kernel
/-- 07 section 7.8: the pulse that reaches the target shuts the gate. -/
theorem test_target_pulse :
    let b := (after (.bayPulse 0) (dispensing 1997500)).bay 0
    (b.state, b.delivered, b.release, b.pulseTimer, b.runOnTimer) = (.runOn, 2000000, false, none, some 1500) := by decide +kernel
/-- R162: at 4.25 V a part with level code 6 and filter code 2 enters LOW with 4 ms. -/
theorem test_sag :
    (after (.supplyFall 4250) hall).supply.state = .low ∧ (after (.supplyFall 4250) hall).supply.persistence = some 4 ∧
      (after (.supplyFall 4300) hall).supply.state = .normal := by decide +kernel
/-- R158: a VALID protection word is copied into the active flags. -/
theorem test_load_protection :
    let t := after .loadProtection (hall.modStore fun st => { st with cells := st.cells.set .protection (.written [3]) })
    (t.store.activeTariff, t.store.activeTiming) = (true, true) := by decide +kernel
/-- R154: a write beyond its ranges is refused, a write within them is held. -/
theorem test_store_write :
    (answered (.storeWrite 0x32 (padTo 12 [0x27, 0x11])) hall).1 = 9 ∧
      (answered (.storeWrite 0x35 (padTo 12 [0x27, 0x10])) hall).1 = 1 ∧
      (answered (.storeWrite 0x32 (padTo 12 [0, 251])) hall).1 = 20 := by decide +kernel
/-- No row of the table has bits. -/
theorem test_table_word : decodeTableWord 128 0x01 = none := rfl

/-! ## For every statement, a state and operands that meet its hypotheses -/

/-- The key 0417/0. -/
def k417 : Key := { number := 417, part := 0 }

theorem test_meets_StepTakesTheOldestCommand :
    ({ hall with pending := [.status, .dayClose] } : State).pending = .status :: [.dayClose] := rfl
theorem test_meets_EmptyQueueLetsOneMillisecondPass : hall.pending = [] := rfl
theorem test_meets_OutsideTradingNothingIsTaken :
    Instr.ofSupply .status = false ∧ (supplyIn .hold).trading = false ∧
      (hall.modSupply (·.setPin true) |>.beginStart .resetLine).trading = false ∧ (after .supplyAbsent hall).trading = false := by
  decide +kernel
theorem test_meets_RefusedRequestChangesNothing :
    encodeRequest (.laneZero 9) = some (frameBody 0x11 [9] 0) ∧ hall.trading = true ∧
      exec (.laneZero 9) hall = .next (after (.laneZero 9) hall) ∧ 3 ≤ (after (.laneZero 9) hall).port.answer.code.toNat :=
  ⟨by decide, by decide, rfl, by decide +kernel⟩
/-- BUSY, the least refusing code, is the boundary. -/
theorem test_meets_RefusedRequestChangesNothing_busy :
    hall.trading = true ∧ (after .dayClose onClock).port.answer.code.toNat = 3 := by decide +kernel
theorem test_meets_AnswerNamesItsRequest :
    encodeRequest (.laneRead 8 3) = some (0x12 :: ([8] ++ List.replicate 11 0 ++ [3, 0])) ∧ hall.trading = true ∧
      exec (.laneRead 8 3) hall = .next (after (.laneRead 8 3) hall) := ⟨by decide, by decide, rfl⟩
theorem test_meets_EncodedRequestsAreReceived :
    (Instr.fleetAdjust 255 (-2147483648)).wf = true ∧
      requestFrame false (.fleetAdjust 255 (-2147483648)) = some (frameBody 0x54 [255, 0x80, 0, 0, 0] 0) ∧
      (requestFrame true (.fleetAdjust 255 (-2147483648))).isSome = true := by decide

/-! ### The invariants hold in the hall and in the middle of its work -/

theorem test_meets_accounts :
    hall.accountTable.Tallied ∧ hall.accountTable.Balanced ∧ hall.accountTable.Floored ∧ hall.lotTable.Sound := by
  unfold AccountTable.Tallied AccountTable.Balanced AccountTable.Floored LotTable.Sound; decide +kernel
theorem test_meets_ice_books : (dispensing 400000).IceBooks ∧ (dispensing 400000).accountTable.Balanced := by
  unfold State.IceBooks Bay.Sound AccountTable.Balanced; decide +kernel
theorem test_meets_lane : weighingOn6.lanes[5].Sound := by unfold Lane.Sound; decide +kernel
/-- A rostrum in the middle of an offer, and one with a frame in transmission. -/
theorem test_meets_rostrum : onClock.rostrumA.Sound ∧ (after (.rostrumHold 0) onClock).rostrumA.Sound ∧
    (after (.rostrumHold 0) onClock).rostrumA.sending.isSome = true := by unfold Rostrum.Sound; decide +kernel
theorem test_meets_store : hall.store.Sound := by
  refine ⟨fun id => ?_, fun b hb => by simp [show hall.store.buffer = none from rfl] at hb⟩
  unfold StoreRecord.Sound
  cases id <;> first | (rename_i i; revert i; decide +kernel) | decide +kernel
theorem test_meets_supply_and_port : (supplyIn .low).supply.Sound ∧ hall.port.Sound := by
  unfold Supply.Sound Port.Sound; decide +kernel
/-- An ice order whose wheel has stood still for the whole pulse timeout. -/
def jammed : State := (dispensing 400000).modBay 0 fun x => { x with pulseTimer := some 0 }
theorem test_meets_steps :
    step { onClock with pending := [.pressFrame .a 14 10 (crc8 [14, 10])] } =
      .next (after (.pressFrame .a 14 10 (crc8 [14, 10])) onClock) ∧
      step { jammed with pending := [.pulseTimerExpiry 0] } = .next (after (.pulseTimerExpiry 0) jammed) := ⟨rfl, rfl⟩
/-- Desk 14's part press, waiting for the next step. -/
def pressing : State := { onClock with pending := [.pressFrame .a 14 10 (crc8 [14, 10])] }
theorem test_meets_linked_on_clock : pressing.Linked where
  keyed := by unfold LotTable.Keyed; decide +kernel
  nodup := by intro r; cases r <;> decide +kernel
  queued := by intro r; cases r <;> decide +kernel
  inQueue := fun l hl hs => absurd hs ((by decide +kernel : ∀ l ∈ pressing.lotTable.lots, l.state ≠ .queued) l hl)
  onClock := by intro r; cases r <;> decide +kernel
  offered := fun l hl _ =>
    ⟨.a, (by decide +kernel : ∀ l ∈ pressing.lotTable.lots, l.rostrum = some .a ∧
      (pressing.supply.absent = false → ∃ o ∈ (pressing.rostrum .a).offer, o.key = l.key)) l hl⟩
  oneOnClock := by decide +kernel
  pending := by decide +kernel
  weighing := by decide +kernel
  still := fun h => absurd h (by decide +kernel)
theorem test_meets_linked_weighing : weighingOn6.Linked where
  keyed := by unfold LotTable.Keyed; decide +kernel
  nodup := by intro r; cases r <;> decide +kernel
  queued := by intro r; cases r <;> decide +kernel
  inQueue := fun l hl hs => absurd hs ((by decide +kernel : ∀ l ∈ weighingOn6.lotTable.lots, l.state ≠ .queued) l hl)
  onClock := by intro r; cases r <;> decide +kernel
  offered := fun l hl hs => absurd hs ((by decide +kernel : ∀ l ∈ weighingOn6.lotTable.lots, l.state ≠ .onClock) l hl)
  oneOnClock := by decide +kernel
  pending := by decide +kernel
  weighing := by decide +kernel
  still := fun h => absurd h (by decide +kernel)
/-- The ranges, the calibrations, the counts and the deposit books, with a lot on the clock. -/
theorem test_meets_StepKeepsTheLotsSound :
    pressing.store.Sound ∧ pressing.lotTable.Sound ∧ pressing.Linked ∧ pressing.Calibrated ∧ pressing.lotTable.Ranged := by
  refine ⟨test_meets_store, ?_, test_meets_linked_on_clock, ?_, fun l hl => ?_⟩
  · unfold LotTable.Sound; decide +kernel
  · unfold State.Calibrated; decide +kernel
  · obtain rfl := (by decide +kernel : ∀ l ∈ pressing.lotTable.lots, l = { lot417 with state := .onClock, rostrum := some .a }) l hl
    constructor <;> decide +kernel
theorem test_meets_counted : pressing.Counted where
  desks := by decide +kernel
  lots := by decide +kernel
  boats := by decide +kernel
  buyers := by intro r; cases r <;> decide +kernel
theorem test_meets_deposit_books : pressing.DepositBooks := ⟨by decide +kernel, by decide +kernel⟩
/-- A pending weighing at an ACTIVE lane. -/
theorem test_meets_ranged_weighing : weighingOn6.lotTable.Ranged ∧ weighingOn6.Calibrated := by
  refine ⟨fun l hl => ?_, by unfold State.Calibrated; decide +kernel⟩
  obtain rfl :=
    (by decide +kernel :
      ∀ l ∈ weighingOn6.lotTable.lots,
        l = { Lot.opened k417 207 11 1 with pending := some { lane := 6, crates := 6 } }) l hl
  constructor <;> decide +kernel
theorem test_meets_StepConservesCrates :
    pressing.accountTable.Tallied ∧ (∀ r, (pressing.rostrum r).Sound) ∧ pressing.Linked ∧ pressing.CrateBooks ∧
      pressing.store.Sound ∧ pressing.DepositBooks ∧
      step pressing = .next (after (.pressFrame .a 14 10 (crc8 [14, 10])) onClock) := by
  refine ⟨test_meets_accounts.1, fun r => ?_, test_meets_linked_on_clock, ⟨?_, ?_, ?_, ?_⟩, test_meets_store,
    test_meets_deposit_books, rfl⟩
  · cases r <;> unfold Rostrum.Sound <;> decide +kernel
  · unfold State.Conserved; decide +kernel
  all_goals decide +kernel
theorem test_meets_StepKeepsTheLotsAndTheQueuesLinked :
    (∀ r, (pressing.rostrum r).Sound) ∧ pressing.Linked ∧ pressing.accountTable.Tallied ∧ pressing.Counted :=
  ⟨test_meets_StepConservesCrates.2.1, test_meets_linked_on_clock, test_meets_accounts.1, test_meets_counted⟩

/-! ### Lanes -/

/-- Every clause: lane 8 OFF, lane 1 with an INVALID record, lane 6 ACTIVE, with a weighing pending and in FAULT, at k = 4, band
code 3, M = 15 and at its stored settings. -/
theorem test_meets_LaneSetActsAsR15 :
    hall.trading = true ∧ unitIndex? 8 8 = some 7 ∧ (hall.lane 7).state = .off ∧
      hall.store.laneCal? 7 = some { zero := 200000, span := 65536, e := 10, max := 60000 } ∧
      unitIndex? 8 1 = some 0 ∧ (hall.lane 0).state = .off ∧ hall.store.laneCal? 0 = none ∧ unitIndex? 8 6 = some 5 ∧
      (lanes.lane 5).state = .active ∧ (lanes.lane 5).weighing = none ∧ (lanes.lane 5).m ≠ 15 ∧
      ((lanes.lane 5).k, (lanes.lane 5).band, (lanes.lane 5).m, (lanes.lane 5).enabled) = (0, 1, 4, true) ∧
      (weighingOn6.lane 5).state = .active ∧ (weighingOn6.lane 5).weighing = some { key := k417, crates := 6, timer := 3000 } ∧
      (weighingOn6.lot? k417).isSome = true ∧ (weighingOn6.lane 5).band ≠ 3 ∧
      ((lanes.modLane 5 fun l => { l with state := .fault, cause := some .silent }).lane 5).state = .fault := by decide +kernel
theorem test_meets_LaneZeroSetsZ :
    let s := lanes.modLane 5 fun l =>
      { l with stable := true, reading := some { filtered := 201200, gram := 1200, legal := 1200 } }
    s.trading = true ∧ unitIndex? 8 6 = some 5 ∧ (s.lane 5).state ≠ .off ∧ (s.lane 5).weighing = none ∧
      (s.lane 5).stable = true ∧ (s.lane 5).reading = some { filtered := 201200, gram := 1200, legal := 1200 } ∧
      50 * (gramsOf (s.store.laneCal 5) (201200 - (s.store.laneCal 5).zero)).natAbs = (s.store.laneCal 5).max := by decide +kernel
/-- A window of one sample and a full one of sixteen; SETTLING at its 31st and its 32nd sample; an overrange frame; a pending weighing
whose load does not come to rest. -/
theorem test_meets_GoodSampleWeighs :
    let settling (n : Nat) := lanes.modLane 5 fun l => { l with state := .settling, samples := n }
    let l' := ({ weighingOn6.lane 5 with badRun := 0 }.accept (212500#24).toInt).newValue (weighingOn6.store.laneCal 5)
    lanes.trading = true ∧ (lanes.lane 5).state = .active ∧ (lanes.lane 5).weighing = none ∧
      evenParity 0x80 200004#24 = true ∧ (0x80 : Byte).getLsbD 6 = false ∧ 1 ∈ [1, 2, 4, 8, 16] ∧
      (lastN (2 ^ (lanes.lane 5).k) ((lanes.lane 5).window ++ [(200004#24).toInt])).length = 1 ∧
      (lastN (2 ^ 4) (List.replicate 16 200000 ++ [(200004#24).toInt])).length = 16 ∧
      ((settling 30).lane 5).state = .settling ∧
      ((after (.sampleFrame 5 0x80 200004#24) (settling 30)).lane 5).state = .settling ∧
      ((after (.sampleFrame 5 0x80 200004#24) (settling 31)).lane 5).state = .active ∧
      evenParity 0x40 200004#24 = true ∧ (0x40 : Byte).getLsbD 6 = true ∧ (weighingOn6.lane 5).weighing.isSome = true ∧
      l'.stable = false := by decide +kernel
/-- A lane that is OFF, ACTIVE with and without a weighing, and in FAULT, at the boundaries of both runs. -/
theorem test_meets_BadFramesAndSilenceLeadToFault :
    let faulty (n : Nat) := lanes.modLane 5 fun l => { l with state := .fault, cause := some .parity, goodRun := n, silence := some 0 }
    let silent := lanes.modLane 5 fun l => { l with silence := some 0 }
    let both := weighingOn6.modLane 5 fun l => { l with silence := some 0 }
    evenParity 0x00 200004#24 = false ∧ evenParity 0x80 200004#24 = true ∧ lanes.trading = true ∧ (hall.lane 5).state = .off ∧
      (lanes.lane 5).state = .active ∧ (lanes.lane 5).weighing = none ∧ (lanes.lane 5).badRun < 7 ∧
      ((lanes.modLane 5 fun l => { l with badRun := 7 }).lane 5).badRun = 7 ∧ (silent.lane 5).silence = some 0 ∧ (silent.lane 5).state = .active ∧
      (silent.lane 5).weighing = none ∧ (lanes.lane 5).silence ≠ some 0 ∧
      (weighingOn6.lane 5).weighing = some { key := k417, crates := 6, timer := 3000 } ∧ (weighingOn6.lot? k417).isSome = true ∧
      (both.lane 5).silence = some 0 ∧ (both.lane 5).weighing.isSome = true ∧ ((faulty 14).lane 5).state = .fault ∧ ((faulty 14).lane 5).goodRun < 15 ∧
      ((faulty 15).lane 5).goodRun = 15 ∧ ((faulty 15).lane 5).silence = some 0 := by decide +kernel
theorem test_meets_StabilityExpiryEndsTheWeighing :
    let s := weighingOn6.modLane 5 fun l => { l with weighing := l.weighing.map fun p => { p with timer := 0 } }
    s.trading = true ∧ (s.lane 5).weighing = some { key := k417, crates := 6, timer := 0 } ∧ (s.lot? k417).isSome = true ∧
      weighingOn6.trading = true ∧ (weighingOn6.lane 5).weighing = some { key := k417, crates := 6, timer := 3000 } := by
  decide +kernel
theorem test_meets_StableWeighingCompletes :
    let s := weighingOn6
    let l' := ({ s.lane 5 with badRun := 0, silence := some 250 }.accept (212399#24).toInt).newValue (s.store.laneCal 5)
    s.trading = true ∧ (s.lane 5).state = .active ∧ (s.lane 5).weighing = some { key := k417, crates := 6, timer := 3000 } ∧
      evenParity 0x80 212399#24 = true ∧ (0x80 : Byte).getLsbD 6 = false ∧ (s.lot? k417).map (·.gross) = some (some 0) ∧
      l'.stable = true ∧ l'.reading = some { filtered := 212399, gram := 12395, legal := 12400 } ∧
      20 * ((s.store.laneCal 5).e : Int) ≤ 12400 ∧ (0 : Int) + 12400 ≤ 9600000 ∧ (s.lane 5).tickets.length < 4 := by decide +kernel
/-- The other endings: 190 g at e = 10, below the minimum of 200; a lot of 9,587,600 g, which 12,400 g fill exactly, and one of 10 g
more, beyond the limit; and a ticket queue of four. -/
theorem test_meets_StableWeighingCompletes_endings :
    let light := weighingOn6.modLane 5 fun l => { l with history := [4, 188, 189, 190], window := [200194] }
    let lot (g : Nat) := weighingOn6.modLot k417 fun l => { l with gross := some g }
    let busy := weighingOn6.modLane 5 fun l => { l with tickets := List.replicate 4 [65#8] }
    let result (s : State) (status : Byte) (w : Count24) :=
      ((after (.sampleFrame 5 status w) s).lane 5).last.map fun x => (x.result, x.gross, x.ticket)
    evenParity 0x80 200197#24 = true ∧ result light 0x80 200197#24 = some (.underMinimum, some 190, none) ∧
      result (lot 9587600) 0x80 212399#24 = some (.taken, some 12400, some .queued) ∧
      result (lot 9587610) 0x80 212399#24 = some (.limit, some 12400, none) ∧
      result busy 0x80 212399#24 = some (.taken, some 12400, some .dropped) := by decide +kernel

/-! ### Lots -/

/-- R25's example: the counter at 9,998 with the lots 9998/0 and 0001/0 living, one number skipped; and at 9,999, none. -/
theorem test_meets_OpenLotTakesTheNextNumber :
    let lot (n : Nat) : Lot := { lot417 with key := { number := n, part := 0 } }
    let s (c : Nat) := { hall with lotTable := { hall.lotTable with lots := [lot 1, lot 9998], counter := c } }
    let number (c j : Nat) := (c - 1 + j) % 9999 + 1
    (s 9998).trading = true ∧ unitIndex? 64 11 = some 10 ∧ unitIndex? 8 2 = some 1 ∧ (s 9998).account? 207 = some boat207 ∧
      boat207.kind = .boat ∧ boat207.state = .opened ∧ ((s 9998).store.species? 10).isSome = true ∧
      ((s 9998).store.tare? 1).isSome = true ∧ ((s 9998).store.deposit? 1).isSome = true ∧
      (s 9998).lotTable.lots.length < 1024 ∧ (number 9998 0, number 9998 1, number 9999 0) = (9998, 9999, 9999) ∧
      (∃ l ∈ (s 9998).lotTable.lots, l.key = { number := 9998, part := 0 }) ∧
      (∀ l ∈ (s 9998).lotTable.lots, l.key ≠ { number := 9999, part := 0 }) ∧
      (after (.openLot 207 11 2) (s 9998)).lotTable.counter = 1 := by decide +kernel
/-- The ten free crates of boat 207, all asked for. -/
theorem test_meets_TakeWeighingCommitsAndHandsIn :
    let s := lanes.modLot k417 fun l => { l with division := some 10 }
    s.trading = true ∧ unitIndex? 8 6 = some 5 ∧ (s.lot? k417).map (fun l => (l.state, l.pending, l.division)) =
      some (.opened, none, some 10) ∧ (s.lane 5).weighing = none ∧ (s.lane 5).state = .active ∧
      (s.lot? k417).map (fun l => (l.weighings.length, l.n + 10, l.boat)) = some (3, 40, 207) ∧ (s.store.laneCal 5).e = 10 ∧
      s.account? 207 = some boat207 ∧ boat207.holding[1] - boat207.committed[1] = 10 := by decide +kernel
theorem test_meets_CloseLotValuesTheLot :
    weighing.trading = true ∧
      (weighing.lot? k417).map (fun l => (l.state, l.pending, l.weighings.length)) = some (.opened, none, 3) ∧
      (weighing.lot? k417).map (fun l => (l.gross, l.division, l.n, l.species)) = some (some 452420, some 20, 30, 11) ∧
      unitIndex? 64 11 = some 10 ∧ weighing.store.species? 10 = some species11 ∧ weighing.store.tare? 1 = some 1850 := by
  decide +kernel
/-- Below the minimum: 1,000 g gross of one crate of 600 g at division 20; and G below T, where A is 0 and N negative. -/
theorem test_meets_CloseLotValuesTheLot_short :
    ((1000 - 600 - (1000 - 600) * 40 / 1000) / 20 * 20 : Int) < 20 * 20 ∧ ¬ (0 : Int) < 452420 - 255 * 1850 ∧
      ((452420 - 255 * 1850 - 0) / 20 * 20 : Int) = -19340 := by decide
theorem test_meets_RetirementsRemoveTheLot :
    (weighing.lot? k417).map (fun l => (l.state, l.pending)) = some (.opened, none) ∧
      (hall.lot? k417).map (·.state) = some .ready ∧
      ((hall.modLot k417 fun l => { l with state := .unsold }).lot? k417).map (·.state) = some .unsold ∧
      ((hall.modLot k417 fun l => { l with state := .sold }).lot? k417).map (·.state) = some .sold ∧
      (∀ l ∈ hall.lotTable.lots, l.key.number = 417 → l.key.part = 0) ∧ hall.trading = true := by decide +kernel
/-- Rostrum B WAITING with lot 0009/0 in its queue, a state no run reaches. -/
def waitingB : State :=
  let lot9 : Lot := { lot417 with key := { number := 9, part := 0 }, state := .queued, rostrum := some .b }
  { hall with lotTable := { hall.lotTable with lots := [lot9, lot417] } }.modRostrum .b fun x =>
    { x with state := .waiting, queue := [{ number := 9, part := 0 }] }
/-- Both positions on an IDLE and on a WAITING rostrum, at the lowest and highest override, and a queued lot. -/
theorem test_meets_QueueAndUnqueueMoveTheLot :
    (hall.lot? k417).map (fun l => (l.state, l.snapshot)) = some (.ready, some species11) ∧ species11.withdrawal ≤ 900 ∧
      species11.withdrawal ≤ 99999 ∧ (hall.rostrum .a).queue.length < 128 ∧ (hall.rostrum .a).state ≠ .waiting ∧
      (waitingB.rostrum .b).state = .waiting ∧ (waitingB.rostrum .b).queue = { number := 9, part := 0 } :: [] ∧
      (waitingB.lot? { number := 9, part := 0 }).map (·.snapshot) = some (some species11) ∧
      (hall.rostrum .b).queue = [] ∧
      (queued.lot? k417).map (fun l => (l.state, l.rostrum)) = some (.queued, some .a) := by decide +kernel
theorem test_meets_DayCloseStartsADay :
    hall.trading = true ∧ hall.rostrumA.state = .idle ∧ hall.rostrumB.state = .idle ∧ onClock.rostrumA.state ≠ .idle := by
  decide +kernel

/-! ### Rostra -/

theorem test_meets_OffersStartOnTheQueueHead :
    let s := queued.modRostrum .a fun x => { x with state := .showing, showTimer := some 0 }
    let t := hall.modRostrum .b fun x => { x with state := .showing, showTimer := some 0 }
    queued.trading = true ∧ (queued.rostrum .a).queue = k417 :: [] ∧
      (queued.lot? k417).map (·.snapshot) = some (some species11) ∧ (queued.rostrum .a).state = .idle ∧
      (s.rostrum .a).queue = k417 :: [] ∧ (s.rostrum .a).showTimer = some 0 ∧
      (t.rostrum .b).queue = [] ∧ (t.rostrum .b).offer = none ∧ (t.rostrum .b).showTimer = some 0 ∧
      (queued.rostrum .a).showTimer ≠ some 0 ∧ (hall.rostrum .b).queue = [] ∧ (hall.rostrum .b).offer = none ∧ (hall.rostrum .b).state = .idle := by decide +kernel
/-- A price one step above the withdrawal price falls to it; one cent lower, the lot ends. -/
theorem test_meets_StepExpiryLowersThePrice :
    let s (price : Nat) := onClock.modRostrum .a fun x =>
      { x with offer := some { key := k417, price, j := 109 }, stepTimer := some 0 }
    onClock.trading = true ∧ (onClock.rostrum .a).stepTimer ≠ some 0 ∧ ((s 905).rostrum .a).state = .running ∧
      ((s 905).rostrum .a).stepTimer = some 0 ∧
      ((s 905).rostrum .a).offer = some { key := k417, price := 905, j := 109 } ∧
      (onClock.lot? k417).map (·.snapshot) = some (some species11) ∧ species11.withdrawal + species11.step = 905 ∧
      ((s 904).rostrum .a).offer = some { key := k417, price := 904, j := 109 } := by decide +kernel
/-- Every state, and a STOP with a full queue, which loses its tail. -/
theorem test_meets_HoldResumeAndStop :
    let held := after (.rostrumHold 0) onClock
    let full := onClock.modRostrum .a fun x => { x with queue := List.replicate 128 { number := 9, part := 0 } }
    (onClock.rostrum .a).offer = some { key := k417, price := 1235, j := 43 } ∧
      (onClock.lot? k417).map (·.snapshot) = some (some species11) ∧ (onClock.rostrum .a).state = .running ∧
      (held.rostrum .a).state = .held ∧ (held.rostrum .a).offer = some { key := k417, price := 1235, j := 43 } ∧
      (onClock.rostrum .a).displaces (some k417) = none ∧ (full.rostrum .a).displaces (some k417) = some { number := 9, part := 0 } ∧
      (waitingB.rostrum .b).state = .waiting ∧
      ((hall.modRostrum .a fun x => { x with state := .showing }).rostrum .a).state = .showing := by decide +kernel
theorem test_meets_DesksAreAssignedAndReleased :
    hall.trading = true ∧ unitIndex? 96 96 = some 95 ∧ hall.account? 9999 = some buyer9999 ∧ buyer9999.kind = .buyer ∧
      buyer9999.state = .opened ∧ (hall.rostrum .a).desk 95 = none ∧ unitIndex? 96 14 = some 13 ∧
      (hall.rostrum .a).desk 13 = some 3105 := by decide +kernel

/-! ### Booking -/

/-- The part of one crate, and of all but one. -/
theorem test_meets_PartNetIsR79 :
    0 < 20 ∧ 0 < 1 ∧ 1 < 30 ∧ 29 < 30 ∧ lot417.net = some ((381040 : Nat) : Int) ∧ lot417.n = 30 ∧ lot417.division = some 20 := by
  decide
theorem test_meets_SaleAmountIsR80 : 9600000 ≤ 9600000 ∧ (valuate 9600000 99999 1 80 50 50 0).amount = 959990400 := by decide
theorem test_meets_ChargesAreR81 :
    (valuate 1000 1 1 80 50 0 0).amount = 1 ∧ (valuate 1000 1 1 80 50 0 0).commission + (valuate 1000 1 1 80 50 0 0).levy ≤ 1 := by
  decide
/-- Desk 14 presses for the whole lot, with quantity 0 and with quantity 30. -/
theorem test_meets_WholeLotPressIsBooked :
    onClock.trading = true ∧ unitIndex? 96 (14 : Byte).toNat = some 13 ∧ (onClock.rostrum .a).state = .running ∧
      (onClock.rostrum .a).desk 13 = some 3105 ∧ onClock.account? 3105 = some buyer3105 ∧ buyer3105.state = .opened ∧
      (onClock.rostrum .a).offer = some { key := k417, price := 1235, j := 43 } ∧
      (onClock.lot? k417).map (fun l => (l.n, l.boat, l.net, l.snapshot)) =
        some (30, 207, some ((381040 : Nat) : Int), some species11) ∧
      onClock.account? 207 = some boat207 ∧ (onClock.store.tariff?).isSome = true ∧ onClock.store.deposit? 1 = some 250 ∧
      (470584 + 4706 + 7500 : Int) ≤ buyer3105.available ∧ boat207.balance + 461613 ≤ 2000000000 := by decide +kernel
/-- Desk 14 presses for 10 of 30 crates (04 section 4.7): the part net is 127,000, and a full queue loses its tail. -/
theorem test_meets_PartPressQueuesTheRemainder :
    onClock.trading = true ∧ unitIndex? 96 (14 : Byte).toNat = some 13 ∧ (onClock.rostrum .a).state = .running ∧
      (onClock.rostrum .a).desk 13 = some 3105 ∧ onClock.account? 3105 = some buyer3105 ∧ buyer3105.state = .opened ∧
      (onClock.rostrum .a).offer = some { key := k417, price := 1235, j := 43 } ∧
      (onClock.lot? k417).map (fun l => (l.n, l.boat, l.net, l.division)) =
        some (30, 207, some ((381040 : Nat) : Int), some 20) ∧
      (onClock.lot? k417).map (·.snapshot) = some (some species11) ∧ 0 < (10 : Byte).toNat ∧ (10 : Byte).toNat < 30 ∧
      381040 * 10 / (30 * 20) * 20 = 127000 ∧ 20 * 20 ≤ 381040 - 127000 ∧ onClock.lotTable.lots.length < 1024 ∧
      onClock.account? 207 = some boat207 ∧ (onClock.store.tariff?).isSome = true ∧ onClock.store.deposit? 1 = some 250 ∧
      (156845 + 1568 + 2500 : Int) ≤ buyer3105.available ∧ boat207.balance + (156845 - 4705 - 784 + 2500) ≤ 2000000000 ∧
      ((onClock.rostrum .a).takes (some k417)).queue = [k417] := by decide +kernel
theorem test_full_queue_displaces :
    let x := Rostrum.fresh (List.replicate 127 { number := 1, part := 0 } ++ [{ number := 2, part := 0 }]) (Vector.replicate 96 none)
    x.displaces (some k417) = some { number := 2, part := 0 } ∧ (x.takes (some k417)).queue.length = 128 ∧
      (x.takes (some k417)).displacedCount = 1 := by decide +kernel
/-- Every clause: states, desks 0 and 97, an unassigned and a suspended desk, 31 crates of 30, part 7, a part of one crate of a lot of
little net, no tariff, a buyer without credit and a boat at the limit of its balance. -/
theorem test_meets_LosingPressesAreAnswered :
    let bare := onClock.modStore fun st => { st with cells := st.cells.set .tariff (StoreRecord.blank 12) }
    let poor := { buyer3105 with limit := 0 }
    let rich := { boat207 with balance := 2000000000 }
    hall.trading = true ∧ (0 : Byte).toNat < 1 ∧ 96 < (97 : Byte).toNat ∧ (0 : Byte) ≠ crc8 [14, 0] ∧
      unitIndex? 96 (96 : Byte).toNat = some 95 ∧ (hall.rostrum .a).state = .idle ∧
      ((hall.modRostrum .a fun x => { x with state := .showing }).rostrum .a).state = .showing ∧
      (onClock.rostrum .a).desk 95 = none ∧ (onClock.rostrum .a).desk 39 = some 3107 ∧
      (onClock.account? 3107).map (·.state) = some .suspended ∧ (onClock.rostrum .a).desk 13 = some 3105 ∧
      (onClock.account? 3105).map (·.state) = some .opened ∧ (onClock.lot? k417).map (·.n) = some 30 ∧ 30 < (31 : Byte).toNat ∧
      (onClock.account? 207).isSome = true ∧ (1 : Byte).toNat < 30 ∧ 11980 * 1 / (30 * 20) * 20 < 20 * 20 ∧
      12000 * 1 / (30 * 20) * 20 = 20 * 20 ∧ (bare.account? 207).isSome = true ∧ bare.store.tariff? = none ∧
      poor.available < (470584 + 4706 + 7500 : Int) ∧ 2000000000 < rich.balance + (470584 - 14118 - 2353 + 7500) ∧
      (after (.pressFrame .a 14 0 (crc8 [14, 0])) (onClock.modAccount 3105 fun a => { a with limit := 0 })).rostrumA.sending =
        some (.answer { desk := 14, answer := .credit, crates := 0 }) := by decide +kernel
/-- Frames in transmission and waiting, an idle line, a clock frame behind an answer, and sixteen answers. -/
theorem test_meets_SentFramesLeaveTheirQueues :
    let late : OutFrame := .answer { desk := 96, answer := .late, crates := 0 }
    let old : OutFrame := .clock { state := .idle, lot := none, price := none, result := none }
    let s := (hall.modLane 7 fun l => { l with tickets := [[65#8]] }).modRostrum .b fun x =>
      { x with sending := some old, out := [late, old, late] }
    let full := { hall.rostrumB with sending := some late, out := List.replicate 15 late }
    s.trading = true ∧ (s.lane 7).tickets = [65#8] :: [] ∧ (s.rostrum .b).out = late :: [old, late] ∧
      (s.rostrum .b).out = [late] ++ old :: [late] ∧ late.isAnswer = true ∧ (s.rostrum .b).sending = some old ∧
      (hall.rostrum .b).out = [] ∧ (hall.rostrum .b).sending = none ∧ full.sending = some late ∧
      (∀ y ∈ full.out, y.isAnswer = true) ∧ ((full.sending.toList ++ full.out).filter (·.isAnswer)).length = 16 := by
  decide +kernel

/-! ### Accounts, crates, ice -/

/-- ADD ACCOUNT of number 1, ACCOUNT SET of 207 with presence 7 and limit 0 (clamped), CLOSE ACCOUNT of 9999. -/
theorem test_meets_AccountsAreAddedSetAndClosed :
    hall.trading = true ∧ hall.account? 1 = none ∧ hall.accountTable.accounts.length < 512 ∧ hall.account? 207 = some boat207 ∧
      (0 : Int) < (boat207.reserved : Int) - boat207.balance ∧ hall.account? 9999 = some buyer9999 ∧ buyer9999.balance = 0 ∧
      buyer9999.reserved = 0 ∧ (∀ t : Fin 8, buyer9999.holding[t] = 0) ∧ buyer9999.liveLots = 0 ∧ buyer9999.deskCount = 0 ∧
      (∀ b, ∀ o ∈ (hall.bay b).order, o.account ≠ 9999) ∧ (∀ g, ∀ w ∈ (hall.gate g).session, w.account ≠ 9999) := by
  decide +kernel
theorem test_meets_PaymentsAreR103AndR104 :
    hall.trading = true ∧ hall.account? 207 = some boat207 ∧ hall.account? 1 = none ∧ boat207.available = 90000 := by decide +kernel
theorem test_meets_ReadsChangeOnlyWhatTheyClear :
    hall.trading = true ∧ unitIndex? 8 8 = some 7 ∧ hall.lot? k417 = some lot417 ∧
      hall.lotTable.lots.find? (fun l => Key.before { number := 0, part := 0 } l.key) = some lot417 ∧
      hall.account? 9999 = some buyer9999 ∧ buyer9999 ∈ hall.accountTable.accounts ∧ 3220 < buyer9999.number ∧
      (∀ b ∈ hall.accountTable.accounts, 3220 < b.number → 9999 ≤ b.number) ∧ hall.account? 1 = none ∧
      ((after (.hallTotals 0) hall).accountTable.totals).isSome = true ∧ unitIndex? 4 4 = some 3 ∧
      RecordId.ofSelector 0x83 = some .lock ∧ RecordId.ofSelector 0x01 = some (.laneCal 0) := by decide +kernel
/-- R100: an ACCOUNT READ that is taken, of an account that does not exist, and of a page that is not in the table. -/
theorem test_account_read_carries_the_number :
    answered (.accountRead 9999 2 0) hall = (0, padTo 12 (be 2 9999 ++ be 4 200000)) ∧
      answered (.accountRead 1 0 0) hall = (AnswerCode.noAccount.byte, padTo 12 (be 2 1)) ∧
      answered (.accountRead 207 2 1) hall = (AnswerCode.range.byte, padTo 12 (be 2 207)) := by decide +kernel
/-- The third weighing of 0417/0 on page 10; desk 14 on page 64 part 2; the ignored pulses cleared by page 3 of BAY READ. -/
theorem test_read_pages :
    answered (.lotRead 0 417 0 10 0) hall = (0, padTo 12 (be 2 417 ++ [0, 3] ++ be 3 90120 ++ [6])) ∧
      answered (.rostrumRead 0 64 2) hall = (0, padTo 12 (be 2 0 ++ be 2 3105)) ∧
      (after (.bayRead 1 3 0) (hall.modBay 0 fun x => { x with ignored := 7 })).bay 0 = hall.bay 0 := by decide +kernel
/-- 999 crates asked of a yard of 560, and of a credit of 90,000 cents at 250 each. -/
theorem test_meets_CrateIssueIsClamped :
    hall.trading = true ∧ unitIndex? 8 2 = some 1 ∧ hall.account? 207 = some boat207 ∧ boat207.state = .opened ∧
      hall.store.deposit? 1 = some 250 ∧ 0 < (hall.crateType 1).yard ∧
      1 ≤ min (min 999 (hall.crateType 1).yard) (boat207.available / 250).toNat := by decide +kernel
/-- All ten free crates; the adjustments at the ends of their range. -/
theorem test_meets_TransferAndFleetAdjust :
    hall.trading = true ∧ unitIndex? 8 2 = some 1 ∧ hall.account? 207 = some boat207 ∧ hall.account? 9999 = some buyer9999 ∧
      buyer9999.state = .opened ∧ hall.store.deposit? 1 = some 250 ∧ 10 ≤ boat207.holding[1] - boat207.committed[1] ∧
      ((10 * 250 : Nat) : Int) ≤ buyer9999.available ∧ boat207.balance + (10 * 250 : Nat) ≤ 2000000000 ∧
      (hall.crateType 1).yard + (-560 : Int) = 0 ∧ (hall.crateType 1).fleet + (64935 : Int) = 65535 := by decide +kernel
/-- An idle gate, a session below and at 999, a fleet below and at 65,535 with either, type codes 0 and 9, type 8 with an INVALID
deposit record. -/
theorem test_meets_GateFramesAreCounted :
    let full := returning.modGate 0 fun x =>
      { x with session := x.session.map fun w => { w with counted := w.counted.set 1 999 } }
    let fleet := hall.modCrateType 1 fun c => { c with fleet := 65535 }
    hall.trading = true ∧ unitIndex? 2 2 = some 1 ∧ (hall.gate 1).session = none ∧ hall.account? 9999 = some buyer9999 ∧
      (∀ h, ∀ w ∈ (hall.gate h).session, w.account ≠ 9999) ∧ unitIndex? 8 (2 : Byte).toNat = some 1 ∧
      (hall.store.deposit? 1).isSome = true ∧ (returning.gate 0).session.any (fun w => w.counted[1] < 999) = true ∧
      (full.gate 0).session.any (fun w => w.counted[1] == 999) = true ∧ (full.crateType 1).fleet < 65535 ∧
      (fleet.gate 0).session = none ∧ (fleet.crateType 1).fleet = 65535 ∧ (0 : Byte).toNat < 1 ∧ 8 < (9 : Byte).toNat ∧
      (0 : Byte) ≠ crc8 [2] ∧ unitIndex? 8 (8 : Byte).toNat = some 7 ∧ hall.store.deposit? 7 = none ∧
      ((full.modCrateType 1 fun c => { c with fleet := 65535 }).crateType 1).fleet = 65535 := by decide +kernel
theorem test_meets_ReturnCloseSettles :
    returning.trading = true ∧ unitIndex? 2 1 = some 0 ∧
      (returning.gate 0).session = some { account := 3105, counted := #v[0, 12, 0, 0, 2, 0, 0, 0], rejected := 1 } ∧
      (returning.account? 3105).map (fun a => (a.balance, a.holding[1])) = some (25000, 10) ∧
      (∀ t, (returning.crateType t).fleet + 12 ≤ 65535) ∧ (25000 + 2500 : Int) ≤ 2000000000 := by decide +kernel
/-- 5,000 kg asked, clamped to the credit of boat 207 at 100 cents. -/
theorem test_meets_IceOrderIsClampedAndReserved :
    hall.trading = true ∧ unitIndex? 4 4 = some 3 ∧ (hall.bay 3).state = .idle ∧ hall.account? 207 = some boat207 ∧
      boat207.state = .opened ∧ (hall.store.tariff?).map (·.iceBoat) = some 100 ∧ hall.store.pulseWeight? 3 = some 2500 ∧
      min (min 5000 ((hall.ice.stock - hall.ice.reservation) / 1000)) (boat207.available / 100).toNat = 900 := by decide +kernel
/-- The pulse that reaches the target exactly and the one before it; the eighth and the ninth run-on pulse; a run-on window of 0. -/
theorem test_meets_PulsesAndAborts :
    hall.trading = true ∧ unitIndex? 4 1 = some 0 ∧ 0 < hall.store.timing.runOn ∧ hall.store.timing.pulse ≠ 0 ∧ (hall.bay 0).state = .idle ∧
      ((dispensing 0).bay 0).order = some iceOrder207 ∧ ((dispensing 0).bay 0).state = .dispensing ∧
      1995000 + iceOrder207.pulseWeight < iceOrder207.q * 1000 ∧ iceOrder207.q * 1000 = 1997500 + iceOrder207.pulseWeight ∧
      ((runOn 7).bay 0).order = some iceOrder207 ∧ ((runOn 7).bay 0).state = .runOn ∧ ((runOn 7).bay 0).runOnPulses < 8 ∧
      8 ≤ ((runOn 8).bay 0).runOnPulses ∧ ((dispensing 0).account? 207).isSome = true ∧
      (noWindow 1997500).store.timing.runOn = 0 ∧ ((noWindow 1997500).bay 0).order = some iceOrder207 ∧
      ((after (.bayPulse 0) (noWindow 1997500)).bay 0).last.map (fun l => (l.code, l.charge)) = some (.done, 80000) ∧
      ((after (.iceAbort 1) (noWindow 499)).bay 0).last.map (fun l => (l.code, l.charge)) = some (.aborted, 0) := by decide +kernel
theorem test_meets_IceCompletionCharges :
    let s := (dispensing 499).modBay 0 fun x => { x with pulseTimer := some 0 }
    let t := (runOn 0).modBay 0 fun x => { x with runOnTimer := some 0 }
    s.trading = true ∧ (s.bay 0).order = some iceOrder207 ∧ (s.account? 207).isSome = true ∧ (s.bay 0).pulseTimer = some 0 ∧
      t.trading = true ∧ (t.bay 0).order = some iceOrder207 ∧ (t.account? 207).isSome = true ∧ (t.bay 0).runOnTimer = some 0 ∧
      (hall.bay 0).pulseTimer ≠ some 0 ∧ ((runOn 0).bay 0).runOnTimer ≠ some 0 ∧ hall.trading = true := by
  decide +kernel
theorem test_meets_IceStockAddIsR145 : hall.trading = true := by decide

/-! ### The store, the supply, the port -/

/-- R156: a changed deposit of a type that accounts hold, a changed tare of a type with an OPEN lot and the calibration of a lane with a
weighing are IN_USE; the same deposit, and the tare without an OPEN lot, are not. -/
theorem test_store_write_in_use :
    (answered (.storeWrite 0x32 [0, 251]) hall).1 = AnswerCode.inUse.byte ∧
      (answered (.storeWrite 0x32 [0, 250]) hall).1 = AnswerCode.pending.byte ∧
      (answered (.storeWrite 0x12 [7, 0x3B]) weighing).1 = AnswerCode.inUse.byte ∧
      (answered (.storeWrite 0x12 [7, 0x3B]) hall).1 = AnswerCode.pending.byte ∧
      (answered (.storeWrite 0x06 [3, 0x0D, 0x41, 1, 0, 0, 10, 0, 0xEA, 0x60]) weighingOn6).1 = AnswerCode.inUse.byte := by
  decide +kernel
/-- R140: with the pulse timer run out, a pulse taken before the expiry restarts the timer, and the order goes on; the expiry taken first
completes it JAM, and the pulse is ignored. -/
theorem test_pulse_meets_expiry :
    let pulseFirst := (after (.pulseTimerExpiry 0) (after (.bayPulse 0) jammed)).bay 0
    let expiryFirst := (after (.bayPulse 0) (after (.pulseTimerExpiry 0) jammed)).bay 0
    (pulseFirst.state, pulseFirst.delivered, pulseFirst.pulseTimer, pulseFirst.last) = (.dispensing, 402500, some 2000, none) ∧
      (expiryFirst.state, expiryFirst.ignored, expiryFirst.last.map (·.code)) = (.idle, 1, some .jam) := by decide +kernel
/-- R2: a good frame taken before the expiry of a silence timer that has run out restarts it; the expiry taken first leads to FAULT,
and the frame is the first of the good run. -/
theorem test_frame_meets_silence :
    let s := lanes.modLane 5 fun l => { l with silence := some 0 }
    let frameFirst := (after (.silenceTimerExpiry 5) (after (.sampleFrame 5 0x80 200004#24) s)).lane 5
    let expiryFirst := (after (.sampleFrame 5 0x80 200004#24) (after (.silenceTimerExpiry 5) s)).lane 5
    (frameFirst.state, frameFirst.silence) = (.active, some 250) ∧
      (expiryFirst.state, expiryFirst.cause, expiryFirst.goodRun) = (.fault, some .silent, 1) := by decide +kernel
/-- A write of a deposit nobody holds; the three conditions of R156; completions of both results; a timing write in LOW with a new
level; a calibration write of a lane that is OFF, ACTIVE, and ACTIVE with a weighing. -/
theorem test_meets_StoreWritesProgramAndComplete :
    hall.trading = true ∧ RecordId.ofSelector 0x35 = some (.crateDeposit 4) ∧
      (RecordId.crateDeposit 4).contentsOk (padTo 2 [0x27, 0x10]) = true ∧ hall.store.locked = false ∧
      hall.store.activeTariff = false ∧ hall.store.activeTiming = false ∧ hall.store.buffer = none ∧
      (hall.accountTable.accounts.map fun a => a.holding[4]).sum = 0 ∧ hall.store.deposit? 1 = some 250 ∧
      0 < (hall.accountTable.accounts.map fun a => a.holding[1]).sum ∧ weighing.store.tare? 1 = some 1850 ∧
      (weighing.lotTable.lots.any fun l => l.state == .opened && l.crateType == 1) = true ∧
      weighing.trading = true ∧ weighing.store.buffer = none ∧ weighing.store.locked = false ∧
      weighingOn6.store.buffer = none ∧ weighingOn6.store.locked = false ∧
      (programming (.crateDeposit 1) [0, 251]).inUse (.crateDeposit 1) [0, 251] = true ∧
      (programming .timing [15, 160, 7, 208, 5, 220, 5, 220, 11, 3]).inUse .timing [15, 160, 7, 208, 5, 220, 5, 220, 11, 3] = false ∧
      (programming (.laneCal 5) []).store.buffer.any (fun w => w.target == .laneCal 5 && !w.suspended) = true ∧
      (hall.lane 5).state = .off ∧ (lanes.lane 5).state ≠ .off ∧ (lanes.lane 5).weighing = none ∧
      (weighingOn6.lane 5).weighing = some { key := k417, crates := 6, timer := 3000 } ∧ (weighingOn6.lot? k417).isSome = true ∧
      (supplyIn .low).supply.state = .low ∧ (supplyIn .low).trading = true ∧ (supplyIn .low).supply.levelCode = 6 ∧
      (timingOf [15, 160, 7, 208, 5, 220, 5, 220, 11, 3]).level ≠ 6 := by decide +kernel
/-- R22: a calibration that completes with a weighing pending ends it CAL_CHANGED and settles the lane at the new zero. -/
theorem test_calibration_change :
    let s := weighingOn6.modStore (·.begin (.laneCal 5) [3, 0x0D, 0x41, 1, 0, 0, 10, 0, 0xEA, 0x60])
    let t := after .programmingCompletion s
    ((t.lane 5).state, (t.lane 5).zero, (t.lane 5).weighing, (t.lane 5).last.map (·.result)) =
      (.settling, 200001, none, some .calChanged) ∧ (t.lot? k417).map (·.pending) = some none := by decide +kernel
/-- A store whose twenty metrology records are VALID. -/
def sealable : State :=
  hall.modStore fun st =>
    { st with cells := RecordId.metrology.foldl (fun c id => c.set id (.written (List.replicate id.length 1#8))) st.cells }
theorem test_meets_ProtectionAndLock :
    hall.trading = true ∧
      (hall.modStore fun st => { st with cells := st.cells.set .protection (.written [3]) }).store.live .protection =
        { valid := true, contents := [3], check := crc8 [3] } ∧
      (hall.store.live .protection).valid = false ∧ sealable.store.locked = false ∧ sealable.store.buffer = none ∧
      (∀ id ∈ RecordId.metrology, (sealable.store.live id).valid = true) := by decide +kernel
theorem test_meets_DetectionFollowsR162 :
    let suspended (left : Nat) := hall.modSupply fun p => { p with suspend := some left }
    hall.supply.absent = false ∧ hall.supply.state = .normal ∧ hall.supply.suspend = none ∧ hall.supply.filterCode ≠ 0 ∧
      (supplyIn .low).supply.state = .low ∧ (supplyIn .low).supply.suspend = none ∧
      (suspended 0).supply.state = .normal ∧ (suspended 0).supply.suspend = some 0 ∧ (suspended 2).supply.suspend ≠ some 0 ∧
      (supplyIn .low).supply.persistence ≠ some 0 ∧ hall.trading = true ∧ hall.store.activeTiming = false ∧
      (supplyIn .low).trading = true ∧ (supplyIn .low).store.activeTiming = false ∧
      (after (.supplySet 11 3) (supplyIn .low)).supply.state = .normal := by decide +kernel
/-- The three commands, at the boundary 4.299 V below level 4.300 V, with a lot on the clock and an ice order in flight. -/
theorem test_meets_HoldEndsTheWorkInFlight :
    let low (s : State) := s.modSupply fun p => { p with state := .low, persistence := some 0 }
    let s := hall.modSupply fun p => { p with filterCode := 0 }
    let u := s.modSupply fun p => { p with suspend := some 0 }
    (low onClock).supply.absent = false ∧ (low onClock).supply.state = .low ∧ (low onClock).supply.persistence = some 0 ∧
      (low onClock).lotTable = pressing.lotTable ∧ (low (dispensing 400000)).supply.state = .low ∧
      s.supply.absent = false ∧ s.supply.state = .normal ∧ s.supply.suspend = none ∧ s.supply.filterCode = 0 ∧
      4299 < 4000 + 50 * s.supply.levelCode ∧ u.supply.state = .normal ∧ u.supply.suspend = some 0 ∧
      u.supply.filterCode = 0 := by decide +kernel
/-- The entry into HOLD puts 0417/0 back in its queue and completes an order SUPPLY with its charge. -/
theorem test_hold_entry :
    let low (s : State) := s.modSupply fun p => { p with state := .low, persistence := some 0 }
    let t := after .persistenceTimerExpiry (low onClock)
    let u := after .persistenceTimerExpiry (low (dispensing 400000))
    t.rostrumA.queue = [k417] ∧ t.rostrumA.state = .idle ∧ (t.lot? k417).map (·.state) = some .queued ∧
      (u.bay 0).last.map (fun l => (l.code, l.kilograms, l.charge)) = some (.supply, 400, 16000) ∧ u.ice.reservation = 0 ∧
      (u.account? 207).map (fun a => (a.reserved, a.balance)) = some (0, -26000) := by decide +kernel
theorem test_meets_RestartsLeaveHoldAndReset :
    let reset := after .resetLineAssert onClock
    let recovered := (supplyIn .recovering).modSupply fun p => { p with recovery := some 0 }
    (supplyIn .hold).supply.absent = false ∧ (supplyIn .hold).supply.state = .hold ∧
      (supplyIn .recovering).supply.state = .recovering ∧ recovered.supply.recovery = some 0 ∧
      recovered.supply.state = .recovering ∧ (supplyIn .recovering).supply.recovery ≠ some 0 ∧
      recovered.supply.resetLine = false ∧ (after .resetLineAssert recovered).supply.resetLine = true ∧
      (after .resetLineAssert recovered).supply.recovery = some 0 ∧
      (after .resetLineAssert (supplyIn .recovering)).supply.state = .recovering ∧ onClock.trading = true ∧ reset.supply.absent = false ∧
      reset.supply.starting = some .resetLine ∧ reset.supply.inHold = false ∧ reset.supply.cause = .resetLine ∧
      reset.supply.restartFlag = true := by decide +kernel
/-- R166: a recovery that ends with the reset line asserted begins its start, and the release finishes it; a new level code, loaded at
the release, ends LOW (log 17), and the same code leaves it. -/
theorem test_reset_line_holds_a_start :
    let recovered := (supplyIn .recovering).modSupply fun p => { p with recovery := some 0 }
    let waiting := after .recoveryTimerExpiry (after .resetLineAssert recovered)
    let low := after .resetLineAssert (supplyIn .low)
    let moved := low.modStore fun st => { st with cells := st.cells.set .timing (.written [15, 160, 7, 208, 5, 220, 5, 220, 11, 3]) }
    (waiting.supply.starting, waiting.trading, (after .resetLineRelease waiting).trading) = (some .supplyResume, false, true) ∧
      ((after .resetLineRelease low).supply.state, (after .resetLineRelease moved).supply.state) = (.low, .normal) := by
  decide +kernel
/-- The main supply lost with a lot on the clock, and the backup supply after it; a write held. -/
def unpowered : State := after .supplyAbsent onClock
theorem test_meets_linked_unpowered : unpowered.Linked where
  keyed := by unfold LotTable.Keyed; decide +kernel
  nodup := by intro r; cases r <;> decide +kernel
  queued := by intro r; cases r <;> decide +kernel
  inQueue := fun l hl hs => absurd hs ((by decide +kernel : ∀ l ∈ unpowered.lotTable.lots, l.state ≠ .queued) l hl)
  onClock := by intro r; cases r <;> decide +kernel
  offered := fun l hl _ =>
    ⟨.a, (by decide +kernel : ∀ l ∈ unpowered.lotTable.lots, l.rostrum = some .a) l hl, fun h => absurd h (by decide +kernel)⟩
  oneOnClock := by decide +kernel
  pending := by decide +kernel
  weighing := by decide +kernel
  still := fun _ => ⟨fun r => by cases r <;> decide +kernel, by decide +kernel⟩
theorem test_meets_dark : unpowered.Dark where
  lanes := by decide +kernel
  rostra := by intro r; cases r <;> decide +kernel
  bays := by decide +kernel
  totals := by decide +kernel
  store := by decide +kernel
/-- Both latches, a held write, a lot found on the clock, and the reset line asserted. -/
theorem test_meets_PowerLossAndPowerOn :
    onClock.supply.absent = false ∧ unpowered.supply.absent = true ∧ unpowered.supply.resetLine = false ∧
      unpowered.supply.latch = false ∧ (after .backupLow unpowered).supply.latch = true ∧
      (after .backupLow unpowered).supply.absent = true ∧ unpowered.foundOnClock .a = some k417 ∧
      (after .supplyAbsent (programming .protection [3])).store.buffer.map (·.target) = some .protection ∧
      (after .resetLineAssert unpowered).supply.resetLine = true ∧ (after .resetLineAssert unpowered).supply.absent = true := by
  decide +kernel
theorem test_meets_RecordsClearIsR168 :
    hall.trading = true ∧ (∀ r, (hall.rostrum r).state = .idle) ∧ (∀ b, (hall.bay b).state = .idle) ∧
      (∀ i, (hall.lane i).weighing = none) ∧ (∀ g, (hall.gate g).session = none) :=
  ⟨by decide, fun r => by cases r <;> decide, by decide +kernel, by decide +kernel, by decide +kernel⟩
theorem test_meets_RecordsClearIsR168_busy :
    (onClock.rostrum .a).state ≠ .idle ∧ ((dispensing 0).bay 0).state ≠ .idle ∧ (weighingOn6.lane 5).weighing ≠ none ∧
      (returning.gate 0).session ≠ none ∧ onClock.trading = true ∧ (dispensing 0).trading = true ∧
      weighingOn6.trading = true ∧ returning.trading = true := by decide +kernel
/-- The limits 1 and 15; a CRC error with CRC on, at the limit and below it; a code that names a request and one that names none; a
part that does not trade. -/
theorem test_meets_PortFramesAreAnswered :
    hall.trading = true ∧ hall.port.frameCrc = true ∧ min (hall.port.errorCount + 1) 15 < hall.port.errorLimit ∧
      ((hall.modPort fun p => { p with errorLimit := 1 }).port.errorLimit ≤ min (hall.port.errorCount + 1) 15) ∧
      namesRequest 0 = false ∧ namesRequest 0x79 = true ∧ (1 : Byte) ≠ 0 ∧ (supplyIn .hold).trading = false := by decide +kernel

end Sys2Proof.Tests
end

section
/-! PROOF. The sale amount of R80: its formula, and its largest value over the ranges of net and price. -/

namespace Sys2Proof.Machine

/-- The rounding of R80 and R81 keeps the order of both factors. -/
theorem perMil_le_perMil {a a' b b' : Nat} (ha : a ≤ a') (hb : b ≤ b') : perMil a b ≤ perMil a' b' :=
  Nat.div_le_div_right (Nat.add_le_add_right (Nat.mul_le_mul ha hb) 500)

@[simp] theorem valuate_amount (net price k commission levy fee deposit : Nat) :
    (valuate net price k commission levy fee deposit).amount = perMil net price := rfl

/-- The amount is largest at the largest net, 9,600,000 g, and the largest price, 99,999 cents per kilogram (R80). -/
theorem perMil_net_price_le {net price : Nat} (hnet : net ≤ 9600000) (hprice : price ≤ 99999) :
    perMil net price ≤ 959990400 :=
  calc perMil net price
    _ ≤ perMil 9600000 99999 := perMil_le_perMil hnet hprice
    _ = 959990400 := by decide

/-- Settles O36: the amount is R80's formula, its bound is the value at the ends of both ranges, and 20 g at 24 cents is evaluated. -/
theorem saleAmountIsR80 : Obligations.SaleAmountIsR80 := by
  refine ⟨fun net price k commission levy fee deposit => ⟨?formula, ?bound⟩, ?smallest⟩
  case formula => rw [valuate_amount, perMil]
  case bound =>
    intro hnet hprice
    rw [valuate_amount]
    exact perMil_net_price_le hnet hprice
  case smallest =>
    rw [valuate_amount]
    decide

end Sys2Proof.Machine
end

section
/-! PROOF. The ledger of the account table: the figures that money and credit are made of (R95, R96, R110), what the postings of
section 5.6 make of them, and the transactions that keep the money identity and the credit floor. -/

namespace Sys2Proof.Machine

/-! ## The ledger -/

/-- The figures of an account that its available credit is made of (05 section 5.1). -/
structure Funds where
  number : Nat
  balance : Int
  limit : Nat
  reserved : Nat

/-- The figures of an account record. -/
def Account.funds (a : Account) : Funds :=
  { number := a.number, balance := a.balance, limit := a.limit, reserved := a.reserved }

/-- Balance less reserved plus limit. -/
def Funds.available (f : Funds) : Int := f.balance - f.reserved + f.limit

@[simp] theorem Account.funds_available (a : Account) : a.funds.available = a.available := rfl
@[simp] theorem Account.funds_number (a : Account) : a.funds.number = a.number := rfl

/-- What the account table says of money: the funds of every account, the balance sum and the hall counters. -/
structure Ledger where
  funds : List Funds
  balanceSum : Int
  hall : HallCounters

/-- The ledger of an account table. -/
def AccountTable.ledger (T : AccountTable) : Ledger :=
  { funds := T.accounts.map Account.funds, balanceSum := T.balanceSum, hall := T.hall }

/-- The totals copy is no part of the ledger. -/
@[simp] theorem AccountTable.ledger_withTotals (T : AccountTable) (c : Option TotalsCopy) :
    ({ T with totals := c } : AccountTable).ledger = T.ledger := rfl

/-- What the hall has taken from the balances beyond the cash that came in: the terms of R110 other than the balance sum. -/
def HallCounters.net (h : HallCounters) : Word64 :=
  h.commission + h.levy + h.fee + h.ice + h.depositFloat - h.cashIn + h.cashOut

namespace Ledger

/-- The difference of the two sides of the money identity (R110), in the 64 bits of the counters. -/
def difference (l : Ledger) : Word64 := BitVec.ofInt 64 l.balanceSum + l.hall.net

/-- The money identity of a ledger (R110). -/
def Balanced (l : Ledger) : Prop := l.difference = 0

/-- The credit floor of a ledger (R96). -/
def Floored (l : Ledger) : Prop := ∀ f ∈ l.funds, 0 ≤ f.available

/-- No two accounts of the ledger have the same number (R95). -/
def Distinct (l : Ledger) : Prop := ∀ f ∈ l.funds, ∀ g ∈ l.funds, f.number = g.number → f = g

/-- The ledger has an account of a number. -/
def has (l : Ledger) (number : Nat) : Bool := l.funds.any (·.number == number)

/-- The ledger with the funds of one account changed. -/
def modFunds (l : Ledger) (number : Nat) (g : Funds → Funds) : Ledger :=
  { l with funds := l.funds.map fun f => if f.number = number then g f else f }

/-- The ledger with the hall counters changed. -/
def modHall (l : Ledger) (g : HallCounters → HallCounters) : Ledger := { l with hall := g l.hall }

/-- A posting: the balance of an account that exists, and the balance sum with it (R95). -/
def post (l : Ledger) (number : Nat) (delta : Int) : Ledger :=
  if l.has number then
    { l.modFunds number fun f => { f with balance := f.balance + delta } with balanceSum := l.balanceSum + delta }
  else l

/-- A reserve (R107). -/
def reserve (l : Ledger) (number amount : Nat) : Ledger := l.modFunds number fun f => { f with reserved := f.reserved + amount }

/-- A release: the reserved falls by R, the balance by the charge (R108). -/
def release (l : Ledger) (number reserved charge : Nat) : Ledger :=
  (l.modFunds number fun f => { f with reserved := f.reserved - reserved }).post number (-(charge : Int))

theorem has_iff {l : Ledger} {n : Nat} : l.has n = true ↔ ∃ f ∈ l.funds, f.number = n := by simp [has]

@[simp] theorem modHall_funds (l : Ledger) (g : HallCounters → HallCounters) : (l.modHall g).funds = l.funds := rfl

/-- What holds of all funds after an update of one account. -/
theorem forall_modFunds {l : Ledger} {n : Nat} {g : Funds → Funds} {p : Funds → Prop} :
    (∀ f ∈ (l.modFunds n g).funds, p f) ↔ ∀ f ∈ l.funds, p (if f.number = n then g f else f) := List.forall_mem_map

/-- An update that keeps the number keeps the accounts of a ledger. -/
theorem modFunds_has (l : Ledger) (n m : Nat) {g : Funds → Funds} (hg : ∀ f, (g f).number = f.number) :
    (l.modFunds n g).has m = l.has m := by
  simp only [has, modFunds, List.any_map]
  refine congrArg l.funds.any (funext fun f => ?_)
  by_cases h : f.number = n <;> simp [h, hg]

/-- The funds after a posting. -/
theorem post_funds (l : Ledger) (n : Nat) (d : Int) :
    (l.post n d).funds = (l.modFunds n fun f => { f with balance := f.balance + d }).funds := by
  unfold post
  split
  · rfl
  · next h =>
    refine (List.map_congr_left fun f hf => ?_).trans (List.map_id l.funds) |>.symm
    have hn : f.number ≠ n := fun hn => h (has_iff.mpr ⟨f, hf, hn⟩)
    simp [hn]

@[simp] theorem post_has (l : Ledger) (n m : Nat) (d : Int) : (l.post n d).has m = l.has m := by
  have h := modFunds_has l n m (g := fun f => { f with balance := f.balance + d }) fun _ => rfl
  rwa [has, ← post_funds] at h

@[simp] theorem post_hall (l : Ledger) (n : Nat) (d : Int) : (l.post n d).hall = l.hall := by
  unfold post
  split <;> rfl

/-- A posting on an account that exists moves the difference by its amount (R95, R110). -/
theorem post_difference {l : Ledger} {n : Nat} (h : l.has n = true) (d : Int) :
    (l.post n d).difference = l.difference + BitVec.ofInt 64 d := by
  simp only [difference, post, h, if_true, BitVec.ofInt_add, modFunds]
  ring

/-- A change of the hall counters moves the difference by the change of what the hall has taken. -/
theorem modHall_difference (l : Ledger) (g : HallCounters → HallCounters) :
    (l.modHall g).difference = l.difference + ((g l.hall).net - l.hall.net) := by
  simp only [difference, modHall]
  ring

/-- A posting keeps the floor when the accounts of its number can bear it (R105). -/
theorem Floored.post {l : Ledger} (hl : l.Floored) {n : Nat} {d : Int}
    (hd : ∀ f ∈ l.funds, f.number = n → 0 ≤ f.available + d) : (l.post n d).Floored := by
  unfold Floored
  rw [post_funds, forall_modFunds]
  intro f hf
  split
  · next hn =>
    have := hd f hf hn
    simp only [Funds.available] at this ⊢
    omega
  · exact hl f hf

@[simp] theorem release_has (l : Ledger) (n r c m : Nat) : (l.release n r c).has m = l.has m := by
  rw [release, post_has]
  exact modFunds_has l n m fun _ => rfl

@[simp] theorem release_hall (l : Ledger) (n r c : Nat) : (l.release n r c).hall = l.hall := post_hall ..

/-- A release on an account that exists moves the difference by its charge (R108, R110). -/
theorem release_difference {l : Ledger} {n : Nat} (h : l.has n = true) (r c : Nat) :
    (l.release n r c).difference = l.difference - BitVec.ofNat 64 c := by
  have hn : (l.modFunds n fun f => { f with reserved := f.reserved - r }).has n = true := by
    rwa [modFunds_has l n n]
    exact fun _ => rfl
  rw [release, post_difference hn, BitVec.ofInt_neg, BitVec.ofInt_natCast, ← sub_eq_add_neg]
  rfl

/-! ## Ice completions -/

/-- The ledger backs an ice order: its account exists and holds the order's charge, Q times the price, reserved (R107, R137). -/
structure Backs (l : Ledger) (o : IceOrder) : Prop where
  account : l.has o.account = true
  charge : o.charge = o.q * o.price
  reserved : ∀ f ∈ l.funds, f.number = o.account → o.charge ≤ f.reserved

/-- A completion with d grams delivered: the order's reserve is released against the charge of the kilograms delivered, which the
ice revenue gains (R143). -/
def complete (l : Ledger) (o : IceOrder) (d : Nat) : Ledger :=
  (l.release o.account o.charge (chargedKilograms o.q d * o.price)).modHall fun h =>
    { h with ice := h.ice + BitVec.ofNat 64 (chargedKilograms o.q d * o.price) }

/-- One order that the ledger backs completes, with some weight delivered. -/
def Completes (l l' : Ledger) : Prop := ∃ o d, l.Backs o ∧ l' = l.complete o d

/-- What is charged is at most what was reserved (R143). -/
theorem Backs.charged_le {l : Ledger} {o : IceOrder} (h : l.Backs o) (d : Nat) : chargedKilograms o.q d * o.price ≤ o.charge := by
  rw [h.charge]
  exact Nat.mul_le_mul_right _ (Nat.min_le_left ..)

/-- The funds after a completion. -/
theorem complete_funds (l : Ledger) (o : IceOrder) (d : Nat) :
    (l.complete o d).funds =
      (l.modFunds o.account fun f =>
        { f with
          reserved := f.reserved - o.charge
          balance := f.balance + -((chargedKilograms o.q d * o.price : Nat) : Int) }).funds := by
  simp only [complete, release, modHall_funds, post_funds]
  simp only [modFunds, List.map_map]
  refine List.map_congr_left fun f _ => ?_
  by_cases h : f.number = o.account <;> simp [h]

@[simp] theorem complete_has (l : Ledger) (o : IceOrder) (d n : Nat) : (l.complete o d).has n = l.has n := release_has ..

/-- A completion keeps the money identity (R110): the charge passes from a balance to the ice revenue. -/
theorem Completes.balanced {l l' : Ledger} (h : l.Completes l') (hl : l.Balanced) : l'.Balanced := by
  obtain ⟨o, d, ho, rfl⟩ := h
  unfold Balanced at hl ⊢
  rw [complete, modHall_difference, release_difference ho.account, release_hall]
  simp only [HallCounters.net]
  linear_combination hl

/-- A completion keeps the credit floor (R96): the charge is at most the reserve released with it. -/
theorem Completes.floored {l l' : Ledger} (h : l.Completes l') (hl : l.Floored) : l'.Floored := by
  obtain ⟨o, d, ho, rfl⟩ := h
  unfold Floored
  rw [complete_funds, forall_modFunds]
  intro f hf
  have hfl := hl f hf
  split
  · next hn =>
    have hr := ho.reserved f hf hn
    have hc := ho.charged_le d
    simp only [Funds.available] at hfl ⊢
    omega
  · exact hfl

/-! ## Ice orders in flight -/

/-- What an order in flight holds reserved of an account. -/
def owed (order : Option IceOrder) (number : Nat) : Nat :=
  (order.map fun o => if o.account = number then o.charge else 0).getD 0

/-- The ledger covers the ice orders of the four bays: each names an account that exists, and its charge is Q times the price; every
account has the charges of its orders reserved (R102, R107, R137). -/
structure Covers (l : Ledger) (orders : Fin 4 → Option IceOrder) : Prop where
  order : ∀ b, ∀ o ∈ orders b, l.has o.account = true ∧ o.charge = o.q * o.price
  reserved : ∀ f ∈ l.funds, (all4.map fun b => owed (orders b) f.number).sum ≤ f.reserved

theorem mem_all4 : ∀ b : Fin 4, b ∈ all4 := by decide

/-- A ledger that covers the orders in flight backs each of them. -/
theorem Covers.backs {l : Ledger} {orders : Fin 4 → Option IceOrder} (h : l.Covers orders) {b : Fin 4} {o : IceOrder}
    (ho : orders b = some o) : l.Backs o where
  account := (h.order b o ho).1
  charge := (h.order b o ho).2
  reserved := by
    intro f hf hn
    have hb : b ∈ all4 := mem_all4 b
    calc o.charge
      _ = owed (orders b) f.number := by simp [owed, ho, hn]
      _ ≤ (all4.map fun b => owed (orders b) f.number).sum := List.single_le_sum (by simp) _ (List.mem_map_of_mem hb)
      _ ≤ f.reserved := h.reserved f hf

/-- A sum over the four bays when one bay's term goes. -/
theorem sum_all4_erase (x y : Fin 4 → Nat) (b : Fin 4) (h : ∀ c, y c = if c = b then 0 else x c) :
    (all4.map y).sum + x b = (all4.map x).sum := by
  match b with
  | 0 | 1 | 2 | 3 => simp [all4, h]; omega

/-- After the completion of one bay's order the ledger covers the others. -/
theorem Covers.complete {l : Ledger} {orders rest : Fin 4 → Option IceOrder} (h : l.Covers orders) {b : Fin 4} {o : IceOrder}
    (ho : orders b = some o) (hrest : ∀ c, rest c = if c = b then none else orders c) (d : Nat) : (l.complete o d).Covers rest where
  order := by
    intro c x hx
    rw [complete_has]
    refine h.order c x ?_
    have hc := hrest c
    split at hc
    · simp [hc] at hx
    · rwa [← hc]
  reserved := by
    rw [complete_funds, forall_modFunds]
    intro f hf
    have hsum := sum_all4_erase (fun c => owed (orders c) f.number) (fun c => owed (rest c) f.number) b fun c => by
      rw [hrest c]
      split <;> rfl
    have hr := h.reserved f hf
    split
    · next hn =>
      simp only [owed, ho, hn, Option.map_some, if_true, Option.getD_some] at hsum hr ⊢
      omega
    · omega

/-! ## Transactions -/

/-- What a command can make of a ledger, with the store and the lot table that it finds: no money is posted and no available credit
falls below the floor; the table is emptied; an account reserves within its available credit (R107); ice orders that are backed
complete (R143); one account is posted on against the hall counters (R103, R104, R121, R125); money passes from one account to
another, less what the hall takes (R86 to R88, R128). -/
inductive Transacts (st : Store) (lots : LotTable) (l : Ledger) : Ledger → Prop
  | unposted {l' : Ledger} (sum : l'.balanceSum = l.balanceSum) (hall : l'.hall = l.hall)
      (credit : ∀ f ∈ l'.funds, 0 ≤ f.available ∨ ∃ g ∈ l.funds, g.available ≤ f.available) : Transacts st lots l l'
  | cleared : Transacts st lots l AccountTable.empty.ledger
  | reserved {f : Funds} {amount : Nat} (hf : f ∈ l.funds) (credit : 0 ≤ f.available → (amount : Int) ≤ f.available) :
      Transacts st lots l (l.reserve f.number amount)
  | completed {l' : Ledger} (h : Relation.ReflTransGen Completes l l') : Transacts st lots l l'
  | posted {f : Funds} {d : Int} {g : HallCounters → HallCounters} (hf : f ∈ l.funds)
      (credit : 0 ≤ f.available → 0 ≤ f.available + d) (hall : (g l.hall).net + BitVec.ofInt 64 d = l.hall.net) :
      Transacts st lots l ((l.post f.number d).modHall g)
  | moved {f : Funds} {n amount : Nat} {d : Int} {g : HallCounters → HallCounters} (hf : f ∈ l.funds) (hn : l.has n = true)
      (credit : (amount : Int) ≤ f.available) (gain : st.Sound → lots.Sound → 0 ≤ d)
      (hall : (g l.hall).net + BitVec.ofInt 64 d = l.hall.net + BitVec.ofNat 64 amount) :
      Transacts st lots l (((l.post f.number (-(amount : Int))).post n d).modHall g)

namespace Transacts

variable {st : Store} {lots : LotTable} {l l' : Ledger}

/-- A ledger that keeps every figure. -/
theorem kept (h : l' = l) : l.Transacts st lots l' := by
  subst h
  exact completed .refl

/-- R110: every transaction keeps the money identity. -/
theorem balanced (h : l.Transacts st lots l') (hl : l.Balanced) : l'.Balanced := by
  cases h with
  | unposted sum hall credit =>
    unfold Balanced difference at hl ⊢
    rw [sum, hall, hl]
  | cleared => rfl
  | reserved hf credit => exact hl
  | completed h =>
    induction h with
    | refl => exact hl
    | tail _ hstep ih => exact hstep.balanced ih
  | posted hf credit hall =>
    unfold Balanced at hl ⊢
    rw [modHall_difference, post_difference (has_iff.mpr ⟨_, hf, rfl⟩), post_hall]
    linear_combination hl + hall
  | moved hf hn credit gain hall =>
    unfold Balanced at hl ⊢
    rw [modHall_difference, post_difference ((post_has ..).trans hn), post_difference (has_iff.mpr ⟨_, hf, rfl⟩), post_hall,
      post_hall, BitVec.ofInt_neg, BitVec.ofInt_natCast]
    linear_combination hl + hall

/-- R96: every transaction keeps the credit floor, where no two accounts have the same number and the rates are in their ranges. -/
theorem floored (h : l.Transacts st lots l') (hd : l.Distinct) (hs : st.Sound) (hlots : lots.Sound) (hl : l.Floored) :
    l'.Floored := by
  cases h with
  | unposted sum hall credit =>
    intro f hf
    obtain h0 | ⟨g, hg, hle⟩ := credit f hf
    · exact h0
    · exact (hl g hg).trans hle
  | cleared => exact fun f hf => absurd hf (List.not_mem_nil)
  | @reserved f amount hf credit =>
    refine forall_modFunds.mpr fun g hg => ?_
    split
    · next hn =>
      obtain rfl := hd g hg f hf hn
      have hle := credit (hl g hg)
      simp only [Funds.available] at hle ⊢
      omega
    · exact hl g hg
  | completed h =>
    induction h with
    | refl => exact hl
    | tail _ hstep ih => exact hstep.floored ih
  | @posted f d g hf credit hall =>
    refine hl.post fun x hx hn => ?_
    obtain rfl := hd x hx f hf hn
    exact credit (hl x hx)
  | @moved f n amount d g hf hn credit gain hall =>
    have hdebit : (l.post f.number (-(amount : Int))).Floored := by
      refine hl.post fun x hx hn => ?_
      obtain rfl := hd x hx f hf hn
      omega
    refine hdebit.post fun x hx _ => ?_
    have hx0 := hdebit x hx
    have hgain := gain hs hlots
    omega

end Transacts

end Ledger

/-! ## The account table's ledger -/

/-- R110 says of the account table what the ledger's identity says. -/
theorem AccountTable.balanced_iff (T : AccountTable) : T.Balanced ↔ T.ledger.Balanced := by
  simp only [AccountTable.Balanced, Ledger.Balanced, Ledger.difference, AccountTable.ledger, HallCounters.net]
  constructor <;> intro h <;> linear_combination h

/-- R96 says of the account table what the ledger's floor says. -/
theorem AccountTable.floored_iff (T : AccountTable) : T.Floored ↔ T.ledger.Floored := by
  simp only [AccountTable.Floored, Ledger.Floored, AccountTable.ledger, List.forall_mem_map, Account.funds_available]

/-- The numbers of a table in order are distinct (R95). -/
theorem AccountTable.Tallied.distinct {T : AccountTable} (h : T.Tallied) : T.ledger.Distinct := by
  obtain ⟨hsorted, -⟩ := h
  have hnodup : (T.accounts.map (·.number)).Nodup := List.pairwise_map.mpr (hsorted.imp Nat.ne_of_lt)
  simp only [Ledger.Distinct, AccountTable.ledger, List.forall_mem_map, Account.funds_number]
  intro a ha b hb hn
  rw [List.inj_on_of_nodup_map hnodup ha hb hn]

end Sys2Proof.Machine
end

section
/-! PROOF. What the state's operations make of the ledger: the postings of section 5.6, and the many operations that leave it as it
was. -/

namespace Sys2Proof.Machine

@[simp] theorem refuse_fst (s : State) (c : AnswerCode) : (refuse s c).1 = s := rfl
@[simp] theorem accept_fst (s : State) (d : List Byte) : (accept s d).1 = s := rfl

namespace State

/-! ## Operations on an account record -/

/-- A change of an account record is the change of its funds in the ledger. -/
theorem modAccount_ledger (s : State) (n : Nat) (f : Account → Account) (g : Funds → Funds)
    (h : ∀ a, (f a).funds = g a.funds) : (s.modAccount n f).accountTable.ledger = s.accountTable.ledger.modFunds n g := by
  simp only [modAccount_accountTable, AccountTable.ledger, Ledger.modFunds, List.map_map]
  refine congrArg (Ledger.mk · _ _) (List.map_congr_left fun a _ => ?_)
  by_cases hn : a.number = n <;> simp [hn, h]

/-- A change of an account record that keeps its funds keeps the ledger. -/
theorem modAccount_ledger_eq (s : State) (n : Nat) {f : Account → Account} (h : ∀ a, (f a).funds = a.funds) :
    (s.modAccount n f).accountTable.ledger = s.accountTable.ledger := by
  rw [modAccount_ledger s n f id h, Ledger.modFunds]
  simp

@[simp] theorem commit_ledger (s : State) (n : Nat) (t : Fin 8) (c : Nat) :
    (s.commit n t c).accountTable.ledger = s.accountTable.ledger :=
  s.modAccount_ledger_eq n fun _ => rfl
@[simp] theorem uncommit_ledger (s : State) (n : Nat) (t : Fin 8) (c : Nat) :
    (s.uncommit n t c).accountTable.ledger = s.accountTable.ledger :=
  s.modAccount_ledger_eq n fun _ => rfl
@[simp] theorem modLiveLots_ledger (s : State) (n : Nat) (f : Nat → Nat) :
    (s.modLiveLots n f).accountTable.ledger = s.accountTable.ledger :=
  s.modAccount_ledger_eq n fun _ => rfl
@[simp] theorem modDeskCount_ledger (s : State) (n : Nat) (f : Nat → Nat) :
    (s.modDeskCount n f).accountTable.ledger = s.accountTable.ledger :=
  s.modAccount_ledger_eq n fun _ => rfl
@[simp] theorem modHolding_ledger (s : State) (n : Nat) (t : Fin 8) (f : Nat → Nat) :
    (s.modHolding n t f).accountTable.ledger = s.accountTable.ledger :=
  s.modAccount_ledger_eq n fun _ => rfl
@[simp] theorem saleMove_ledger (s : State) (n m : Nat) (t : Fin 8) (k : Nat) :
    (s.saleMove n m t k).accountTable.ledger = s.accountTable.ledger :=
  (modHolding_ledger ..).trans (s.modAccount_ledger_eq n fun _ => rfl)

/-- The ledger has the accounts of the table. -/
theorem ledger_has (s : State) (n : Nat) : s.accountTable.ledger.has n = (s.account? n).isSome := by
  rw [Ledger.has, AccountTable.ledger, List.any_map, account?, List.isSome_find?]
  rfl

/-- The funds of an account that exists stand in the ledger. -/
theorem funds_mem {s : State} {n : Nat} {a : Account} (h : s.account? n = some a) : a.funds ∈ s.accountTable.ledger.funds :=
  List.mem_map_of_mem (account?_mem h)

/-! ## Postings (R105 to R108) -/

theorem post_ledger (s : State) (n : Nat) (d : Int) : (s.post n d).accountTable.ledger = s.accountTable.ledger.post n d := by
  unfold post Ledger.post
  rw [s.ledger_has]
  cases s.account? n with
  | none => rfl
  | some a =>
    rw [Option.isSome_some, if_pos rfl, ← s.modAccount_ledger n (fun a => { a with balance := a.balance + d }) _ fun _ => rfl]
    rfl

theorem debit_ledger (s : State) (n amount : Nat) :
    (s.debit n amount).accountTable.ledger = s.accountTable.ledger.post n (-(amount : Int)) := post_ledger ..
theorem credit_ledger (s : State) (n amount : Nat) :
    (s.credit n amount).accountTable.ledger = s.accountTable.ledger.post n amount := post_ledger ..
theorem reserve_ledger (s : State) (n amount : Nat) :
    (s.reserve n amount).accountTable.ledger = s.accountTable.ledger.reserve n amount :=
  s.modAccount_ledger n _ _ fun _ => rfl
theorem release_ledger (s : State) (n r c : Nat) :
    (s.release n r c).accountTable.ledger = s.accountTable.ledger.release n r c := by
  rw [release, post_ledger, s.modAccount_ledger n _ (fun f => { f with reserved := f.reserved - r }) fun _ => rfl]
  rfl
theorem modHall_ledger (s : State) (f : HallCounters → HallCounters) :
    (s.modHall f).accountTable.ledger = s.accountTable.ledger.modHall f := rfl
theorem modFloat_ledger (s : State) (d : Int) :
    (s.modFloat d).accountTable.ledger =
      s.accountTable.ledger.modHall fun h => { h with depositFloat := h.depositFloat + BitVec.ofInt 64 d } := rfl

/-! ## Weighings and lots -/

@[simp] theorem releaseWeighing_ledger (s : State) (k : Key) (c : Nat) :
    (s.releaseWeighing k c).accountTable.ledger = s.accountTable.ledger := by
  unfold releaseWeighing
  split <;> simp

@[simp] theorem endWeighing_ledger (s : State) (i : Fin 8) (r : WeighResult) (g : Option Int) (n : Option Nat)
    (t : Option TicketStatus) : (s.endWeighing i r g n t).accountTable.ledger = s.accountTable.ledger := by
  unfold endWeighing
  (repeat' split) <;> simp

@[simp] theorem failWeighing_ledger (s : State) (i : Fin 8) (r : WeighResult) :
    (s.failWeighing i r).accountTable.ledger = s.accountTable.ledger :=
  endWeighing_ledger ..

@[simp] theorem completeWeighing_ledger (s : State) (i : Fin 8) (w : Int) :
    (s.completeWeighing i w).accountTable.ledger = s.accountTable.ledger := by
  simp only [completeWeighing]
  (repeat' split) <;> simp

@[simp] theorem acceptSample_ledger (s : State) (i : Fin 8) (c : Int) :
    (s.acceptSample i c).accountTable.ledger = s.accountTable.ledger := by
  simp only [acceptSample]
  (repeat' split) <;> simp

@[simp] theorem laneFault_ledger (s : State) (i : Fin 8) (c : FaultCause) :
    (s.laneFault i c).accountTable.ledger = s.accountTable.ledger := by
  simp [laneFault]

@[simp] theorem badSample_ledger (s : State) (i : Fin 8) : (s.badSample i).accountTable.ledger = s.accountTable.ledger := by
  simp only [badSample]
  (repeat' split) <;> simp

@[simp] theorem goodSample_ledger (s : State) (i : Fin 8) (o : Bool) (c : Int) :
    (s.goodSample i o c).accountTable.ledger = s.accountTable.ledger := by
  simp only [goodSample]
  (repeat' split) <;> simp

@[simp] theorem silenceExpiry_ledger (s : State) (i : Fin 8) :
    (s.silenceExpiry i).accountTable.ledger = s.accountTable.ledger := by
  simp only [silenceExpiry]
  (repeat' split) <;> simp

@[simp] theorem stabilityExpiry_ledger (s : State) (i : Fin 8) :
    (s.stabilityExpiry i).accountTable.ledger = s.accountTable.ledger := by
  simp only [stabilityExpiry]
  split <;> simp

@[simp] theorem calibrationChange_ledger (s : State) (i : Fin 8) :
    (s.calibrationChange i).accountTable.ledger = s.accountTable.ledger := by
  simp only [calibrationChange]
  split <;> simp

@[simp] theorem laneHold_ledger (s : State) (i : Fin 8) :
    (s.laneHold i).accountTable.ledger = s.accountTable.ledger := by simp [laneHold]

@[simp] theorem handIn_ledger (s : State) (l : Lot) (i : Fin 8) (c : Nat) :
    (s.handIn l i c).accountTable.ledger = s.accountTable.ledger := by simp [handIn]

@[simp] theorem retire_ledger (s : State) (l : Lot) : (s.retire l).accountTable.ledger = s.accountTable.ledger := by
  simp only [retire]
  split <;> simp

@[simp] theorem dropPending_ledger (s : State) (l : Lot) : (s.dropPending l).accountTable.ledger = s.accountTable.ledger := by
  unfold dropPending
  split <;> simp

/-- Operations that keep the ledger keep it in a row. -/
theorem foldl_ledger {α : Type} {f : State → α → State} (h : ∀ s x, (f s x).accountTable.ledger = s.accountTable.ledger)
    (xs : List α) (s : State) :
    (xs.foldl f s).accountTable.ledger = s.accountTable.ledger := by
  induction xs generalizing s with
  | nil => rfl
  | cons x xs ih => exact (ih (f s x)).trans (h s x)

@[simp] theorem reconcileLots_ledger (s : State) : s.reconcileLots.accountTable.ledger = s.accountTable.ledger := by
  rw [reconcileLots, foldl_ledger fun s l => by simp, foldl_ledger dropPending_ledger]

@[simp] theorem addRemainder_ledger (s : State) (r : RostrumId) (c : Candidate) :
    (s.addRemainder r c).accountTable.ledger = s.accountTable.ledger := by
  simp [addRemainder]

/-- What follows a booking keeps the ledger that the postings left. -/
theorem win_ledger (s : State) (r : RostrumId) (c : Candidate) (v : Valuation) :
    (s.win r c v).accountTable.ledger = (s.postSale c v).accountTable.ledger := by
  simp only [win]
  split <;> simp

/-! ## Store, starts and time -/

@[simp] theorem writeEffect_ledger (s : State) (id : RecordId) :
    (s.writeEffect id).accountTable.ledger = s.accountTable.ledger := by
  cases id <;> simp [writeEffect]

@[simp] theorem programmed_ledger (s : State) : s.programmed.accountTable.ledger = s.accountTable.ledger := by
  simp only [programmed]
  (repeat' split) <;> simp

@[simp] theorem finishStart_ledger (s : State) : s.finishStart.accountTable.ledger = s.accountTable.ledger := by
  simp [finishStart, all8, all4]

@[simp] theorem beginStart_ledger (s : State) (c : RestartCause) :
    (s.beginStart c).accountTable.ledger = s.accountTable.ledger := by
  simp only [beginStart]
  split <;> simp

@[simp] theorem loseVolatile_ledger (s : State) : s.loseVolatile.accountTable.ledger = s.accountTable.ledger := by
  simp [loseVolatile, all8, all4]

@[simp] theorem malformed_ledger (s : State) (line : StationLine) :
    (s.malformed line).accountTable.ledger = s.accountTable.ledger := by
  cases line <;> simp [malformed]

@[simp] theorem tick_ledger (s : State) : s.tick.accountTable.ledger = s.accountTable.ledger := by
  simp [tick, all8, all4]

end State

end Sys2Proof.Machine
end

section
/-! PROOF. What each command makes of the ledger: one of the transactions, or nothing. -/

namespace Sys2Proof.Machine

/-- What was made of the ledger of a state is one of the transactions. -/
def State.Transacts (s t : State) : Prop := s.accountTable.ledger.Transacts s.store s.lotTable t.accountTable.ledger

/-- A request's owner that leaves the ledger as it was. -/
def KeepsLedger (owner : State → State × Reply) : Prop := ∀ s, (owner s).1.accountTable.ledger = s.accountTable.ledger

namespace State

variable {s t : State}

/-- A state with the same ledger. -/
theorem transacts_of_ledger (h : t.accountTable.ledger = s.accountTable.ledger) : s.Transacts t := .kept h

@[simp] theorem transacts_self (s : State) : s.Transacts s := transacts_of_ledger rfl

/-- No money is posted, and every available credit is 0 or more or was there before and has not fallen. -/
theorem transacts_of_unposted (sum : t.accountTable.balanceSum = s.accountTable.balanceSum)
    (hall : t.accountTable.hall = s.accountTable.hall)
    (credit : ∀ b ∈ t.accountTable.accounts, 0 ≤ b.available ∨ ∃ a ∈ s.accountTable.accounts, a.available ≤ b.available) :
    s.Transacts t := by
  refine .unposted sum hall ?_
  simpa [AccountTable.ledger] using credit

end State

/-- A request makes of the ledger what its owner makes of it. -/
theorem request_transacts {s : State} {owner : State → State × Reply} (code : Byte)
    (h : s.trading = true → s.Transacts (owner s).1) : s.Transacts (request code owner s) := by
  cases ht : s.trading with
  | false => rw [request_idle ht]; exact s.transacts_self
  | true =>
    rw [request_trading ht]
    exact h ht

/-- A request whose owner keeps the ledger keeps it. -/
theorem KeepsLedger.request {owner : State → State × Reply} (h : KeepsLedger owner) (code : Byte) (s : State) :
    s.Transacts (request code owner s) := request_transacts code fun _ => State.transacts_of_ledger (h s)

/-- An event makes of the ledger what it makes of it while the part trades. -/
theorem event_transacts {s : State} {f : State → State} (h : s.trading = true → s.Transacts (f s)) : s.Transacts (event f s) := by
  cases ht : s.trading with
  | false => rw [event_idle ht]; exact s.transacts_self
  | true =>
    rw [event_trading ht]
    exact h ht

/-- An event that keeps the ledger. -/
theorem event_keeps {s : State} {f : State → State} (h : (f s).accountTable.ledger = s.accountTable.ledger) :
    s.Transacts (event f s) := event_transacts fun _ => State.transacts_of_ledger h

/-! ## Requests that keep the ledger -/

theorem onLot_keeps {f : Lot → State → State × Reply} (h : ∀ lot, KeepsLedger (f lot)) (number part : Nat) :
    KeepsLedger (onLot number part f) := by
  intro s
  unfold onLot
  (repeat' split) <;> simp [h _ s]

theorem onRostrum_keeps {f : RostrumId → State → State × Reply} (h : ∀ r, KeepsLedger (f r)) (code : Nat) :
    KeepsLedger (onRostrum code f) := by
  intro s
  unfold onRostrum
  split <;> simp [h _ s]

theorem onAccount_keeps {f : Account → State → State × Reply} (h : ∀ a, KeepsLedger (f a)) (number : Nat) :
    KeepsLedger (onAccount number f) := by
  intro s
  unfold onAccount
  (repeat' split) <;> simp [h _ s]

theorem portSet_keeps (setting limit : Nat) : KeepsLedger (portSet setting limit) := by
  intro s
  unfold portSet
  split <;> simp

theorem unknownRequest_keeps (code : Byte) : KeepsLedger (unknownRequest code) := by
  intro s
  unfold unknownRequest
  split <;> simp

theorem laneResettle_keeps (i : Fin 8) (k band m : Nat) : KeepsLedger (laneResettle i k band m) := by
  intro s
  simp only [laneResettle]
  (repeat' split) <;> simp

theorem laneSetOn_keeps (i : Fin 8) (enable : Bool) (k band m : Nat) : KeepsLedger (laneSetOn i enable k band m) := by
  intro s
  unfold laneSetOn
  (repeat' split) <;> simp [laneResettle_keeps i k band m s]

theorem laneSet_keeps (lane enable k band m : Nat) : KeepsLedger (laneSet lane enable k band m) := by
  intro s
  unfold laneSet
  (repeat' split) <;> simp [laneSetOn_keeps _ _ k band m s]

theorem laneZero_keeps (lane : Nat) : KeepsLedger (laneZero lane) := by
  intro s
  simp only [laneZero]
  (repeat' split) <;> simp

theorem laneRead_keeps (lane partNo : Nat) : KeepsLedger (laneRead lane partNo) := by
  intro s
  unfold laneRead
  (repeat' split) <;> simp

theorem openLot_keeps (boat species crateType : Nat) : KeepsLedger (openLot boat species crateType) := by
  intro s
  simp only [openLot]
  (repeat' split) <;> simp

theorem takeWeighingOn_keeps (i : Fin 8) (c : Nat) (lot : Lot) : KeepsLedger (takeWeighingOn i c lot) := by
  intro s
  simp only [takeWeighingOn]
  (repeat' split) <;> simp

theorem takeWeighing_keeps (number part lane crates : Nat) : KeepsLedger (takeWeighing number part lane crates) := by
  intro s
  unfold takeWeighing
  (repeat' split) <;> simp [onLot_keeps (takeWeighingOn_keeps _ crates) number part s]

theorem closeLotOn_keeps (lot : Lot) : KeepsLedger (closeLotOn lot) := by
  intro s
  simp only [closeLotOn]
  (repeat' split) <;> simp

theorem cancelLotOn_keeps (lot : Lot) : KeepsLedger (cancelLotOn lot) := by
  intro s
  unfold cancelLotOn
  (repeat' split) <;> simp

theorem queueLotOn_keeps (r : RostrumId) (atHead : Bool) (override : Nat) (lot : Lot) :
    KeepsLedger (queueLotOn r atHead override lot) := by
  intro s
  simp only [queueLotOn]
  (repeat' split) <;> simp

theorem queueLot_keeps (number part rostrum position override : Nat) :
    KeepsLedger (queueLot number part rostrum position override) := by
  intro s
  unfold queueLot
  (repeat' split) <;> simp [onLot_keeps (queueLotOn_keeps _ (position == 0) override) number part s]

theorem unqueueLotOn_keeps (lot : Lot) : KeepsLedger (unqueueLotOn lot) := by
  intro s
  unfold unqueueLotOn
  split <;> simp

theorem returnLotOn_keeps (lot : Lot) : KeepsLedger (returnLotOn lot) := by
  intro s
  unfold returnLotOn
  split <;> simp

theorem retireLotOn_keeps (lot : Lot) : KeepsLedger (retireLotOn lot) := by
  intro s
  unfold retireLotOn
  (repeat' split) <;> simp

theorem lotRead_keeps (selector number part page partNo : Nat) : KeepsLedger (lotRead selector number part page partNo) := by
  intro s
  unfold lotRead
  (repeat' split) <;> simp

theorem dayClose_keeps : KeepsLedger dayClose := by
  intro s
  simp only [dayClose]
  split <;> simp [all8, all2]

theorem rostrumStart_keeps (r : RostrumId) : KeepsLedger (rostrumStart r) := by
  intro s
  unfold rostrumStart
  (repeat' split) <;> simp

theorem rostrumHold_keeps (r : RostrumId) : KeepsLedger (rostrumHold r) := by
  intro s
  unfold rostrumHold
  split <;> simp

theorem rostrumResume_keeps (r : RostrumId) : KeepsLedger (rostrumResume r) := by
  intro s
  unfold rostrumResume
  split <;> simp

theorem rostrumStop_keeps (r : RostrumId) : KeepsLedger (rostrumStop r) := by
  intro s
  unfold rostrumStop
  split <;> simp

theorem rostrumRead_keeps (rostrum page partNo : Nat) : KeepsLedger (rostrumRead rostrum page partNo) := by
  intro s
  unfold rostrumRead
  (repeat' split) <;> simp

theorem deskAssign_keeps (rostrum desk buyer : Nat) : KeepsLedger (deskAssign rostrum desk buyer) := by
  intro s
  unfold deskAssign
  (repeat' split) <;> simp

theorem deskRelease_keeps (rostrum desk : Nat) : KeepsLedger (deskRelease rostrum desk) := by
  intro s
  unfold deskRelease
  (repeat' split) <;> simp

theorem accountRead_keeps (number page partNo : Nat) : KeepsLedger (accountRead number page partNo) := by
  intro s
  simp only [accountRead, accountPageRead]
  (repeat' split) <;> simp [onAccount_keeps (f := fun a s => accept s (s.accountPage a page partNo)) (fun a s => rfl) number s]

theorem accountNext_keeps (number : Nat) : KeepsLedger (accountNext number) := by
  intro s
  unfold accountNext
  (repeat' split) <;> simp

theorem hallTotals_keeps (page : Nat) : KeepsLedger (hallTotals page) := by
  intro s
  unfold hallTotals
  (repeat' split) <;> simp

theorem returnOpenOn_keeps (g : Fin 2) (a : Account) : KeepsLedger (returnOpenOn g a) := by
  intro s
  unfold returnOpenOn
  (repeat' split) <;> simp

theorem returnOpen_keeps (gate account : Nat) : KeepsLedger (returnOpen gate account) := by
  intro s
  unfold returnOpen
  split <;> simp [onAccount_keeps (returnOpenOn_keeps _) account s]

theorem fleetAdjust_keeps (crateType : Nat) (n : Int) : KeepsLedger (fleetAdjust crateType n) := by
  intro s
  simp only [fleetAdjust]
  (repeat' split) <;> simp

theorem yardRead_keeps (page : Nat) : KeepsLedger (yardRead page) := by
  intro s
  unfold yardRead
  split <;> simp

theorem iceStockAdd_keeps (grams : Nat) : KeepsLedger (iceStockAdd grams) := by
  intro s
  simp only [iceStockAdd]
  split <;> simp

theorem bayRead_keeps (bay page partNo : Nat) : KeepsLedger (bayRead bay page partNo) := by
  intro s
  unfold bayRead
  (repeat' split) <;> simp

theorem storeRead_keeps (selector partNo : Nat) : KeepsLedger (storeRead selector partNo) := by
  intro s
  unfold storeRead
  (repeat' split) <;> simp

theorem storeWrite_keeps (selector : Nat) (contents : List Byte) : KeepsLedger (storeWrite selector contents) := by
  intro s
  simp only [storeWrite]
  (repeat' split) <;> simp

theorem loadProtection_keeps : KeepsLedger loadProtection := fun _ => rfl

theorem metrologyLock_keeps (check : Nat) : KeepsLedger (metrologyLock check) := by
  intro s
  unfold metrologyLock
  (repeat' split) <;> simp

theorem supplySet_keeps (level filter : Nat) : KeepsLedger (supplySet level filter) := by
  intro s
  unfold supplySet
  (repeat' split) <;> simp

end Sys2Proof.Machine
end

section
/-! PROOF. The commands that post money, reserve or release, or change accounts: each makes one of the transactions of the ledger. -/

namespace Sys2Proof.Machine

/-! ## Account records (R97, R98, R102) -/

/-- A request on one account makes a transaction when it does so on the record found. -/
theorem onAccount_transacts {f : Account → State → State × Reply} {s : State}
    (h : ∀ n a, s.account? n = some a → s.Transacts (f a s).1) (number : Nat) : s.Transacts (onAccount number f s).1 := by
  unfold onAccount
  split
  · exact s.transacts_self
  · split
    · exact s.transacts_self
    · next a ha => exact h number a ha

theorem mem_insertAccount {a new : Account} {as : List Account} : a ∈ insertAccount new as ↔ a = new ∨ a ∈ as := by
  induction as with
  | nil => simp [insertAccount]
  | cons b bs ih =>
    unfold insertAccount
    split
    · simp
    · simp [ih, or_left_comm]

theorem addAccount_transacts (number kind limit cls : Nat) (s : State) : s.Transacts (addAccount number kind limit cls s).1 := by
  unfold addAccount
  split
  · exact s.transacts_self
  · split; · exact s.transacts_self
    split; · exact s.transacts_self
    split; · exact s.transacts_self
    refine State.transacts_of_unposted rfl rfl fun b hb => ?_
    obtain rfl | hb := mem_insertAccount.mp hb
    · exact .inl (by simp [Account.opened, Account.available])
    · exact .inr ⟨b, hb, le_refl _⟩

/-- The limit that ACCOUNT SET gives is no less than the credit floor allows (R96, R98). -/
theorem Account.change_available (a : Account) (limit cls : Option Nat) (state : Option AccountState) :
    0 ≤ (a.change limit cls state).available ∨ a.available ≤ (a.change limit cls state).available := by
  cases limit with
  | none => exact .inr (le_refl _)
  | some l =>
    left
    simp only [Account.change, Account.available, Account.leastLimit, Option.map_some, Option.getD_some]
    omega

theorem accountSetOn_transacts (limit cls : Option Nat) (state : Option AccountState) (a : Account) (s : State) :
    s.Transacts (accountSetOn limit cls state a s).1 := by
  refine State.transacts_of_unposted rfl rfl ?_
  simp only [accountSetOn, State.modAccount_accountTable, List.forall_mem_map]
  intro b hb
  split
  · exact (b.change_available limit cls state).imp_right fun h => ⟨b, hb, h⟩
  · exact .inr ⟨b, hb, le_refl _⟩

theorem accountSet_transacts (number presence limit cls state : Nat) (s : State) :
    s.Transacts (accountSet number presence limit cls state s).1 := by
  simp only [accountSet]
  split
  · exact s.transacts_self
  · exact onAccount_transacts (fun _ a _ => accountSetOn_transacts _ _ _ a s) number

theorem closeAccountOn_transacts (a : Account) (s : State) : s.Transacts (closeAccountOn a s).1 := by
  unfold closeAccountOn
  split
  · exact s.transacts_self
  · exact State.transacts_of_unposted rfl rfl fun b hb => .inr ⟨b, (List.mem_filter.mp hb).1, le_refl _⟩

/-! ## Payments (R103, R104) -/

theorem paymentInOn_transacts (amount : Nat) {n : Nat} {a : Account} {s : State} (ha : s.account? n = some a) :
    s.Transacts (paymentInOn amount a s).1 := by
  unfold paymentInOn
  split
  · exact s.transacts_self
  · rw [accept_fst, State.Transacts, State.modHall_ledger, State.credit_ledger]
    refine .posted (f := a.funds) (State.funds_mem ha) (by omega) ?_
    rw [BitVec.ofInt_natCast]
    simp only [HallCounters.net]
    ring

theorem paymentIn_transacts (number amount : Nat) (s : State) : s.Transacts (paymentIn number amount s).1 := by
  unfold paymentIn
  split
  · exact s.transacts_self
  · exact onAccount_transacts (fun _ _ => paymentInOn_transacts amount) number

theorem paymentOutOn_transacts (amount : Nat) {n : Nat} {a : Account} {s : State} (ha : s.account? n = some a) :
    s.Transacts (paymentOutOn amount a s).1 := by
  unfold paymentOutOn
  split
  · exact s.transacts_self
  · next hc =>
    rw [accept_fst, State.Transacts, State.modHall_ledger, State.debit_ledger]
    refine .posted (f := a.funds) (State.funds_mem ha) (fun _ => ?_) ?_
    · rw [Account.funds_available]
      omega
    · rw [BitVec.ofInt_neg, BitVec.ofInt_natCast]
      simp only [HallCounters.net]
      ring

theorem paymentOut_transacts (number amount : Nat) (s : State) : s.Transacts (paymentOut number amount s).1 := by
  unfold paymentOut
  split
  · exact s.transacts_self
  · exact onAccount_transacts (fun _ _ => paymentOutOn_transacts amount) number

/-! ## Deposits (R121, R126, R128) -/

/-- A money amount clamped to the available credit is within it (R121, R136). -/
theorem div_toNat_mul_le {available : Int} (h : 0 ≤ available) (price : Nat) :
    (((available / price).toNat * price : Nat) : Int) ≤ available := by
  rw [Nat.cast_mul, Int.toNat_of_nonneg (Int.ediv_nonneg h (Int.natCast_nonneg _))]
  by_cases hp : (price : Int) = 0
  · simpa [hp] using h
  · exact Int.ediv_mul_le available hp

/-- The deposit of the crates that CRATE ISSUE draws is within the available credit (R121). -/
theorem issueClamp_deposit_le (n yard : Nat) {available : Int} (h : 0 ≤ available) (d : Nat) :
    ((issueClamp n yard available d * d : Nat) : Int) ≤ available := by
  unfold issueClamp
  split
  · exact (Int.ofNat_le.mpr (Nat.mul_le_mul_right d (Nat.min_le_right ..))).trans (div_toNat_mul_le h d)
  · next hd => simpa [Nat.eq_zero_of_not_pos hd] using h

theorem issueCrates_transacts {s : State} {n : Nat} {a : Account} (ha : s.account? n = some a) (t : Fin 8) {k d : Nat}
    (hk : 0 ≤ a.available → ((k * d : Nat) : Int) ≤ a.available) : s.Transacts (s.issueCrates a.number t k d) := by
  rw [State.Transacts, State.issueCrates, State.modFloat_ledger, State.debit_ledger, State.modHolding_ledger]
  refine .posted (f := a.funds) (State.funds_mem ha) (fun h => ?_) ?_
  · have := hk h
    rw [Account.funds_available]
    omega
  · rw [BitVec.ofInt_neg, BitVec.ofInt_natCast]
    simp only [HallCounters.net]
    ring

theorem crateIssueOn_transacts (t : Fin 8) (n : Nat) {m : Nat} {a : Account} {s : State} (ha : s.account? m = some a) :
    s.Transacts (crateIssueOn t n a s).1 := by
  simp only [crateIssueOn]
  split; · exact s.transacts_self
  split; · exact s.transacts_self
  split; · exact s.transacts_self
  split; · exact s.transacts_self
  exact issueCrates_transacts ha t fun h => issueClamp_deposit_le n _ h _

theorem crateIssue_transacts (account crateType n : Nat) (s : State) : s.Transacts (crateIssue account crateType n s).1 := by
  unfold crateIssue
  split; · exact s.transacts_self
  split; · exact s.transacts_self
  exact onAccount_transacts (fun _ _ => crateIssueOn_transacts _ n) account

@[simp] theorem State.settleType_ledger (w : Session) (a : Account) (s : State) (t : Fin 8) :
    (s.settleType w a t).accountTable.ledger = s.accountTable.ledger := by
  simp [State.settleType]

theorem settle_transacts {s : State} {n : Nat} {a : Account} (ha : s.account? n = some a) (g : Fin 2) (w : Session) :
    s.Transacts (s.settle g w a) := by
  simp only [State.Transacts, State.settle, State.modGate_accountTable]
  rw [State.modFloat_ledger, State.credit_ledger, State.foldl_ledger (State.settleType_ledger w a)]
  refine .posted (f := a.funds) (State.funds_mem ha) (by omega) ?_
  rw [BitVec.ofInt_neg, BitVec.ofInt_natCast]
  simp only [HallCounters.net]
  ring

theorem returnClose_transacts (gate : Nat) (s : State) : s.Transacts (returnClose gate s).1 := by
  unfold returnClose
  split; · exact s.transacts_self
  split; · exact s.transacts_self
  split; · exact s.transacts_self
  next ha =>
    unfold returnCloseOn
    split; · exact s.transacts_self
    split; · exact s.transacts_self
    exact settle_transacts ha _ _

theorem transferCrates_transacts {s : State} {n m : Nat} {a b : Account} (ha : s.account? n = some a) (hb : s.account? m = some b)
    (t : Fin 8) (k d : Nat) (hc : ((k * d : Nat) : Int) ≤ b.available) : s.Transacts (s.transferCrates a.number b.number t k d) := by
  rw [State.Transacts, State.transferCrates, State.credit_ledger, State.debit_ledger, State.modHolding_ledger, State.modHolding_ledger]
  have hhas : s.accountTable.ledger.has a.number = true := Ledger.has_iff.mpr ⟨a.funds, State.funds_mem ha, rfl⟩
  exact .moved (f := b.funds) (g := id) (State.funds_mem hb) hhas hc (fun _ _ => Int.natCast_nonneg _)
    (by rw [BitVec.ofInt_natCast, id])

theorem crateTransfer_transacts (giver taker crateType n : Nat) (s : State) :
    s.Transacts (crateTransfer giver taker crateType n s).1 := by
  unfold crateTransfer
  split; · exact s.transacts_self
  split; · exact s.transacts_self
  split
  case h_2 => exact s.transacts_self
  next ha hb =>
    unfold crateTransferOn
    split; · exact s.transacts_self
    split; · exact s.transacts_self
    split; · exact s.transacts_self
    split; · exact s.transacts_self
    split; · exact s.transacts_self
    next hc _ => exact transferCrates_transacts ha hb _ _ _ (not_lt.mp hc)

/-! ## Sales (R86 to R88) -/

/-- A booked candidate has the tariff's valuation, and the buyer's total is within the available credit (R85). -/
theorem State.book_ok {s : State} {c : Candidate} {v : Valuation} (h : s.book c = .ok v) :
    ∃ t, s.store.tariff? = some t ∧ v = s.valuate t c ∧ (v.buyerTotal : Int) ≤ c.account.available := by
  unfold State.book at h
  split at h
  · cases h
  · next t ht =>
    simp only at h
    split at h; · cases h
    split at h; · cases h
    next hc _ =>
      cases h
      exact ⟨t, ht, rfl, not_lt.mp hc⟩

/-- A winning press: the buyer's and the boat's accounts exist, the lot lives, and the candidate is booked (R63). -/
theorem State.judgePress_ok {s : State} {r : RostrumId} {d : Fin 96} {q : Nat} {c : Candidate} {v : Valuation}
    (h : s.judgePress r d q = .ok (c, v)) :
    (∃ n, s.account? n = some c.account) ∧ s.account? c.lot.boat = some c.boat ∧ c.lot ∈ s.lotTable.lots ∧ s.book c = .ok v := by
  unfold State.judgePress at h
  split at h; · cases h
  split at h
  case h_2 | h_3 => cases h
  split at h; · cases h
  next account offer hbuyer _ _ =>
    split at h; · cases h
    next lot hlot =>
      extract_lets k at h
      split at h; · cases h
      split at h
      case h_1 | h_2 => cases h
      next boat _ hboat =>
        extract_lets c' at h
        cases hb : s.book c' with
        | error a => rw [hb] at h; cases h
        | ok v' =>
          rw [hb] at h
          obtain ⟨rfl, rfl⟩ := Prod.mk.inj (Except.ok.inj h)
          exact ⟨⟨_, hbuyer⟩, hboat, List.mem_of_find?_eq_some hlot, hb⟩

/-- The record that the blocks read is sound (R155). -/
theorem Store.Sound.live {st : Store} (h : st.Sound) (id : RecordId) : (st.live id).Sound id := by
  obtain ⟨hcells, hbuffer⟩ := h
  unfold Store.live
  split
  · exact hcells id
  · next b hb =>
    split
    · next hid => exact hid ▸ (hbuffer b hb).1
    · exact hcells id

/-- A VALID record's contents as the blocks read them are in their ranges (R150, R155). -/
theorem Store.Sound.contentsOk {st : Store} (h : st.Sound) {id : RecordId} (hid : id ≠ .lock) {bs : List Byte}
    (hbs : st.contents? id = some bs) : id.contentsOk bs = true := by
  have hlive := h.live id
  unfold Store.contents? at hbs
  split at hbs
  · next hvalid =>
    obtain ⟨-, -, hok⟩ := hlive hvalid
    rw [if_neg hid] at hok
    rwa [← Option.some.inj hbs]
  · cases hbs

/-- The commission of a sound tariff is at most 80 per mil (11 section 11.5). -/
theorem Store.Sound.commission_le {st : Store} (h : st.Sound) {t : Tariff} (ht : st.tariff? = some t) (cls : Nat) :
    t.commissionOf cls ≤ 80 := by
  obtain ⟨bs, hbs, rfl⟩ := Option.map_eq_some_iff.mp ht
  have hok := h.contentsOk (by decide) hbs
  simp only [RecordId.contentsOk, Bool.and_eq_true, List.all_eq_true, within, decide_eq_true_eq] at hok
  obtain ⟨⟨⟨hcommission, -⟩, -⟩, -⟩ := hok
  unfold Tariff.commissionOf
  rw [List.getD_eq_getElem?_getD]
  cases hc : (tariffOf bs).commission[cls]? with
  | none => simp
  | some x => exact (hcommission x (List.mem_of_getElem? hc)).2

/-- The levy of a living lot is at most 50 per mil (02 section 2.1). -/
theorem LotTable.Sound.levy_le {T : LotTable} (h : T.Sound) {l : Lot} (hl : l ∈ T.lots) :
    (l.snapshot.map (·.levy)).getD 0 ≤ 50 := by
  obtain ⟨-, -, -, -, hlots⟩ := h
  obtain ⟨-, -, -, hlevy⟩ := hlots l hl
  cases hs : l.snapshot with
  | none => simp
  | some x => exact hlevy x hs

/-- With rates in their ranges the boat's credit is 0 or more (R84). -/
theorem boatCredit_nonneg (net price k fee deposit : Nat) {commission levy : Nat} (hc : commission ≤ 80) (hl : levy ≤ 50) :
    0 ≤ (valuate net price k commission levy fee deposit).boatCredit := by
  have h1 := perMil_le_perMil (le_refl (perMil net price)) hc
  have h2 := perMil_le_perMil (le_refl (perMil net price)) hl
  simp only [Valuation.boatCredit, valuate]
  generalize perMil net price = m at h1 h2 ⊢
  have h3 : perMil m 80 + perMil m 50 ≤ m := by
    unfold perMil
    omega
  omega

/-- The charges of a sale make up what the buyer pays beyond the boat's credit (R83, R84, R88). -/
theorem HallCounters.book_net (h : HallCounters) (v : Valuation) :
    (h.book v).net + BitVec.ofInt 64 v.boatCredit = h.net + BitVec.ofNat 64 v.buyerTotal := by
  simp only [HallCounters.net, HallCounters.book, Valuation.boatCredit, Valuation.buyerTotal, sub_eq_add_neg, BitVec.ofInt_add,
    BitVec.ofInt_neg, BitVec.ofInt_natCast, BitVec.ofNat_add]
  ring

theorem postSale_transacts {s : State} {c : Candidate} {v : Valuation} {n : Nat} (hbuyer : s.account? n = some c.account)
    (hboat : s.account? c.lot.boat = some c.boat) (hlot : c.lot ∈ s.lotTable.lots) (hbook : s.book c = .ok v) :
    s.Transacts (s.postSale c v) := by
  obtain ⟨t, ht, rfl, hcredit⟩ := State.book_ok hbook
  have hhas : s.accountTable.ledger.has c.lot.boat = true := by rw [s.ledger_has, hboat]; rfl
  rw [State.Transacts, State.postSale, State.modLot_accountTable, State.modHall_ledger, State.saleMove_ledger, State.post_ledger,
    State.debit_ledger]
  exact .moved (f := c.account.funds) (State.funds_mem hbuyer) hhas hcredit
    (fun hst hlots => boatCredit_nonneg _ _ _ _ _ (hst.commission_le ht _) (hlots.levy_le hlot)) (HallCounters.book_net ..)

theorem press_transacts (s : State) (r : RostrumId) (d : Fin 96) (q : Nat) : s.Transacts (s.press r d q) := by
  unfold State.press
  split
  case h_1 | h_2 | h_3 | h_4 => exact State.transacts_of_ledger (by simp)
  split; · exact State.transacts_of_ledger (by simp)
  next c v h =>
    obtain ⟨⟨n, hbuyer⟩, hboat, hlot, hbook⟩ := State.judgePress_ok h
    have := postSale_transacts hbuyer hboat hlot hbook
    rwa [State.Transacts, ← State.win_ledger s r] at this

theorem pressArrival_transacts (s : State) (r : RostrumId) (desk quantity check : Byte) :
    s.Transacts (s.pressArrival r desk quantity check) := by
  unfold State.pressArrival
  split
  · exact State.transacts_of_ledger (by simp)
  · split
    · exact press_transacts ..
    · exact State.transacts_of_ledger (by simp)

/-! ## Ice orders (R137, R143) -/

/-- The charge that ICE ORDER reserves is within the available credit (R136). -/
theorem creditClamp_charge_le (q : Nat) {available : Int} (h : 0 ≤ available) (price : Nat) :
    ((creditClamp q available price * price : Nat) : Int) ≤ available := by
  unfold creditClamp
  split
  · exact (Int.ofNat_le.mpr (Nat.mul_le_mul_right price (Nat.min_le_right ..))).trans (div_toNat_mul_le h price)
  · next hd => simpa [Nat.eq_zero_of_not_pos hd] using h

theorem takeOrder_transacts {s : State} {n : Nat} {a : Account} (ha : s.account? n = some a) (b : Fin 4) {o : IceOrder}
    (ho : o.account = a.number) (hc : 0 ≤ a.available → (o.charge : Int) ≤ a.available) : s.Transacts (s.takeOrder b o) := by
  rw [State.Transacts, State.takeOrder, State.modBay_accountTable, State.modIce_accountTable, State.reserve_ledger, ho]
  exact .reserved (f := a.funds) (State.funds_mem ha) hc

theorem iceOrder_transacts (account bay q : Nat) (s : State) : s.Transacts (iceOrder account bay q s).1 := by
  unfold iceOrder
  split; · exact s.transacts_self
  split; · exact s.transacts_self
  split; · exact s.transacts_self
  split; · exact s.transacts_self
  next ha =>
    simp only [iceOrderOn]
    split; · exact s.transacts_self
    split
    case h_2 => exact s.transacts_self
    split; · exact s.transacts_self
    split; · exact s.transacts_self
    exact takeOrder_transacts ha _ rfl fun h => creditClamp_charge_le _ h _

/-- The ledger covers the ice orders in flight. -/
def State.Covered (s : State) : Prop := s.accountTable.ledger.Covers fun b => (s.bay b).order

/-- With sound ice books and main supply, the ledger covers the orders in flight (R108). -/
theorem State.IceBooks.covered {s : State} (h : s.IceBooks) (ha : s.supply.absent = false) : s.Covered := by
  obtain ⟨hbays, -, haccounts, -, hreserved⟩ := h
  obtain ⟨hreserved, -⟩ := hreserved ha
  refine ⟨fun b o ho => ⟨?_, ?_⟩, ?_⟩
  · rw [s.ledger_has]
    exact haccounts b o ho
  · obtain ⟨-, -, -, -, -, hb⟩ := hbays b
    obtain ⟨-, -, hcharge, -⟩ := hb o ho
    exact hcharge
  · simp only [AccountTable.ledger, List.forall_mem_map]
    exact fun a ha => (hreserved a ha).ge

/-- The main supply is present while the part trades. -/
theorem State.absent_of_trading {s : State} (h : s.trading = true) : s.supply.absent = false := by
  simp only [State.trading, Supply.trading, Bool.and_eq_true, Bool.not_eq_true'] at h
  obtain ⟨⟨habsent, -⟩, -⟩ := h
  exact habsent

/-- A completion completes the order in the ledger (R143). -/
theorem State.completeOrder_ledger {s : State} {b : Fin 4} {o : IceOrder} (ho : (s.bay b).order = some o) (code : IceCode) :
    (s.completeOrder b code).accountTable.ledger = s.accountTable.ledger.complete o (s.bay b).delivered := by
  simp only [State.completeOrder, ho, State.modBay_accountTable, State.modIce_accountTable]
  rw [State.modHall_ledger, State.release_ledger]
  rfl

/-- The bays' orders after a completion. -/
theorem State.completeOrder_orders (s : State) (b : Fin 4) (code : IceCode) (c : Fin 4) :
    ((s.completeOrder b code).bay c).order = if c = b then none else (s.bay c).order := by
  unfold State.completeOrder
  split
  · next h =>
    split
    · next hc => rw [hc, h]
    · rfl
  · rw [State.bay_modBay]
    split
    · rfl
    · simp [State.bay, State.modIce]

/-- The completion of an order that the ledger backs. -/
theorem completeOrder_transacts_of_backs {s : State} {b : Fin 4} {o : IceOrder} (ho : (s.bay b).order = some o)
    (h : s.accountTable.ledger.Backs o) (code : IceCode) : s.Transacts (s.completeOrder b code) := by
  rw [State.Transacts, State.completeOrder_ledger ho]
  exact .completed (.single ⟨o, _, h, rfl⟩)

/-- A bay without an order has none to complete. -/
theorem State.completeOrder_none {s : State} {b : Fin 4} (h : (s.bay b).order = none) (code : IceCode) :
    s.completeOrder b code = s := by
  simp only [State.completeOrder, h]

theorem enterRunOn_transacts {s : State} {o : IceOrder} (h : s.accountTable.ledger.Backs o) (b : Fin 4) :
    s.Transacts (s.enterRunOn b o) := by
  simp only [State.enterRunOn]
  split
  · exact completeOrder_transacts_of_backs (s := s.modBay b _) (by rw [State.bay_modBay_self]) h _
  · exact s.transacts_self

theorem dispensePulse_transacts {s : State} {o : IceOrder} (h : s.accountTable.ledger.Backs { o with aborted := false })
    (b : Fin 4) : s.Transacts (s.dispensePulse b o) := by
  simp only [State.dispensePulse]
  split
  · exact enterRunOn_transacts (s := s.modBay b _) h b
  · exact s.transacts_self

/-- Bays that complete their orders one after another, from a state whose orders the ledger covers (R147). -/
theorem foldl_bayHold_completes (bs : List (Fin 4)) {s : State} (h : s.Covered) :
    Relation.ReflTransGen Ledger.Completes s.accountTable.ledger (bs.foldl State.bayHold s).accountTable.ledger := by
  induction bs generalizing s with
  | nil => exact .refl
  | cons b bs ih =>
    rw [List.foldl_cons, State.bayHold]
    cases ho : (s.bay b).order with
    | none =>
      rw [State.completeOrder_none ho]
      exact ih h
    | some o =>
      have hledger := State.completeOrder_ledger ho .supply
      have hrest : (s.completeOrder b .supply).Covered := by
        rw [State.Covered, hledger]
        exact Ledger.Covers.complete h ho (s.completeOrder_orders b .supply) _
      refine .head ⟨o, _, Ledger.Covers.backs h ho, hledger⟩ (ih hrest)

section

variable {s : State} (h : s.Covered)

include h

/-- The ledger backs an order in flight, whatever is noted of its abort (R142). -/
theorem State.Covered.backs {b : Fin 4} {o : IceOrder} (ho : (s.bay b).order = some o) (aborted : Bool) :
    s.accountTable.ledger.Backs { o with aborted } := by
  obtain ⟨haccount, hcharge, hreserved⟩ := Ledger.Covers.backs h ho
  exact ⟨haccount, hcharge, hreserved⟩

theorem completeOrder_transacts (b : Fin 4) (code : IceCode) : s.Transacts (s.completeOrder b code) := by
  cases ho : (s.bay b).order with
  | none =>
    rw [State.completeOrder_none ho]
    exact s.transacts_self
  | some o => exact completeOrder_transacts_of_backs ho (h.backs ho o.aborted) code

theorem pulse_transacts (b : Fin 4) : s.Transacts (s.pulse b) := by
  unfold State.pulse
  split
  · next ho => exact dispensePulse_transacts (h.backs ho false) b
  all_goals exact s.transacts_self

theorem jam_transacts (b : Fin 4) : s.Transacts (s.jam b) := by
  unfold State.jam
  split
  · exact completeOrder_transacts h b .jam
  · exact s.transacts_self

theorem runOnExpiry_transacts (b : Fin 4) : s.Transacts (s.runOnExpiry b) := by
  unfold State.runOnExpiry
  split; · exact s.transacts_self
  split; · exact s.transacts_self
  exact completeOrder_transacts h b _

theorem iceAbort_transacts (bay : Nat) : s.Transacts (iceAbort bay s).1 := by
  unfold iceAbort
  split; · exact s.transacts_self
  unfold iceAbortOn
  split
  · next ho => exact enterRunOn_transacts (h.backs ho true) _
  all_goals exact s.transacts_self

/-! ## The supply (R147, R162, R164 to R166) -/

/-- The entry into HOLD and the assertion of the reset line complete the ice orders, and post nothing else (R143, R147). -/
theorem endInFlight_transacts : s.Transacts s.endInFlight := by
  have hcovered : (((all8.foldl State.laneHold s).rostrumHoldEntry .a).rostrumHoldEntry .b).Covered := by
    simpa [State.Covered, State.bay, all8] using h
  have hcompleted := foldl_bayHold_completes all4 hcovered
  simp only [State.rostrumHoldEntry_frame, State.foldl_ledger State.laneHold_ledger] at hcompleted
  simp only [State.Transacts, State.endInFlight, State.setTotals_accountTable, State.modStore_accountTable,
    AccountTable.ledger_withTotals]
  exact .completed hcompleted

theorem enterHold_transacts : s.Transacts s.enterHold := by
  rw [State.Transacts, State.enterHold, State.modSupply_accountTable]
  exact endInFlight_transacts h

theorem lowSupply_transacts : s.Transacts s.lowSupply := by
  unfold State.lowSupply
  split
  · exact enterHold_transacts h
  · exact s.transacts_self

end

section

variable {s : State} (hbooks : s.IceBooks)

include hbooks

theorem supplyFalls_transacts (mv : Nat) : s.Transacts (s.supplyFalls mv) := by
  simp only [State.supplyFalls]
  split
  · next hp =>
    simp only [Bool.and_eq_true, Bool.not_eq_true'] at hp
    obtain ⟨⟨⟨habsent, -⟩, -⟩, -⟩ := hp
    exact lowSupply_transacts (hbooks.covered habsent)
  · exact s.transacts_self

theorem persistenceExpiry_transacts : s.Transacts s.persistenceExpiry := by
  simp only [State.persistenceExpiry]
  split
  · next hp =>
    simp only [Bool.and_eq_true, Bool.not_eq_true'] at hp
    obtain ⟨⟨habsent, -⟩, -⟩ := hp
    exact enterHold_transacts (hbooks.covered habsent)
  · exact s.transacts_self

theorem suspendEnd_transacts (mv : Nat) : s.Transacts (s.suspendEnd mv) := by
  simp only [State.suspendEnd]
  split; · exact s.transacts_self
  next hp =>
    simp only [Bool.or_eq_true, not_or, Bool.not_eq_true] at hp
    obtain ⟨habsent, -⟩ := hp
    split
    · split
      · exact lowSupply_transacts (s := s.modSupply _) (hbooks.covered habsent)
      · exact s.transacts_self
    · split <;> exact s.transacts_self
    all_goals exact s.transacts_self

theorem resetAsserted_transacts : s.Transacts s.resetAsserted := by
  unfold State.resetAsserted
  split
  · next ht =>
    rw [State.Transacts, State.beginStart_ledger]
    exact endInFlight_transacts (hbooks.covered (State.absent_of_trading ht))
  · exact s.transacts_self

end

/-- A warm power-on drops every reserve without a charge (R116), which lowers no available credit. -/
theorem warmReconcile_transacts (s : State) : s.Transacts s.warmReconcile := by
  rw [State.Transacts, State.warmReconcile, State.modIce_accountTable, ← s.reconcileLots_ledger]
  refine .unposted rfl rfl ?_
  simp only [State.dropReserved, AccountTable.ledger, List.forall_mem_map]
  intro a ha
  refine .inr ⟨a.funds, List.mem_map_of_mem ha, ?_⟩
  simp only [Account.funds_available, Account.available]
  omega

/-- A power-on finds the accounts as they were, with no reserve, or none at all (R116, R117). -/
theorem powersOn_transacts (s : State) : s.Transacts s.powersOn := by
  simp only [State.powersOn]
  split
  case isFalse => exact s.transacts_self
  rw [State.Transacts, State.beginStart_ledger, State.modSupply_accountTable]
  split
  · exact .cleared
  · exact warmReconcile_transacts s

theorem recordsClear_transacts (s : State) : s.Transacts (recordsClear s).1 := by
  unfold recordsClear
  split
  · exact s.transacts_self
  · exact .cleared

end Sys2Proof.Machine
end

section
/-! PROOF. Every command and every step make one of the transactions of the ledger (R95 to R117); with that, the money identity
(R110) and the credit floor (R96). -/

namespace Sys2Proof.Machine

/-! ## Every command -/

/-- What a command makes of the ledger is one of the transactions, with sound ice books. -/
theorem exec_transacts {c : Instr} {s t : State} (hbooks : s.IceBooks) (h : exec c s = .next t) : s.Transacts t := by
  have hcovered : s.trading = true → s.Covered := fun ht => hbooks.covered (State.absent_of_trading ht)
  cases c <;> cases h
  case status => exact event_keeps rfl
  case portSet setting limit => exact (portSet_keeps setting limit).request ..
  case shortFrame => exact event_keeps rfl
  case crcErr code => exact event_keeps (by unfold State.crcErrArrives; split <;> rfl)
  case unknownRequest code byte14 => exact (unknownRequest_keeps code).request ..
  case laneSet lane enable k band m => exact (laneSet_keeps lane enable k band m).request ..
  case laneZero lane => exact (laneZero_keeps lane).request ..
  case laneRead lane partNo => exact (laneRead_keeps lane partNo).request ..
  case openLot boat species crateType => exact (openLot_keeps boat species crateType).request ..
  case takeWeighing number part lane crates => exact (takeWeighing_keeps number part lane crates).request ..
  case closeLot number part => exact (onLot_keeps closeLotOn_keeps number part).request ..
  case cancelLot number part => exact (onLot_keeps cancelLotOn_keeps number part).request ..
  case queueLot number part rostrum position override => exact (queueLot_keeps number part rostrum position override).request ..
  case unqueueLot number part => exact (onLot_keeps unqueueLotOn_keeps number part).request ..
  case returnLot number part => exact (onLot_keeps returnLotOn_keeps number part).request ..
  case retireLot number part => exact (onLot_keeps retireLotOn_keeps number part).request ..
  case lotRead selector number part page partNo => exact (lotRead_keeps selector number part page partNo).request ..
  case dayClose => exact dayClose_keeps.request ..
  case rostrumStart rostrum => exact (onRostrum_keeps rostrumStart_keeps rostrum).request ..
  case rostrumHold rostrum => exact (onRostrum_keeps rostrumHold_keeps rostrum).request ..
  case rostrumResume rostrum => exact (onRostrum_keeps rostrumResume_keeps rostrum).request ..
  case rostrumStop rostrum => exact (onRostrum_keeps rostrumStop_keeps rostrum).request ..
  case rostrumRead rostrum page partNo => exact (rostrumRead_keeps rostrum page partNo).request ..
  case deskAssign rostrum desk buyer => exact (deskAssign_keeps rostrum desk buyer).request ..
  case deskRelease rostrum desk => exact (deskRelease_keeps rostrum desk).request ..
  case addAccount number kind limit cls => exact request_transacts _ fun _ => addAccount_transacts number kind limit cls s
  case accountSet number presence limit cls state =>
    exact request_transacts _ fun _ => accountSet_transacts number presence limit cls state s
  case accountRead number page partNo => exact (accountRead_keeps number page partNo).request ..
  case accountNext number => exact (accountNext_keeps number).request ..
  case closeAccount number =>
    exact request_transacts _ fun _ => onAccount_transacts (fun _ a _ => closeAccountOn_transacts a s) number
  case paymentIn number amount => exact request_transacts _ fun _ => paymentIn_transacts number amount s
  case paymentOut number amount => exact request_transacts _ fun _ => paymentOut_transacts number amount s
  case hallTotals page => exact (hallTotals_keeps page).request ..
  case crateIssue account crateType n => exact request_transacts _ fun _ => crateIssue_transacts account crateType n s
  case returnOpen gate account => exact (returnOpen_keeps gate account).request ..
  case returnClose gate => exact request_transacts _ fun _ => returnClose_transacts gate s
  case crateTransfer giver taker crateType n =>
    exact request_transacts _ fun _ => crateTransfer_transacts giver taker crateType n s
  case fleetAdjust crateType n => exact (fleetAdjust_keeps crateType n).request ..
  case yardRead page => exact (yardRead_keeps page).request ..
  case iceOrder account bay q => exact request_transacts _ fun _ => iceOrder_transacts account bay q s
  case iceAbort bay => exact request_transacts _ fun ht => iceAbort_transacts (hcovered ht) bay
  case iceStockAdd grams => exact (iceStockAdd_keeps grams).request ..
  case bayRead bay page partNo => exact (bayRead_keeps bay page partNo).request ..
  case storeRead selector partNo => exact (storeRead_keeps selector partNo).request ..
  case storeWrite selector contents => exact (storeWrite_keeps selector contents).request ..
  case loadProtection => exact loadProtection_keeps.request ..
  case metrologyLock check => exact (metrologyLock_keeps check).request ..
  case supplySet level filter => exact (supplySet_keeps level filter).request ..
  case recordsClear => exact request_transacts _ fun _ => recordsClear_transacts s
  case sampleFrame lane status count => exact event_keeps (by split <;> simp)
  case silenceTimerExpiry lane => exact event_keeps (s.silenceExpiry_ledger lane)
  case stabilityTimerExpiry lane => exact event_keeps (s.stabilityExpiry_ledger lane)
  case ticketLineSent lane => exact event_keeps rfl
  case malformedLineFrame line => exact event_keeps (s.malformed_ledger line)
  case pressFrame rostrum desk quantity check =>
    exact event_transacts fun _ => pressArrival_transacts s rostrum desk quantity check
  case stepTimerExpiry rostrum => exact event_keeps (by simp)
  case showTimerExpiry rostrum => exact event_keeps (by simp)
  case rostrumFrameSent rostrum => exact event_keeps (by simp)
  case gateFrame gate typeCode check => exact event_keeps (by simp)
  case bayPulse bay => exact event_transacts fun ht => pulse_transacts (hcovered ht) bay
  case pulseTimerExpiry bay => exact event_transacts fun ht => jam_transacts (hcovered ht) bay
  case runOnTimerExpiry bay => exact event_transacts fun ht => runOnExpiry_transacts (hcovered ht) bay
  case programmingCompletion => exact event_keeps s.programmed_ledger
  case supplyFall mv => exact supplyFalls_transacts hbooks mv
  case supplyRise mv => exact State.transacts_of_ledger (by unfold State.supplyRises; simp only; split <;> rfl)
  case persistenceTimerExpiry => exact persistenceExpiry_transacts hbooks
  case detectionSuspendEnd mv => exact suspendEnd_transacts hbooks mv
  case recoveryRise mv => exact State.transacts_of_ledger (by unfold State.recoveryRises; simp only; split <;> rfl)
  case recoveryFall mv => exact State.transacts_of_ledger (by unfold State.recoveryFalls; simp only; split <;> rfl)
  case recoveryTimerExpiry => exact State.transacts_of_ledger (by unfold State.recoveryExpiry; simp only; split <;> simp)
  case supplyAbsent => exact State.transacts_of_ledger (by unfold State.supplyLost; split <;> simp)
  case backupLow => exact State.transacts_of_ledger (by unfold State.backupFalls; split <;> rfl)
  case powerOn => exact powersOn_transacts s
  case resetLineAssert => exact resetAsserted_transacts hbooks
  case resetLineRelease => exact State.transacts_of_ledger (by unfold State.resetReleased; simp only; split <;> simp)

/-- What a step makes of the ledger is one of the transactions, with sound ice books. -/
theorem step_transacts {s t : State} (hbooks : s.IceBooks) (h : step s = .next t) : s.Transacts t := by
  unfold step at h
  split at h
  · cases h
    exact State.transacts_of_ledger s.tick_ledger
  · next rest _ => exact exec_transacts (s := { s with pending := rest }) hbooks h

/-! ## The money identity and the credit floor -/

/-- Settles O11: every step makes a transaction of the ledger, and each transaction keeps the money identity. -/
theorem moneyIdentityHolds : Obligations.MoneyIdentityHolds := by
  refine ⟨by unfold AccountTable.Balanced; decide, fun s t hbooks hbalanced h => ?_⟩
  rw [AccountTable.balanced_iff] at hbalanced ⊢
  exact (step_transacts hbooks h).balanced hbalanced

/-- Settles O12: every step makes a transaction of the ledger, and each transaction keeps the credit floor. -/
theorem creditFloorHolds : Obligations.CreditFloorHolds := by
  refine ⟨fun a ha => absurd ha List.not_mem_nil, fun s t htallied hbooks hstore hlots hfloored h => ?_⟩
  rw [AccountTable.floored_iff] at hfloored ⊢
  exact (step_transacts hbooks h).floored htallied.distinct hstore hlots hfloored

end Sys2Proof.Machine
end

section
/-! PROOF. ICE STOCK ADD (R145): what its owner makes of an argument out of range and of one in range, and the whole request. -/

namespace Sys2Proof.Machine

/-! ## The owner's judgement -/

/-- R145: an amount outside 1 to 2,000,000,000 g is refused. -/
theorem iceStockAdd_out_of_range {grams : Nat} (h : grams < 1 ∨ 2000000000 < grams) (s : State) :
    iceStockAdd grams s = refuse s .range := if_pos h

/-- R145: an amount in range grows the stock up to the clamp; the answer carries the new stock and what is free of it. -/
theorem iceStockAdd_in_range {grams : Nat} (h : ¬ (grams < 1 ∨ 2000000000 < grams)) (s : State) :
    iceStockAdd grams s =
      (s.modIce fun u => { u with stock := min (u.stock + grams) 2000000000 },
        { code := if 2000000000 < s.ice.stock + grams then .clamped else .ok
          data := be 4 (min (s.ice.stock + grams) 2000000000) ++
            be 4 (min (s.ice.stock + grams) 2000000000 - s.ice.reservation) }) := if_neg h

/-! ## The request -/

/-- While the part trades, ICE STOCK ADD is answered as its owner judges it. -/
theorem exec_iceStockAdd_trading {s : State} (h : s.trading = true) (grams : Nat) :
    exec (.iceStockAdd grams) s =
      .next (s.replied (iceStockAdd grams s).1 0x62 (iceStockAdd grams s).2.code (iceStockAdd grams s).2.data) :=
  congrArg Host.Outcome.next (request_trading h 0x62 (iceStockAdd grams))

/-- Settles O52: the request is answered as its owner judges it, and the owner splits on the range of the amount. -/
theorem iceStockAddIsR145 : Obligations.IceStockAddIsR145 := by
  intro grams s htrading
  rw [exec_iceStockAdd_trading htrading]
  by_cases hrange : grams < 1 ∨ 2000000000 < grams
  case pos => rw [if_pos hrange, iceStockAdd_out_of_range hrange, refuse]
  case neg => rw [if_neg hrange, iceStockAdd_in_range hrange]

end Sys2Proof.Machine
end

section
/-! PROOF. What a command means: a request with its code and owner, an event of a trading part, or a row of the supply monitor. With
it, what holds of every command at once: taking it, discarding it outside trading, and what its answer carries. -/

namespace Sys2Proof.Machine

/-! ## The meaning of a command -/

/-- The three ways in which a command acts. -/
inductive Meaning where
  /-- A request frame with its code and the owner that judges it. -/
  | request (code : Byte) (owner : State → State × Reply)
  /-- An arrival, expiry or completion, taken while the part trades. -/
  | event (f : State → State)
  /-- A row of the supply monitor or the reset line, which acts whether or not the part trades. -/
  | supply (f : State → State)

/-- The next state that a meaning gives. -/
def Meaning.run : Meaning → State → State
  | .request code owner, s => Machine.request code owner s
  | .event f, s => Machine.event f s
  | .supply f, s => f s

/-- The meaning of each command. -/
def meaning : Instr → Meaning
  | .status => .event State.takeStatus
  | .portSet setting limit => .request 0x02 (portSet setting limit)
  | .shortFrame => .event State.shortArrives
  | .crcErr code => .event (State.crcErrArrives code)
  | .unknownRequest code _ => .request code (unknownRequest code)
  | .laneSet lane enable k band m => .request 0x10 (laneSet lane enable k band m)
  | .laneZero lane => .request 0x11 (laneZero lane)
  | .laneRead lane partNo => .request 0x12 (laneRead lane partNo)
  | .openLot boat species crateType => .request 0x20 (openLot boat species crateType)
  | .takeWeighing number part lane crates => .request 0x21 (takeWeighing number part lane crates)
  | .closeLot number part => .request 0x22 (onLot number part closeLotOn)
  | .cancelLot number part => .request 0x23 (onLot number part cancelLotOn)
  | .queueLot number part rostrum position override => .request 0x24 (queueLot number part rostrum position override)
  | .unqueueLot number part => .request 0x25 (onLot number part unqueueLotOn)
  | .returnLot number part => .request 0x26 (onLot number part returnLotOn)
  | .retireLot number part => .request 0x27 (onLot number part retireLotOn)
  | .lotRead selector number part page partNo => .request 0x28 (lotRead selector number part page partNo)
  | .dayClose => .request 0x29 dayClose
  | .rostrumStart rostrum => .request 0x30 (onRostrum rostrum rostrumStart)
  | .rostrumHold rostrum => .request 0x31 (onRostrum rostrum rostrumHold)
  | .rostrumResume rostrum => .request 0x32 (onRostrum rostrum rostrumResume)
  | .rostrumStop rostrum => .request 0x33 (onRostrum rostrum rostrumStop)
  | .rostrumRead rostrum page partNo => .request 0x34 (rostrumRead rostrum page partNo)
  | .deskAssign rostrum desk buyer => .request 0x35 (deskAssign rostrum desk buyer)
  | .deskRelease rostrum desk => .request 0x36 (deskRelease rostrum desk)
  | .addAccount number kind limit cls => .request 0x40 (addAccount number kind limit cls)
  | .accountSet number presence limit cls state => .request 0x41 (accountSet number presence limit cls state)
  | .accountRead number page partNo => .request 0x42 (accountRead number page partNo)
  | .accountNext number => .request 0x43 (accountNext number)
  | .closeAccount number => .request 0x44 (onAccount number closeAccountOn)
  | .paymentIn number amount => .request 0x45 (paymentIn number amount)
  | .paymentOut number amount => .request 0x46 (paymentOut number amount)
  | .hallTotals page => .request 0x47 (hallTotals page)
  | .crateIssue account crateType n => .request 0x50 (crateIssue account crateType n)
  | .returnOpen gate account => .request 0x51 (returnOpen gate account)
  | .returnClose gate => .request 0x52 (returnClose gate)
  | .crateTransfer giver taker crateType n => .request 0x53 (crateTransfer giver taker crateType n)
  | .fleetAdjust crateType n => .request 0x54 (fleetAdjust crateType n)
  | .yardRead page => .request 0x55 (yardRead page)
  | .iceOrder account bay q => .request 0x60 (iceOrder account bay q)
  | .iceAbort bay => .request 0x61 (iceAbort bay)
  | .iceStockAdd grams => .request 0x62 (iceStockAdd grams)
  | .bayRead bay page partNo => .request 0x63 (bayRead bay page partNo)
  | .storeRead selector partNo => .request 0x70 (storeRead selector partNo)
  | .storeWrite selector contents => .request 0x71 (storeWrite selector contents)
  | .loadProtection => .request 0x72 loadProtection
  | .metrologyLock check => .request 0x73 (metrologyLock check)
  | .supplySet level filter => .request 0x78 (supplySet level filter)
  | .recordsClear => .request 0x79 recordsClear
  | .sampleFrame lane status count =>
    .event fun s => if evenParity status count then s.goodSample lane (overrange status) count.toInt else s.badSample lane
  | .silenceTimerExpiry lane => .event (·.silenceExpiry lane)
  | .stabilityTimerExpiry lane => .event (·.stabilityExpiry lane)
  | .ticketLineSent lane => .event (·.modLane lane fun l => { l with tickets := l.tickets.drop 1 })
  | .malformedLineFrame line => .event (·.malformed line)
  | .pressFrame rostrum desk quantity check => .event (·.pressArrival rostrum desk quantity check)
  | .stepTimerExpiry rostrum => .event (·.stepExpiry rostrum)
  | .showTimerExpiry rostrum => .event (·.showExpiry rostrum)
  | .rostrumFrameSent rostrum => .event (·.modRostrum rostrum Rostrum.frameSent)
  | .gateFrame gate typeCode check => .event (·.gateArrival gate typeCode check)
  | .bayPulse bay => .event (·.pulse bay)
  | .pulseTimerExpiry bay => .event (·.jam bay)
  | .runOnTimerExpiry bay => .event (·.runOnExpiry bay)
  | .programmingCompletion => .event State.programmed
  | .supplyFall millivolts => .supply (·.supplyFalls millivolts)
  | .supplyRise millivolts => .supply (·.supplyRises millivolts)
  | .persistenceTimerExpiry => .supply State.persistenceExpiry
  | .detectionSuspendEnd millivolts => .supply (·.suspendEnd millivolts)
  | .recoveryRise millivolts => .supply (·.recoveryRises millivolts)
  | .recoveryFall millivolts => .supply (·.recoveryFalls millivolts)
  | .recoveryTimerExpiry => .supply State.recoveryExpiry
  | .supplyAbsent => .supply State.supplyLost
  | .backupLow => .supply State.backupFalls
  | .powerOn => .supply State.powersOn
  | .resetLineAssert => .supply State.resetAsserted
  | .resetLineRelease => .supply State.resetReleased

/-- Every command completes, with the next state that its meaning gives. -/
theorem exec_eq_run (c : Instr) (s : State) : exec c s = .next ((meaning c).run s) := by cases c <;> rfl

theorem eq_run_of_exec {c : Instr} {s t : State} (h : exec c s = .next t) : t = (meaning c).run s := by
  rw [exec_eq_run] at h
  exact (Host.Outcome.next.inj h).symm

/-- A request in a trading part: its owner's judgement, and the answer. -/
theorem exec_request {c : Instr} {code : Byte} {owner : State → State × Reply} (hc : meaning c = .request code owner) {s : State}
    (h : s.trading = true) : exec c s = .next (s.replied (owner s).1 code (owner s).2.code (owner s).2.data) := by
  rw [exec_eq_run, hc, Meaning.run, request_trading h]

/-- A request in a trading part whose owner's judgement is known. -/
theorem exec_judged {c : Instr} {code : Byte} {owner : State → State × Reply} (hc : meaning c = .request code owner)
    {s t : State} {a : AnswerCode} {data : List Byte} (h : s.trading = true) (hj : owner s = (t, { code := a, data })) :
    exec c s = .next (s.replied t code a data) := by
  rw [exec_request hc h, hj]

/-- An event in a trading part. -/
theorem exec_event {c : Instr} {f : State → State} (hc : meaning c = .event f) {s : State} (h : s.trading = true) :
    exec c s = .next (f s) := by
  rw [exec_eq_run, hc, Meaning.run, event_trading h]

/-! ## Outside trading -/

/-- A command that acts as a row of the supply monitor is one of them. -/
theorem ofSupply_of_meaning {c : Instr} {f : State → State} (h : meaning c = .supply f) : c.ofSupply = true := by
  cases c <;> cases h <;> rfl

/-- Settles O1: the definition of a step on a queue that is not empty. -/
theorem stepTakesTheOldestCommand : Obligations.StepTakesTheOldestCommand := by
  intro c rest s h
  rw [step, h]

/-- Settles O4: outside trading neither a request nor an event is taken. -/
theorem outsideTradingNothingIsTaken : Obligations.OutsideTradingNothingIsTaken := by
  intro c s hc ht
  rw [exec_eq_run]
  cases hm : meaning c with
  | request code owner => rw [Meaning.run, request_idle ht]
  | event f => rw [Meaning.run, event_idle ht]
  | supply f => rw [ofSupply_of_meaning hm] at hc; cases hc

/-! ## The answer -/

/-- A command with a request's frame is STATUS, or a request whose code is the first byte of the frame. -/
theorem meaning_of_encodeRequest {c : Instr} {code : Byte} {rest : List Byte} (h : encodeRequest c = some (code :: rest)) :
    (c = .status ∧ code = 0x01) ∨ ∃ owner, meaning c = .request code owner := by
  cases c <;> cases h
  case status => exact .inl ⟨rfl, rfl⟩
  all_goals exact .inr ⟨_, rfl⟩

theorem length_padTo (n : Nat) (bs : List Byte) : (padTo n bs).length = n := by simp [padTo]

/-- The end of a frame leaves what the status summary is made of. -/
@[simp] theorem State.summary_endFrame (s : State) (setting : Bool) (a : Answer) (short crcErr : Bool) :
    (s.endFrame setting a).summary short crcErr = s.summary short crcErr := rfl

/-- The pending answer after a request: its code, its owner's answer, and the summary of the state its owner left (R172, log 5). -/
theorem State.replied_port (s t : State) (code : Byte) (a : AnswerCode) (data : List Byte) :
    (s.replied t code a data).port =
      { t.port with
        frameCrc := s.port.crcSetting
        answer := { request := code, code := a.byte, summary := t.summary false false, data := padTo 12 data } } := rfl

/-- Settles O6: STATUS forms its answer by itself; every other request is answered at its end. -/
theorem answerNamesItsRequest : Obligations.AnswerNamesItsRequest := by
  intro c s t code rest henc ht hexec
  obtain ⟨rfl, rfl⟩ | ⟨owner, hm⟩ := meaning_of_encodeRequest henc
  case inl =>
    rw [exec_event rfl ht] at hexec
    cases hexec
    exact ⟨rfl, length_padTo .., rfl, fun h => absurd rfl h⟩
  case inr =>
    rw [exec_request hm ht] at hexec
    cases hexec
    exact ⟨rfl, length_padTo .., rfl, fun _ => rfl⟩

/-! ## Refusals -/

/-- A judgement that leaves the state as it was, or whose answer code is OK, PENDING or CLAMPED. -/
def Judged (s : State) (x : State × Reply) : Prop := 3 ≤ x.2.code.byte.toNat → x.1 = s

@[simp] theorem judged_refuse (s : State) (c : AnswerCode) : Judged s (refuse s c) := fun _ => rfl
@[simp] theorem judged_kept (s : State) (r : Reply) : Judged s (s, r) := fun _ => rfl
@[simp] theorem judged_accept (s t : State) (data : List Byte) : Judged s (accept t data) := fun h => absurd h (by decide : ¬ 3 ≤ 0)
@[simp] theorem judged_pending (s t : State) (data : List Byte) : Judged s (t, { code := .pending, data }) :=
  fun h => absurd h (by decide : ¬ 3 ≤ 1)

@[simp] theorem judged_clamped (s t : State) (p : Prop) [Decidable p] (data : List Byte) :
    Judged s (t, { code := if p then .clamped else .ok, data }) := by
  intro h
  split at h
  · exact absurd h (by decide : ¬ 3 ≤ 2)
  · exact absurd h (by decide : ¬ 3 ≤ 0)

@[simp] theorem judged_ite (p : Prop) [Decidable p] {s : State} {x y : State × Reply} (hx : Judged s x) (hy : Judged s y) :
    Judged s (if p then x else y) := by
  split
  · exact hx
  · exact hy

theorem judged_onLot {f : Lot → State → State × Reply} (h : ∀ lot s, Judged s (f lot s)) (number part : Nat) (s : State) :
    Judged s (onLot number part f s) := by
  unfold onLot
  (repeat' split) <;> simp [h]

theorem judged_onAccount {f : Account → State → State × Reply} (h : ∀ a s, Judged s (f a s)) (number : Nat) (s : State) :
    Judged s (onAccount number f s) := by
  unfold onAccount
  (repeat' split) <;> simp [h]

theorem judged_onRostrum {f : RostrumId → State → State × Reply} (h : ∀ r s, Judged s (f r s)) (code : Nat) (s : State) :
    Judged s (onRostrum code f s) := by
  unfold onRostrum
  split <;> simp [h]
theorem judged_laneSet (lane enable k band m : Nat) (s : State) : Judged s (laneSet lane enable k band m s) := by
  have hon (i : Fin 8) (e : Bool) : Judged s (laneSetOn i e k band m s) := by
    unfold laneSetOn
    (repeat' split) <;> simp [laneResettle]
  unfold laneSet
  (repeat' split) <;> simp [hon]

theorem judged_takeWeighing (number part lane crates : Nat) (s : State) : Judged s (takeWeighing number part lane crates s) := by
  have hon (i : Fin 8) (lot : Lot) (s : State) : Judged s (takeWeighingOn i crates lot s) := by
    unfold takeWeighingOn
    (repeat' split) <;> simp
  unfold takeWeighing
  (repeat' split) <;> simp [judged_onLot (hon _)]

theorem judged_closeLotOn (lot : Lot) (s : State) : Judged s (closeLotOn lot s) := by
  unfold closeLotOn
  (repeat' split) <;> simp

theorem judged_cancelLotOn (lot : Lot) (s : State) : Judged s (cancelLotOn lot s) := by
  unfold cancelLotOn
  (repeat' split) <;> simp

theorem judged_queueLotOn (r : RostrumId) (atHead : Bool) (override : Nat) (lot : Lot) (s : State) :
    Judged s (queueLotOn r atHead override lot s) := by
  unfold queueLotOn
  (repeat' split) <;> simp

theorem judged_unqueueLotOn (lot : Lot) (s : State) : Judged s (unqueueLotOn lot s) := by
  unfold unqueueLotOn
  split <;> simp

theorem judged_returnLotOn (lot : Lot) (s : State) : Judged s (returnLotOn lot s) := by
  unfold returnLotOn
  split <;> simp

theorem judged_retireLotOn (lot : Lot) (s : State) : Judged s (retireLotOn lot s) := by
  unfold retireLotOn
  (repeat' split) <;> simp

theorem judged_rostrumStart (r : RostrumId) (s : State) : Judged s (rostrumStart r s) := by
  unfold rostrumStart
  (repeat' split) <;> simp

theorem judged_rostrumHold (r : RostrumId) (s : State) : Judged s (rostrumHold r s) := by
  unfold rostrumHold
  split <;> simp

theorem judged_rostrumResume (r : RostrumId) (s : State) : Judged s (rostrumResume r s) := by
  unfold rostrumResume
  split <;> simp

theorem judged_rostrumStop (r : RostrumId) (s : State) : Judged s (rostrumStop r s) := by
  unfold rostrumStop
  split <;> simp

theorem judged_accountSetOn (limit cls : Option Nat) (state : Option AccountState) (a : Account) (s : State) :
    Judged s (accountSetOn limit cls state a s) := judged_clamped s _ _ _

theorem judged_accountRead (number page partNo : Nat) (s : State) : Judged s (accountRead number page partNo s) := by
  have hpage : Judged s (accountPageRead number page partNo s) := by
    unfold accountPageRead
    (repeat' split) <;> simp [judged_onAccount]
  exact hpage

theorem judged_closeAccountOn (a : Account) (s : State) : Judged s (closeAccountOn a s) := by
  unfold closeAccountOn
  split <;> simp

theorem judged_paymentInOn (amount : Nat) (a : Account) (s : State) : Judged s (paymentInOn amount a s) := by
  unfold paymentInOn
  split <;> simp

theorem judged_paymentOutOn (amount : Nat) (a : Account) (s : State) : Judged s (paymentOutOn amount a s) := by
  unfold paymentOutOn
  split <;> simp

theorem judged_crateIssueOn (t : Fin 8) (n : Nat) (a : Account) (s : State) : Judged s (crateIssueOn t n a s) := by
  unfold crateIssueOn
  (repeat' split) <;> simp

theorem judged_returnOpenOn (g : Fin 2) (a : Account) (s : State) : Judged s (returnOpenOn g a s) := by
  unfold returnOpenOn
  (repeat' split) <;> simp

theorem judged_crateTransferOn (t : Fin 8) (n : Nat) (a b : Account) (s : State) : Judged s (crateTransferOn t n a b s) := by
  unfold crateTransferOn
  (repeat' split) <;> simp

theorem judged_iceOrderOn (b : Fin 4) (q : Nat) (a : Account) (s : State) : Judged s (iceOrderOn b q a s) := by
  unfold iceOrderOn
  (repeat' split) <;> simp

theorem judged_iceAbort (bay : Nat) (s : State) : Judged s (iceAbort bay s) := by
  unfold iceAbort iceAbortOn
  (repeat' split) <;> simp

/-- Every owner judges so: what it refuses it leaves as it was. -/
theorem judged_of_meaning {c : Instr} {code : Byte} {owner : State → State × Reply} (h : meaning c = .request code owner)
    (s : State) : Judged s (owner s) := by
  cases c <;> cases h
  case portSet => unfold portSet; split <;> simp
  case unknownRequest => unfold unknownRequest; split <;> simp
  case laneSet => exact judged_laneSet _ _ _ _ _ s
  case laneZero => simp only [laneZero]; (repeat' split) <;> simp
  case laneRead => unfold laneRead; (repeat' split) <;> simp
  case openLot => unfold openLot; (repeat' split) <;> simp
  case takeWeighing => exact judged_takeWeighing _ _ _ _ s
  case closeLot => exact judged_onLot judged_closeLotOn _ _ s
  case cancelLot => exact judged_onLot judged_cancelLotOn _ _ s
  case queueLot => unfold queueLot; (repeat' split) <;> simp [judged_onLot (judged_queueLotOn _ _ _)]
  case unqueueLot => exact judged_onLot judged_unqueueLotOn _ _ s
  case returnLot => exact judged_onLot judged_returnLotOn _ _ s
  case retireLot => exact judged_onLot judged_retireLotOn _ _ s
  case lotRead => unfold lotRead; (repeat' split) <;> simp
  case dayClose => unfold dayClose; split <;> simp
  case rostrumStart => exact judged_onRostrum judged_rostrumStart _ s
  case rostrumHold => exact judged_onRostrum judged_rostrumHold _ s
  case rostrumResume => exact judged_onRostrum judged_rostrumResume _ s
  case rostrumStop => exact judged_onRostrum judged_rostrumStop _ s
  case rostrumRead => unfold rostrumRead; (repeat' split) <;> simp
  case deskAssign => unfold deskAssign; (repeat' split) <;> simp
  case deskRelease => unfold deskRelease; (repeat' split) <;> simp
  case addAccount => unfold addAccount; (repeat' split) <;> simp
  case accountSet => simp [accountSet, judged_onAccount (judged_accountSetOn _ _ _)]
  case accountRead => exact judged_accountRead _ _ _ s
  case accountNext => unfold accountNext; (repeat' split) <;> simp
  case closeAccount => exact judged_onAccount judged_closeAccountOn _ s
  case paymentIn => unfold paymentIn; split <;> simp [judged_onAccount (judged_paymentInOn _)]
  case paymentOut => unfold paymentOut; split <;> simp [judged_onAccount (judged_paymentOutOn _)]
  case hallTotals => unfold hallTotals; (repeat' split) <;> simp
  case crateIssue => unfold crateIssue; (repeat' split) <;> simp [judged_onAccount (judged_crateIssueOn _ _)]
  case returnOpen => unfold returnOpen; split <;> simp [judged_onAccount (judged_returnOpenOn _)]
  case returnClose => unfold returnClose returnCloseOn; (repeat' split) <;> simp
  case crateTransfer => unfold crateTransfer; (repeat' split) <;> simp [judged_crateTransferOn]
  case fleetAdjust => unfold fleetAdjust; (repeat' split) <;> simp
  case yardRead => unfold yardRead; split <;> simp
  case iceOrder => unfold iceOrder; (repeat' split) <;> simp [judged_iceOrderOn]
  case iceAbort => exact judged_iceAbort _ s
  case iceStockAdd => unfold iceStockAdd; split <;> simp
  case bayRead => unfold bayRead; (repeat' split) <;> simp
  case storeRead => unfold storeRead; (repeat' split) <;> simp
  case storeWrite => unfold storeWrite; (repeat' split) <;> simp
  case loadProtection => exact judged_accept s _ _
  case metrologyLock => unfold metrologyLock; (repeat' split) <;> simp
  case supplySet => unfold supplySet; (repeat' split) <;> simp
  case recordsClear => unfold recordsClear; split <;> simp

/-- Settles O5: STATUS is never refused, and the owner of every other request leaves as it was what it refuses. -/
theorem refusedRequestChangesNothing : Obligations.RefusedRequestChangesNothing := by
  intro c s t body henc ht hexec hcode
  have hbody : ∃ code rest, body = code :: rest := by cases c <;> cases henc <;> exact ⟨_, _, rfl⟩
  obtain ⟨code, rest, rfl⟩ := hbody
  obtain ⟨rfl, rfl⟩ | ⟨owner, hm⟩ := meaning_of_encodeRequest henc
  case inl =>
    rw [exec_event rfl ht] at hexec
    cases hexec
    exact absurd hcode (by decide : ¬ 3 ≤ 0)
  case inr =>
    rw [exec_request hm ht] at hexec
    cases hexec
    rw [judged_of_meaning hm s hcode]
    rfl

end Sys2Proof.Machine
end

section
/-! PROOF. What each change of a lane and of a rostrum keeps of its soundness (01 sections 1.1 and 1.2, 03 sections 3.1 and 3.2). -/

namespace Sys2Proof.Machine

/-! ## Lanes -/

theorem length_lastN_le {α : Type} (n : Nat) (xs : List α) : (lastN n xs).length ≤ n := by
  simp only [lastN, List.length_drop]
  omega

namespace Lane.Sound

variable {l : Lane}

theorem badFrame (h : l.Sound) : Lane.Sound { l with badRun := countUp 8 l.badRun } := by
  simp only [Lane.Sound, countUp] at h ⊢
  grind

theorem badFrame_fault (h : l.Sound) : Lane.Sound { l with badRun := countUp 8 l.badRun, goodRun := 0 } := by
  simp only [Lane.Sound, countUp] at h ⊢
  grind

theorem goodFrame (h : l.Sound) (hs : l.state ≠ .off) :
    Lane.Sound { l with badRun := 0, silence := some Config.silenceTime } := by
  simp only [Lane.Sound] at h ⊢
  grind

theorem withSilence (h : l.Sound) (hs : l.state ≠ .off) : Lane.Sound { l with silence := some Config.silenceTime } := by
  simp only [Lane.Sound] at h ⊢
  grind

theorem silentFault (h : l.Sound) (hs : l.state = .fault) :
    Lane.Sound { l with cause := some .silent, goodRun := 0, silence := some Config.silenceTime } := by
  simp only [Lane.Sound] at h ⊢
  grind

/-- An entry into SETTLING keeps a lane sound that has no pending weighing. -/
theorem enterSettling (h : l.Sound) (hw : l.weighing = none) : l.enterSettling.Sound := by
  simp only [Lane.Sound, Lane.enterSettling] at h ⊢
  grind

theorem settleAtCal (h : l.Sound) (hw : l.weighing = none) (cal : LaneCal) : (l.settleAtCal cal).Sound := by
  have hs := h.enterSettling hw
  simp only [Lane.Sound, Lane.settleAtCal, Lane.enterSettling] at hs ⊢
  grind

theorem enterOff (h : l.Sound) (hw : l.weighing = none) : l.enterOff.Sound := by
  simp only [Lane.Sound, Lane.enterOff] at h ⊢
  grind

theorem enterFault (h : l.Sound) (hw : l.weighing = none) (cause : FaultCause) : (l.enterFault cause).Sound := by
  simp only [Lane.Sound, Lane.enterFault] at h ⊢
  grind

/-- Settings in range keep a lane sound whose window and history are empty. -/
theorem withSettings (h : l.Sound) (hwindow : l.window = []) (hhistory : l.history = []) (enabled : Bool) {k band m : Nat}
    (hk : k ≤ 4) (hband : band ≤ 3) (hm : 2 ≤ m) (hm' : m ≤ 15) : (l.withSettings enabled k band m).Sound := by
  simp only [Lane.Sound, Lane.withSettings, hwindow, hhistory, List.length_nil] at h ⊢
  grind

/-- New settings on a lane that settles anew. -/
theorem resettle (h : l.Sound) (hw : l.weighing = none) (enabled : Bool) {k band m : Nat} (hk : k ≤ 4) (hband : band ≤ 3)
    (hm : 2 ≤ m) (hm' : m ≤ 15) : (l.withSettings enabled k band m).enterSettling.Sound :=
  (h.enterSettling hw).withSettings rfl rfl enabled hk hband hm hm'

/-- New settings on a lane that turns OFF. -/
theorem disable (h : l.Sound) (hw : l.weighing = none) {k band m : Nat} (hk : k ≤ 4) (hband : band ≤ 3) (hm : 2 ≤ m)
    (hm' : m ≤ 15) : (l.withSettings false k band m).enterOff.Sound :=
  (h.enterOff hw).withSettings rfl rfl false hk hband hm hm'

/-- A lane that is OFF or in FAULT keeps its window and history empty, so new settings keep it sound. -/
theorem reset (h : l.Sound) (hs : l.state = .off ∨ l.state = .fault) (enabled : Bool) {k band m : Nat} (hk : k ≤ 4)
    (hband : band ≤ 3) (hm : 2 ≤ m) (hm' : m ≤ 15) : (l.withSettings enabled k band m).Sound := by
  have ⟨_, _, _, _, _, _, _, _, _, _, _, hempty, _⟩ := h
  exact h.withSettings (hempty hs).1 (hempty hs).2.1 enabled hk hband hm hm'

/-- A lane that is not ACTIVE has no pending weighing (R16 to R19). -/
theorem no_weighing (h : l.Sound) (hs : l.state ≠ .active) : l.weighing = none := by
  obtain ⟨-, -, -, -, -, -, -, -, -, hactive, -⟩ := h
  exact Option.not_isSome_iff_eq_none.mp fun hw => hs (hactive hw)

theorem enable (h : l.Sound) (hs : l.state = .off) {k band m : Nat} (hk : k ≤ 4) (hband : band ≤ 3) (hm : 2 ≤ m) (hm' : m ≤ 15)
    (cal : LaneCal) : ((l.withSettings true k band m).settleAtCal cal).Sound :=
  (h.reset (.inl hs) true hk hband hm hm').settleAtCal (h.no_weighing (by simp [hs])) cal

theorem overrangeFrame (h : l.Sound) : l.overrangeFrame.Sound := by
  simp only [Lane.Sound, Lane.overrangeFrame, List.length_nil] at h ⊢
  grind

/-- A sample's value keeps a lane in SETTLING or ACTIVE sound: window and history are cut to their lengths (R6, R11). -/
theorem accept_newValue (h : l.Sound) (hs : l.state = .settling ∨ l.state = .active) (count : Int) (cal : LaneCal) :
    ((l.accept count).newValue cal).Sound := by
  have hwindow := length_lastN_le (2 ^ l.k) (l.window ++ [count])
  have hhistory (w : Int) := length_lastN_le l.m (l.history ++ [w])
  unfold Lane.accept
  split <;> simp only [Lane.Sound, Lane.newValue] at h ⊢ <;> grind

theorem trackZero (h : l.Sound) (cal : LaneCal) : (l.trackZero cal).Sound := by
  simp only [Lane.trackZero]
  (repeat' split) <;> exact h

theorem recover (h : l.Sound) (hs : l.state = .fault) : l.recover.Sound := by
  unfold Lane.recover
  split
  · exact h.enterSettling (h.no_weighing (by simp [hs]))
  · simp only [Lane.Sound] at h ⊢
    grind

theorem zeroed (h : l.Sound) (zero tracking : Int) :
    Lane.Sound { l with zero, tracking, zeroLimit := false, history := [], stable := false } := by
  simp only [Lane.Sound, List.length_nil] at h ⊢
  grind

theorem seen (h : l.Sound) : Lane.Sound { l with attention := false } := h

theorem ticketSent (h : l.Sound) : Lane.Sound { l with tickets := l.tickets.drop 1 } := by
  simp only [Lane.Sound, List.length_drop] at h ⊢
  grind

theorem ticketQueued (h : l.Sound) (hroom : l.tickets.length < 4) (line : List Byte) :
    Lane.Sound { l with tickets := l.tickets ++ [line] } := by
  simp only [Lane.Sound, List.length_append, List.length_singleton] at h ⊢
  grind

theorem weighingEnded (h : l.Sound) (last : Option LastWeighing) (attention : Bool) :
    Lane.Sound { l with weighing := none, last, attention } := by
  simp only [Lane.Sound] at h ⊢
  grind

theorem weighingBegun (h : l.Sound) (hs : l.state = .active) (p : PendingWeighing) : Lane.Sound { l with weighing := some p } := by
  simp only [Lane.Sound] at h ⊢
  grind

/-- HOLD and the assertion of the reset line (R23). -/
theorem silenced (h : l.Sound) : Lane.Sound { l with tickets := [], silence := none } := by
  simp only [Lane.Sound, List.length_nil] at h ⊢
  grind

theorem idle (h : l.Sound) : Lane.Sound { l with weighing := none, tickets := [] } := by
  simp only [Lane.Sound, List.length_nil] at h ⊢
  grind

theorem start (h : l.Sound) (cal : LaneCal) : (l.start cal).Sound := by
  unfold Lane.start
  split
  · exact h.idle.settleAtCal rfl cal
  · have hoff := h.idle.enterOff rfl
    simp only [Lane.Sound, Lane.enterOff] at hoff ⊢
    grind

theorem clear (h : l.Sound) (hw : l.weighing = none) : l.clear.Sound := by
  have hoff := h.disable hw (k := 2) (band := 1) (m := 5) (by decide) (by decide) (by decide) (by decide)
  simp only [Lane.Sound, Lane.clear, List.length_nil] at hoff ⊢
  grind

theorem tick (h : l.Sound) : l.tick.Sound := by
  simp only [Lane.Sound, Lane.tick, tickTimer, Option.isSome_map] at h ⊢
  grind

end Lane.Sound

theorem Lane.sound_fresh (enabled : Bool) {k band m : Nat} (hk : k ≤ 4) (hband : band ≤ 3) (hm : 2 ≤ m) (hm' : m ≤ 15) :
    (Lane.fresh enabled k band m).Sound := by
  simp only [Lane.Sound, Lane.fresh, List.length_nil]
  grind

theorem Lane.Sound.lose {l : Lane} (h : l.Sound) : l.lose.Sound := by
  obtain ⟨hk, hband, hm, hm', -⟩ := h
  exact Lane.sound_fresh _ hk hband hm hm'

/-! ## Rostra -/

/-- A waiting frame that is a clock frame. -/
theorem putClock_waiting (f : ClockFrame) (out : List OutFrame) :
    ((putClock f out).filter fun y => !y.isAnswer).length = max 1 (out.filter fun y => !y.isAnswer).length := by
  induction out with
  | nil => rfl
  | cons y rest ih =>
    cases y with
    | clock g => simp [putClock, OutFrame.isAnswer]
    | answer a => simpa [putClock, OutFrame.isAnswer] using ih

theorem putClock_answers (f : ClockFrame) (out : List OutFrame) :
    ((putClock f out).filter (·.isAnswer)).length = (out.filter (·.isAnswer)).length := by
  induction out with
  | nil => rfl
  | cons y rest ih =>
    cases y with
    | clock g => simp [putClock, OutFrame.isAnswer]
    | answer a => simpa [putClock, OutFrame.isAnswer] using ih

/-- What is soundly on the line of a rostrum: at most 16 answers, one waiting clock frame, nothing for an idle line (R72, R73; log 8). -/
def Rostrum.LineSound (x : Rostrum) : Prop :=
  x.answersQueued ≤ 16 ∧ (x.out.filter fun f => !f.isAnswer).length ≤ 1 ∧ (x.sending = none → x.out = [])

/-- What the rostrum's state says of its current lot and its timers (03 section 3.2). -/
def Rostrum.Staged (x : Rostrum) : Prop :=
  (x.offer.isSome ↔ x.state = .running ∨ x.state = .held) ∧ (x.stepTimer.isSome ↔ x.state = .running) ∧
    (x.showTimer.isSome ↔ x.state = .showing)

/-- The ranges of the queue and of the counts. -/
def Rostrum.Bounded (x : Rostrum) : Prop :=
  x.queue.length ≤ 128 ∧ x.rejected ≤ 65535 ∧ x.dropped ≤ 65535 ∧ x.displacedCount ≤ 255

theorem Rostrum.sound_iff (x : Rostrum) : x.Sound ↔ x.Staged ∧ x.LineSound ∧ x.Bounded := by
  constructor
  · rintro ⟨hoffer, hstep, hshow, hqueue, hanswers, hclock, hidle, hrejected, hdropped, hdisplaced⟩
    exact ⟨⟨hoffer, hstep, hshow⟩, ⟨hanswers, hclock, hidle⟩, hqueue, hrejected, hdropped, hdisplaced⟩
  · rintro ⟨⟨hoffer, hstep, hshow⟩, ⟨hanswers, hclock, hidle⟩, hqueue, hrejected, hdropped, hdisplaced⟩
    exact ⟨hoffer, hstep, hshow, hqueue, hanswers, hclock, hidle, hrejected, hdropped, hdisplaced⟩

namespace Rostrum

variable {x : Rostrum}

theorem LineSound.feedLine (hanswers : x.answersQueued ≤ 16) (hclock : (x.out.filter fun f => !f.isAnswer).length ≤ 1) :
    x.feedLine.LineSound := by
  refine ⟨by rwa [feedLine_answersQueued], ?_, x.feedLine_idle⟩
  unfold Rostrum.feedLine
  split
  · next f rest _ hout =>
    rw [hout] at hclock
    exact (List.Sublist.length_le ((List.sublist_cons_self f rest).filter _)).trans hclock
  · exact hclock

theorem LineSound.showClock (h : x.LineSound) (f : ClockFrame) : (x.showClock f).LineSound := by
  obtain ⟨hanswers, hclock, -⟩ := h
  refine LineSound.feedLine ?_ ?_
  · simpa [answersQueued, putClock_answers] using hanswers
  · simpa [putClock_waiting] using hclock

theorem LineSound.answer (h : x.LineSound) (a : DeskAnswer) : (x.answer a).LineSound := by
  unfold Rostrum.answer
  split
  · exact h
  · next hroom =>
    obtain ⟨-, hclock, -⟩ := h
    refine LineSound.feedLine ?_ ?_
    · simp only [answersQueued, ← List.append_assoc, List.filter_append, List.length_append] at hroom ⊢
      simp only [Config.maxAnswers, OutFrame.isAnswer, List.filter_cons_of_pos, List.filter_nil, List.length_singleton] at hroom ⊢
      omega
    · simpa [OutFrame.isAnswer] using hclock

theorem LineSound.frameSent (h : x.LineSound) : x.frameSent.LineSound := by
  obtain ⟨hanswers, hclock, -⟩ := h
  refine LineSound.feedLine ?_ hclock
  refine (List.Sublist.length_le ?_).trans hanswers
  exact (List.sublist_append_right _ _).filter _

namespace Sound

theorem staged (h : x.Sound) : x.Staged := ((sound_iff x).mp h).1
theorem lineSound (h : x.Sound) : x.LineSound := ((sound_iff x).mp h).2.1
theorem bounded (h : x.Sound) : x.Bounded := ((sound_iff x).mp h).2.2

/-- A change of the state, the current lot and the timers alone. -/
theorem restaged {state : RostrumState} {offer : Option Offer} {stepTimer showTimer : Option Nat} (h : x.Sound)
    (hs : Staged { x with state, offer, stepTimer, showTimer }) :
    Rostrum.Sound { x with state, offer, stepTimer, showTimer } :=
  (sound_iff _).mpr ⟨hs, h.lineSound, h.bounded⟩

theorem requeued (h : x.Sound) {queue : List Key} (hq : queue.length ≤ 128) : Rostrum.Sound { x with queue } :=
  (sound_iff _).mpr ⟨h.staged, h.lineSound, hq, h.bounded.2⟩

theorem showClock (h : x.Sound) (f : ClockFrame) : (x.showClock f).Sound := by
  refine (sound_iff _).mpr ⟨?_, h.lineSound.showClock f, ?_⟩
  · simpa [Staged] using h.staged
  · simpa [Bounded] using h.bounded

theorem answer (h : x.Sound) (a : DeskAnswer) : (x.answer a).Sound := by
  refine (sound_iff _).mpr ⟨by simpa [Staged] using h.staged, h.lineSound.answer a, ?_⟩
  obtain ⟨hqueue, hrejected, hdropped, hdisplaced⟩ := h.bounded
  refine ⟨by simpa using hqueue, by simpa using hrejected, ?_, by simpa using hdisplaced⟩
  unfold Rostrum.answer
  split
  · exact Nat.min_le_right _ _
  · simpa using hdropped

theorem frameSent (h : x.Sound) : x.frameSent.Sound := by
  refine (sound_iff _).mpr ⟨?_, h.lineSound.frameSent, ?_⟩
  · simpa [Staged] using h.staged
  · simpa [Bounded] using h.bounded

theorem lotEnd (h : x.Sound) (e : LastLotEnd) : (x.lotEnd e).Sound := h

theorem reject (h : x.Sound) : x.reject.Sound :=
  (sound_iff _).mpr ⟨h.staged, h.lineSound, h.bounded.1, Nat.min_le_right _ _, h.bounded.2.2⟩

theorem readEffect (h : x.Sound) (page : Nat) : (x.readEffect page).Sound := by
  obtain ⟨hqueue, hrejected, hdropped, hdisplaced⟩ := h.bounded
  unfold Rostrum.readEffect
  (repeat' split) <;> refine (sound_iff _).mpr ⟨h.staged, h.lineSound, ?_⟩ <;> simp_all [Bounded]

theorem toIdle (h : x.Sound) : x.toIdle.Sound := h.restaged (by simp [Staged])

theorem silenceLine (h : x.Sound) : x.silenceLine.Sound :=
  (sound_iff _).mpr ⟨h.staged, ⟨by simp [answersQueued, Rostrum.silenceLine], by simp [Rostrum.silenceLine], fun _ => rfl⟩, h.bounded⟩

theorem start (h : x.Sound) : x.start.Sound :=
  (sound_iff _).mpr ⟨h.toIdle.silenceLine.staged, h.toIdle.silenceLine.lineSound, h.bounded.1, Nat.zero_le _, Nat.zero_le _,
    h.bounded.2.2.2⟩

theorem clear (h : x.Sound) : x.clear.Sound :=
  (sound_iff _).mpr ⟨h.staged, h.lineSound, by simp [Bounded, Rostrum.clear]⟩

theorem tick (h : x.Sound) : x.tick.Sound := by
  refine (sound_iff _).mpr ⟨?_, h.lineSound, h.bounded⟩
  simpa [Staged, Rostrum.tick, tickTimer] using h.staged

/-- A lot goes on the clock (R51). -/
theorem offered (h : x.Sound) {queue : List Key} (hq : queue.length ≤ 128) (offer : Offer) (interval : Nat) :
    Rostrum.Sound
      { x with state := .running, queue, offer := some offer, stepTimer := some interval, showTimer := none } :=
  (h.requeued hq).restaged (by simp [Staged])

/-- The current lot leaves the clock (R54). -/
theorem shown (h : x.Sound) (showTime : Nat) :
    Rostrum.Sound { x with state := .showing, offer := none, stepTimer := none, showTimer := some showTime } :=
  h.restaged (by simp [Staged])

/-- WAITING is entered from a state without a current lot (R54, R55). -/
theorem waiting (h : x.Sound) (hs : x.state = .idle ∨ x.state = .showing) :
    Rostrum.Sound { x with state := .waiting, showTimer := none } := by
  refine h.restaged ?_
  have hx := h.staged
  simp only [Staged] at hx ⊢
  grind

theorem held (h : x.Sound) (hs : x.state = .running) : Rostrum.Sound { x with state := .held, stepTimer := none } := by
  refine h.restaged ?_
  have hx := h.staged
  simp only [Staged] at hx ⊢
  grind

theorem resumed (h : x.Sound) (hs : x.state = .held) (interval : Nat) :
    Rostrum.Sound { x with state := .running, stepTimer := some interval } := by
  refine h.restaged ?_
  have hx := h.staged
  simp only [Staged] at hx ⊢
  grind

/-- The price of the current lot falls by a step (R53). -/
theorem stepped (h : x.Sound) (ht : x.stepTimer.isSome) (ho : x.offer.isSome) (offer : Offer) (interval : Nat) :
    Rostrum.Sound { x with offer := some offer, stepTimer := some interval } := by
  refine h.restaged ?_
  have hx := h.staged
  simp only [Staged, ht, ho, true_iff] at hx ⊢
  simpa using hx

/-- There is a current lot in RUNNING and HELD alone. -/
theorem no_offer (h : x.Sound) (hr : x.state ≠ .running) (hh : x.state ≠ .held) : x.offer = none := by
  obtain ⟨hoffer, -, -⟩ := h.staged
  exact Option.not_isSome_iff_eq_none.mp fun ho => (hoffer.mp ho).elim hr hh

theorem showing (h : x.Sound) (ht : x.showTimer = some 0) : x.state = .showing := by
  obtain ⟨-, -, hshow⟩ := h.staged
  exact hshow.mp (by simp [ht])

/-- A queue that takes a lot at its head holds no more than 128 (R50). -/
theorem takes (h : x.Sound) (key : Option Key) : (x.takes key).Sound := by
  unfold Rostrum.takes
  obtain ⟨hqueue, hrejected, hdropped, -⟩ := h.bounded
  split
  · exact h
  · split
    · exact h.requeued (by simp only [List.length_cons]; omega)
    · refine (sound_iff _).mpr ⟨h.staged, h.lineSound, ?_, hrejected, hdropped, Nat.min_le_right _ _⟩
      simp only [List.length_cons, List.length_dropLast]
      omega

end Sound

theorem sound_fresh {queue : List Key} (h : queue.length ≤ 128) (desks : Vector (Option Nat) 96) : (Rostrum.fresh queue desks).Sound := by
  refine (sound_iff _).mpr ⟨?_, ?_, ?_⟩
  · simp [Staged, fresh]
  · simp [LineSound, fresh, answersQueued]
  · simpa [Bounded, fresh] using h

theorem Sound.lose (h : x.Sound) : x.lose.Sound := sound_fresh h.bounded.1 _

end Rostrum

end Sys2Proof.Machine
end

section
/-! PROOF. The elementary changes of which a command's effect is made, each with what it keeps, so that an invariant is proved change
by change. -/

namespace Sys2Proof.Machine

/-- Nothing is in flight: no lot on the clock, no pending weighing, no ice order. -/
structure State.Quiet (s : State) : Prop where
  offers : ∀ r, (s.rostrum r).offer = none
  weighings : ∀ i, (s.lane i).weighing = none
  orders : ∀ b, (s.bay b).order = none

/-- What an ice order has reserved, and for whom. -/
def IceOrder.claim (o : IceOrder) : Nat × Nat × Nat := (o.account, o.charge, o.stock)

/-- OPEN LOT's new lot under the number found, with the counter advanced and the boat's live-lot count raised (R25, R27). -/
def State.openedLot (s : State) (boat species : Nat) (t : Fin 8) : State :=
  let found := searchNumber s.lotTable.lots Config.maxLots s.lotTable.counter s.lotTable.dayWrap
  let s1 := s.addLot (Lot.opened { number := found.1, part := 0 } boat species t)
  { s1 with lotTable := { s1.lotTable with counter := found.2.1, dayWrap := found.2.2 } }.modLiveLots boat (· + 1)

/-- A lot is entered into the queue of a rostrum (R37). -/
def State.enqueue (s : State) (r : RostrumId) (atHead : Bool) (override : Nat) (lot : Lot) : State :=
  (s.modLot lot.key fun l => { l with override := overrideOf override, rostrum := some r, state := .queued }).modRostrum r
    fun x => { x with queue := if atHead then lot.key :: x.queue else x.queue ++ [lot.key] }

/-- A closed lot with its valuation and its snapshot (R33 to R35). -/
def State.closeLot (s : State) (lot : Lot) : State :=
  s.modLot lot.key fun l =>
    { l with
      state := .ready
      deductions := some { tare := (s.valuation lot).1.tare, allowance := (s.valuation lot).1.allowance }
      net := some (s.valuation lot).1.net, snapshot := some (s.valuation lot).2 }

/-- A lot may retire: OPEN without a pending part, READY or UNSOLD, or SOLD with no other part of its number where it is part 0
(R36, R40, R41). -/
def State.mayRetire (s : State) (lot : Lot) : Prop :=
  lot.state = .opened ∧ lot.pending = none ∨ lot.isWaiting = true ∨
    lot.state = .sold ∧ ¬ (lot.key.part = 0 ∧ s.familyLives lot.key = true)

/-- One elementary change. -/
inductive Change : State → State → Prop
  /-- The request port. -/
  | port {s : State} (f : Port → Port) (sound : s.port.Sound → (f s.port).Sound) : Change s (s.modPort f)
  /-- The supply monitor, with the main supply as it is. Trading ends only with nothing in flight. -/
  | supply {s : State} (f : Supply → Supply) (sound : s.supply.Sound → (f s.supply).Sound)
      (absent : (f s.supply).absent = s.supply.absent)
      (still : (f s.supply).trading = false → s.trading = false ∨ s.Quiet) : Change s (s.modSupply f)
  /-- The store, with every record read as before. -/
  | store {s : State} (f : Store → Store) (sound : s.store.Sound → (f s.store).Sound)
      (live : s.store.Sound → ∀ id, (f s.store).live id = s.store.live id) : Change s (s.modStore f)
  /-- A held write becomes live (R155). -/
  | written {s : State} (w : WriteBuffer) (held : s.store.buffer = some w) (free : s.inUse w.target w.contents = false) :
      Change s (s.modStore (·.complete w .ok))
  /-- A lane. Its pending weighing stays, or nothing is in flight; it is enabled with a VALID calibration only. -/
  | lane {s : State} (i : Fin 8) (f : Lane → Lane) (sound : (s.lane i).Sound → (f (s.lane i)).Sound)
      (weighing : (f (s.lane i)).weighing = (s.lane i).weighing ∨ s.trading = false ∧ (f (s.lane i)).weighing = none)
      (use : (f (s.lane i)).enabled = true ∨ (f (s.lane i)).state ≠ .off →
        (s.lane i).enabled = true ∨ (s.lane i).state ≠ .off ∨ (s.store.laneCal? i).isSome = true) : Change s (s.modLane i f)
  /-- A pending weighing ends other than TAKEN (R19). -/
  | weighingEnded {s : State} (i : Fin 8) (result : WeighResult) (gross : Option Int) (other : result ≠ .taken) :
      Change s (s.endWeighing i result gross none none)
  /-- A pending weighing is TAKEN (R17, R31). -/
  | weighingTaken {s : State} (i : Fin 8) (p : PendingWeighing) (legal : Int) (number : Nat) (ticket : TicketStatus)
      (pending : (s.lane i).weighing = some p) (used : (s.lane i).state ≠ .off)
      (least : 20 * ((s.store.laneCal i).e : Int) ≤ legal)
      (most : (((s.lot? p.key).bind (·.gross)).getD 0 : Int) + legal ≤ 9600000) :
      Change s
        ((s.modLot p.key fun l =>
          l.enter { lane := unitNumber i, gross := legal.toNat, crates := p.crates } (s.store.laneCal i).e).endWeighing i .taken
          (some legal) (some number) (some ticket))
  /-- A lot is opened (R27). -/
  | opened {s : State} (boat species : Nat) (t : Fin 8) (a : Account) (account : s.account? boat = some a) (kind : a.kind = .boat)
      (room : s.lotTable.lots.length < 1024) : Change s (s.openedLot boat species t)
  /-- A weighing is handed in at a lane (R29, R30). -/
  | handedIn {s : State} (lot : Lot) (i : Fin 8) (c : Nat) (found : s.lot? lot.key = some lot) (opened : lot.state = .opened)
      (pending : lot.pending = none) (weighing : (s.lane i).weighing = none) (active : (s.lane i).state = .active)
      (weighings : lot.weighings.length < 16) (crates : lot.n + c ≤ 255) (least : 1 ≤ c) (most : c ≤ 99)
      (free : c ≤ ((s.account? lot.boat).map (·.free lot.crateType)).getD 0) (trading : s.trading = true) :
      Change s (s.handIn lot i c)
  /-- A lot is closed (R33). -/
  | closed {s : State} (lot : Lot) (found : s.lot? lot.key = some lot) (opened : lot.state = .opened) (pending : lot.pending = none)
      (weighed : lot.weighings ≠ []) (least : 20 * ((lot.division.getD 0 : Nat) : Int) ≤ (s.valuation lot).1.net) :
      Change s (s.closeLot lot)
  /-- A lot leaves the table (R28). -/
  | retired {s : State} (lot : Lot) (found : s.lot? lot.key = some lot) (may : s.mayRetire lot) : Change s (s.retire lot)
  /-- A lot is queued (R37). -/
  | queued {s : State} (r : RostrumId) (atHead : Bool) (override : Nat) (lot : Lot) (found : s.lot? lot.key = some lot)
      (waiting : lot.isWaiting = true) (room : (s.rostrum r).queue.length < 128) : Change s (s.enqueue r atHead override lot)
  /-- A lot is taken out of its queue (R39). -/
  | unqueued {s : State} (lot : Lot) (found : s.lot? lot.key = some lot) (queued : lot.state = .queued) :
      Change s ((s.unqueue lot).modLot lot.key fun l => { l with state := .ready, rostrum := none })
  /-- A day begins (R26). -/
  | dayBegun {s : State} :
      Change s { s with lotTable := { s.lotTable with counter := 1, day := (s.lotTable.day + 1) % 256, dayWrap := false } }
  /-- An offer starts on the head of a queue (R51). -/
  | offerStarted {s : State} (r : RostrumId) (idle : (s.rostrum r).Sound → (s.rostrum r).offer = none)
      (trading : s.trading = true) : Change s (s.startOffer r)
  /-- A rostrum, with its queue, its desks and its current lot as they are, or with nothing on the clock where nothing was. -/
  | rostrum {s : State} (r : RostrumId) (f : Rostrum → Rostrum) (sound : (s.rostrum r).Sound → (f (s.rostrum r)).Sound)
      (queue : (f (s.rostrum r)).queue = (s.rostrum r).queue) (desks : (f (s.rostrum r)).desks = (s.rostrum r).desks)
      (offer : (f (s.rostrum r)).offer.map (·.key) = (s.rostrum r).offer.map (·.key) ∨
        (f (s.rostrum r)).offer = none ∧ (s.trading = true → (s.rostrum r).Sound → (s.rostrum r).offer = none)) :
      Change s (s.modRostrum r f)
  /-- The lot on the clock goes back to its queue and the rostrum leaves it (R50, R58, R75). -/
  | putBack {s : State} (r : RostrumId) (f : Rostrum → Rostrum) (sound : ∀ x : Rostrum, x.Sound → (f x).Sound)
      (queue : ∀ x, (f x).queue = x.queue) (desks : ∀ x, (f x).desks = x.desks) (offer : ∀ x, (f x).offer = none) :
      Change s ((s.putBack r).modRostrum r f)
  /-- The lot on the clock ends unsold (R53). -/
  | unsold {s : State} (r : RostrumId) (o : Offer) (f : Rostrum → Rostrum) (onClock : (s.rostrum r).offer = some o)
      (sound : ∀ x : Rostrum, x.Sound → (f x).Sound) (queue : ∀ x, (f x).queue = x.queue) (desks : ∀ x, (f x).desks = x.desks)
      (offer : ∀ x, (f x).offer = none) :
      Change s ((s.modLot o.key fun l => { l with state := .unsold }).modRostrum r f)
  /-- A winning press is booked (R67). -/
  | won {s : State} (r : RostrumId) (d : Fin 96) (quantity : Nat) (c : Candidate) (v : Valuation)
      (judged : s.judgePress r d quantity = .ok (c, v)) : Change s (s.win r c v)
  /-- A desk is assigned (R59). -/
  | deskAssigned {s : State} (r : RostrumId) (d : Fin 96) (buyer : Nat) (a : Account) (account : s.account? buyer = some a)
      (kind : a.kind = .buyer) (free : (s.rostrum r).desk d = none) :
      Change s ((s.modRostrum r fun x => { x with desks := x.desks.set d (some buyer) }).modDeskCount buyer (· + 1))
  /-- A desk is released (R60). -/
  | deskReleased {s : State} (r : RostrumId) (d : Fin 96) (buyer : Nat) (taken : (s.rostrum r).desk d = some buyer) :
      Change s ((s.modRostrum r fun x => { x with desks := x.desks.set d none }).modDeskCount buyer (· - 1))
  /-- The limit, the class and the state of an account (R98). -/
  | accountSet {s : State} (n : Nat) (limit cls : Option Nat) (state : Option AccountState) :
      Change s (s.modAccount n (·.change limit cls state))
  /-- An account is opened (R97). -/
  | accountAdded {s : State} (number : Nat) (kind : AccountKind) (limit cls : Nat) (fresh : s.account? number = none)
      (room : s.accountTable.accounts.length < 512) : Change s (s.addAccount (Account.opened number kind limit cls))
  /-- An account that nothing holds is closed (R102). -/
  | accountClosed {s : State} (a : Account) (found : s.account? a.number = some a) (unheld : s.closeReason a = none) :
      Change s (s.removeAccount a.number)
  /-- A balance and the balance sum (R95). -/
  | posted {s : State} (n : Nat) (d : Int) : Change s (s.post n d)
  /-- The hall counters, but for the deposit float. -/
  | hall {s : State} (f : HallCounters → HallCounters) (float : ∀ h, (f h).depositFloat = h.depositFloat) : Change s (s.modHall f)
  /-- The totals copy (R113). -/
  | totals {s : State} (c : Option TotalsCopy) : Change s (s.setTotals c)
  /-- Crates are issued (R121). -/
  | issued {s : State} (a : Account) (t : Fin 8) (n d : Nat) (found : s.account? a.number = some a)
      (deposit : s.store.deposit? t = some d) (stock : n ≤ (s.crateType t).yard) : Change s (s.issueCrates a.number t n d)
  /-- A return session is settled (R126). -/
  | settled {s : State} (g : Fin 2) (w : Session) (a : Account) (found : s.account? a.number = some a) : Change s (s.settle g w a)
  /-- Crates are transferred (R128). -/
  | transferred {s : State} (a b : Account) (t : Fin 8) (n d : Nat) (giver : s.account? a.number = some a)
      (taker : s.account? b.number = some b) (other : a.number ≠ b.number) (deposit : s.store.deposit? t = some d)
      (free : n ≤ a.free t) : Change s (s.transferCrates a.number b.number t n d)
  /-- The figures of a crate type, which stay conserved (R118). -/
  | crates {s : State} (t : Fin 8) (f : CrateType → CrateType)
      (conserved : ∀ held, (s.crateType t).yard + held = (s.crateType t).fleet →
        (f (s.crateType t)).yard + held = (f (s.crateType t)).fleet) : Change s (s.modCrateType t f)
  /-- A gate. -/
  | gate {s : State} (g : Fin 2) (f : Gate → Gate) : Change s (s.modGate g f)
  /-- An ice order is taken (R137). -/
  | orderTaken {s : State} (b : Fin 4) (a : Account) (q price weight : Nat) (trading : s.trading = true) (idle : (s.bay b).state = .idle)
      (found : s.account? a.number = some a) (least : 1 ≤ q) (most : q ≤ 5000) :
      Change s (s.takeOrder b (IceOrder.taken a.number q price weight))
  /-- A bay, with its order's claims as they are, or with none outside trading. -/
  | bay {s : State} (b : Fin 4) (f : Bay → Bay) (sound : (s.bay b).Sound → (f (s.bay b)).Sound)
      (order : (f (s.bay b)).order.map (·.claim) = (s.bay b).order.map (·.claim) ∨
        s.trading = false ∧ (f (s.bay b)).order = none) : Change s (s.modBay b f)
  /-- An ice order is completed (R143). -/
  | orderCompleted {s : State} (b : Fin 4) (code : IceCode) : Change s (s.completeOrder b code)
  /-- Ice enters the bunker (R145). -/
  | restocked {s : State} (grams : Nat) :
      Change s (s.modIce fun u => { u with stock := min (u.stock + grams) Config.maxBunker })

/-- A run of elementary changes. -/
def Changes : State → State → Prop := Relation.ReflTransGen Change

namespace Changes

theorem refl (s : State) : Changes s s := Relation.ReflTransGen.refl

theorem of_eq {s t : State} (h : t = s) : Changes s t := h ▸ refl s

theorem trans {s t u : State} (h : Changes s t) (h' : Changes t u) : Changes s u := Relation.ReflTransGen.trans h h'

theorem then_ {s t u : State} (h : Changes s t) (h' : Change t u) : Changes s u := Relation.ReflTransGen.tail h h'

theorem one {s t : State} (h : Change s t) : Changes s t := Relation.ReflTransGen.single h

/-- A property that every elementary change keeps is kept by a run of them. -/
theorem keeps {P : State → Prop} (h : ∀ s t, Change s t → P s → P t) {s t : State} (hrun : Changes s t) (hs : P s) : P t := by
  induction hrun with
  | refl => exact hs
  | tail _ hlast ih => exact h _ _ hlast ih

end Changes

end Sys2Proof.Machine
end

section
/-! PROOF. The commands of the weigh lanes and of the lots as runs of elementary changes. -/

namespace Sys2Proof.Machine

/-! ## Requests and events -/

theorem request_changes {code : Byte} {owner : State → State × Reply} {s : State} (h : s.trading = true → Changes s (owner s).1) :
    Changes s (request code owner s) := by
  cases ht : s.trading with
  | false => rw [request_idle ht]; exact .refl s
  | true =>
    rw [request_trading ht]
    exact (h ht).then_ (.port (fun p => { p with answer := _, frameCrc := _ }) id)

theorem event_changes {f : State → State} {s : State} (h : s.trading = true → Changes s (f s)) : Changes s (event f s) := by
  cases ht : s.trading with
  | false => rw [event_idle ht]; exact .refl s
  | true => rw [event_trading ht]; exact h ht

theorem accept_changes {s t : State} (h : Changes s t) (data : List Byte) : Changes s (accept t data).1 := h

theorem onLot_changes {f : Lot → State → State × Reply} (number part : Nat) {s : State}
    (h : ∀ lot, s.lot? lot.key = some lot → Changes s (f lot s).1) : Changes s (onLot number part f s).1 := by
  unfold onLot
  split
  · exact .refl s
  · split
    · exact .refl s
    · next lot hlot => exact h lot (State.lot?_key hlot ▸ hlot)

theorem onRostrum_changes {f : RostrumId → State → State × Reply} (code : Nat) {s : State} (h : ∀ r, Changes s (f r s).1) :
    Changes s (onRostrum code f s).1 := by
  unfold onRostrum
  split
  · exact .refl s
  · exact h _

theorem onAccount_changes {f : Account → State → State × Reply} (number : Nat) {s : State}
    (h : ∀ a, s.account? a.number = some a → Changes s (f a s).1) : Changes s (onAccount number f s).1 := by
  unfold onAccount
  split
  · exact .refl s
  · split
    · exact .refl s
    · next a ha => exact h a (State.account?_number ha ▸ ha)

/-! ## A lane after an ending -/

namespace State

theorem endWeighing_none {s : State} {i : Fin 8} (h : (s.lane i).weighing = none) (result : WeighResult) (gross : Option Int)
    (number : Option Nat) (ticket : Option TicketStatus) : s.endWeighing i result gross number ticket = s := by
  simp only [endWeighing, h]

/-- An ending removes the pending weighing of its lane, replaces the last result and sets the attention flag (R19). -/
theorem lane_endWeighing (s : State) (i : Fin 8) (result : WeighResult) (gross : Option Int) (number : Option Nat)
    (ticket : Option TicketStatus) :
    (s.endWeighing i result gross number ticket).lane i =
      match (s.lane i).weighing with
      | none => s.lane i
      | some p =>
        { s.lane i with weighing := none, last := some { result, gross, key := p.key, number, ticket }, attention := true } := by
  unfold endWeighing
  cases (s.lane i).weighing with
  | none => rfl
  | some p =>
    have hlanes : (if result = .taken then s else s.releaseWeighing p.key p.crates).lane i = s.lane i := by
      split
      · rfl
      · simp only [lane, (releaseWeighing_frame s p.key p.crates).1]
    simp only [lane_modLane_self, hlanes]

theorem lane_endWeighing_ne {s : State} {i j : Fin 8} (h : j ≠ i) (result : WeighResult) (gross : Option Int) (number : Option Nat)
    (ticket : Option TicketStatus) : (s.endWeighing i result gross number ticket).lane j = s.lane j := by
  unfold endWeighing
  cases (s.lane i).weighing with
  | none => rfl
  | some p =>
    simp only [lane_modLane, if_neg h]
    split
    · rfl
    · simp only [lane, (releaseWeighing_frame s p.key p.crates).1]

/-- What an ending leaves of its lane. -/
theorem endWeighing_lane_frame (s : State) (i : Fin 8) (result : WeighResult) (gross : Option Int) (number : Option Nat)
    (ticket : Option TicketStatus) :
    ((s.endWeighing i result gross number ticket).lane i).weighing = none ∧
      ((s.endWeighing i result gross number ticket).lane i).state = (s.lane i).state ∧
      ((s.endWeighing i result gross number ticket).lane i).enabled = (s.lane i).enabled ∧
      ((s.endWeighing i result gross number ticket).lane i).tickets = (s.lane i).tickets := by
  rw [lane_endWeighing]
  cases hw : (s.lane i).weighing with
  | none => exact ⟨hw, rfl, rfl, rfl⟩
  | some p => exact ⟨rfl, rfl, rfl, rfl⟩

@[simp] theorem failWeighing_lane_frame (s : State) (i : Fin 8) (result : WeighResult) :
    ((s.failWeighing i result).lane i).weighing = none ∧ ((s.failWeighing i result).lane i).state = (s.lane i).state ∧
      ((s.failWeighing i result).lane i).enabled = (s.lane i).enabled := by
  obtain ⟨hweighing, hstate, henabled, -⟩ := s.endWeighing_lane_frame i result none none none
  exact ⟨hweighing, hstate, henabled⟩

/-- An ending keeps every lane sound. -/
theorem endWeighing_lane_sound {s : State} {i : Fin 8} (h : (s.lane i).Sound) (result : WeighResult) (gross : Option Int)
    (number : Option Nat) (ticket : Option TicketStatus) : ((s.endWeighing i result gross number ticket).lane i).Sound := by
  rw [lane_endWeighing]
  split
  · exact h
  · exact h.weighingEnded _ _

theorem failWeighing_changes (s : State) (i : Fin 8) {result : WeighResult} (h : result ≠ .taken) :
    Changes s (s.failWeighing i result) := .one (.weighingEnded i result none h)

end State

/-! ## Lane records -/

@[simp] theorem Lane.trackZero_frame (l : Lane) (cal : LaneCal) :
    (l.trackZero cal).weighing = l.weighing ∧ (l.trackZero cal).state = l.state ∧ (l.trackZero cal).enabled = l.enabled := by
  simp only [Lane.trackZero]
  (repeat' split) <;> exact ⟨rfl, rfl, rfl⟩

theorem Lane.accept_frame (l : Lane) (count : Int) (cal : LaneCal) :
    ((l.accept count).newValue cal).weighing = l.weighing ∧ ((l.accept count).newValue cal).enabled = l.enabled ∧
      ((l.accept count).newValue cal).tickets = l.tickets := by
  simp only [Lane.accept]
  split <;> exact ⟨rfl, rfl, rfl⟩

theorem Lane.accept_state (l : Lane) (count : Int) (cal : LaneCal) :
    ((l.accept count).newValue cal).state =
      if l.state = .settling then (if 32 ≤ l.samples + 1 then .active else .settling) else l.state := by
  simp only [Lane.accept]
  split <;> rfl

theorem Lane.accept_used {l : Lane} (h : l.state ≠ .off) (count : Int) (cal : LaneCal) :
    ((l.accept count).newValue cal).state ≠ .off := by
  rw [Lane.accept_state]
  split
  · split <;> decide
  · exact h

theorem Lane.recover_frame (l : Lane) : l.recover.weighing = l.weighing ∧ l.recover.enabled = l.enabled := by
  unfold Lane.recover
  split <;> exact ⟨rfl, rfl⟩

/-! ## Frames and expiries at a lane -/

namespace State

variable {s : State} {i : Fin 8}

/-- A change of a lane in use that keeps its weighing. -/
theorem modLane_changes (f : Lane → Lane) (sound : (s.lane i).Sound → (f (s.lane i)).Sound)
    (weighing : (f (s.lane i)).weighing = (s.lane i).weighing) (used : (s.lane i).state ≠ .off) : Changes s (s.modLane i f) :=
  .one (.lane i f sound (.inl weighing) fun _ => .inr (.inl used))

theorem completeWeighing_changes (used : (s.lane i).state ≠ .off) (legal : Int) : Changes s (s.completeWeighing i legal) := by
  unfold completeWeighing
  cases hp : (s.lane i).weighing with
  | none => exact .refl s
  | some p =>
    simp only
    split
    · exact .one (.weighingEnded i _ _ (by decide))
    · next hleast =>
      split
      · exact .one (.weighingEnded i _ _ (by decide))
      · next hmost =>
        have htaken (number : Nat) (ticket : TicketStatus) := Change.weighingTaken i p legal number ticket hp used
          (by omega) (by simpa [Config.maxGross] using hmost)
        split
        · exact .one (htaken _ _)
        · next hroom =>
          refine (Changes.one (htaken _ _)).then_ (.lane i _ (fun h => h.ticketQueued ?_ _) (.inl rfl) fun h => h.imp id .inl)
          rw [(endWeighing_lane_frame ..).2.2.2]
          simpa [Config.maxTickets] using hroom

theorem acceptSample_changes (hs : (s.lane i).state = .settling ∨ (s.lane i).state = .active) (count : Int) :
    Changes s (s.acceptSample i count) := by
  have hused : (s.lane i).state ≠ .off := by rcases hs with hs | hs <;> simp [hs]
  have haccept : Changes s (s.modLane i fun l => (l.accept count).newValue (s.store.laneCal i)) :=
    modLane_changes _ (fun h => h.accept_newValue hs count _) (Lane.accept_frame ..).1 hused
  have hused' : ((s.modLane i fun l => (l.accept count).newValue (s.store.laneCal i)).lane i).state ≠ .off := by
    rw [lane_modLane_self]
    exact Lane.accept_used hused count _
  simp only [acceptSample]
  split
  · split
    · exact haccept.trans (completeWeighing_changes hused' _)
    · exact haccept
  · exact haccept.trans (modLane_changes _ (·.trackZero _) (Lane.trackZero_frame ..).1 hused')

/-- A lane that enters FAULT (R3). -/
theorem laneFault_changes (used : (s.lane i).state ≠ .off) (cause : FaultCause) : Changes s (s.laneFault i cause) := by
  refine (s.failWeighing_changes i (by decide)).trans (modLane_changes _ (fun h => h.enterFault (by simp) cause) (by rfl) ?_)
  simpa using used

theorem badSample_changes : Changes s (s.badSample i) := by
  have hbad (hs : (s.lane i).state ≠ .off) :
      let u := s.modLane i fun l => { l with badRun := countUp 8 l.badRun }
      Changes s (if 8 ≤ (u.lane i).badRun then u.laneFault i .parity else u) := by
    have hcount : Changes s (s.modLane i fun l => { l with badRun := countUp 8 l.badRun }) :=
      modLane_changes _ (fun h => h.badFrame) rfl hs
    intro u
    split
    · exact hcount.trans (laneFault_changes (by simpa [u] using hs) _)
    · exact hcount
  unfold badSample
  split
  · exact .refl s
  · next hs => exact modLane_changes _ (fun h => h.badFrame_fault) rfl (by simp [hs])
  · next hs => exact hbad (by simp [hs])
  · next hs => exact hbad (by simp [hs])

theorem goodSample_changes (overFlag : Bool) (count : Int) : Changes s (s.goodSample i overFlag count) := by
  have hgood (hs : (s.lane i).state ≠ .off) :
      Changes s (s.modLane i fun l => { l with badRun := 0, silence := some Config.silenceTime }) :=
    modLane_changes _ (fun h => h.goodFrame hs) rfl hs
  have hused (hs : (s.lane i).state = .settling ∨ (s.lane i).state = .active) :
      let u := s.modLane i fun l => { l with badRun := 0, silence := some Config.silenceTime }
      Changes s (if overFlag then u.modLane i Lane.overrangeFrame else u.acceptSample i count) := by
    have hoff : (s.lane i).state ≠ .off := by rcases hs with hs | hs <;> simp [hs]
    refine (hgood hoff).trans ?_
    split
    · exact modLane_changes _ (fun h => h.overrangeFrame) rfl (by simpa using hoff)
    · exact acceptSample_changes (by simpa using hs) count
  unfold goodSample
  split
  · exact .refl s
  · next hs =>
    refine (hgood (by simp [hs])).trans ?_
    exact modLane_changes _ (fun h => h.recover (by simpa using hs)) (Lane.recover_frame _).1 (by simp [hs])
  · next hs => exact hused (.inl hs)
  · next hs => exact hused (.inr hs)

theorem silenceExpiry_changes : Changes s (s.silenceExpiry i) := by
  have hfault (hs : (s.lane i).state ≠ .off) :
      Changes s ((s.laneFault i .silent).modLane i fun l => { l with silence := some Config.silenceTime }) := by
    have hs' : ((s.laneFault i .silent).lane i).state ≠ .off := by simp [laneFault, Lane.enterFault]
    exact (laneFault_changes hs _).trans (modLane_changes _ (fun h => h.withSilence hs') rfl hs')
  unfold silenceExpiry
  split
  · exact .refl s
  · split
    · exact .refl s
    · next hs => exact modLane_changes _ (fun h => h.silentFault hs) rfl (by simp [hs])
    · next hs => exact hfault (by simp [hs])
    · next hs => exact hfault (by simp [hs])

theorem stabilityExpiry_changes : Changes s (s.stabilityExpiry i) := by
  unfold stabilityExpiry
  split
  · exact .refl s
  · exact s.failWeighing_changes i (by split <;> decide)

theorem calibrationChange_changes : Changes s (s.calibrationChange i) := by
  unfold calibrationChange
  split
  · exact .refl s
  · next hs =>
    refine (s.failWeighing_changes i (by decide)).trans (modLane_changes _ (fun h => h.settleAtCal (by simp) _) rfl ?_)
    simpa using hs

theorem laneHold_changes (s : State) (i : Fin 8) : Changes s (s.laneHold i) :=
  (s.failWeighing_changes i (by decide)).then_ (.lane i _ (fun h => h.silenced) (.inl rfl) fun h => h.imp id .inl)

end State

/-! ## Requests of a lane (R14, R15, R21) -/

theorem laneSetOn_changes (i : Fin 8) (enable : Bool) {k band m : Nat} (s : State) (hk : k ≤ 4) (hband : band ≤ 3) (hm : 2 ≤ m)
    (hm' : m ≤ 15) : Changes s (laneSetOn i enable k band m s).1 := by
  have hresettle (hs : (s.lane i).state ≠ .off) : Changes s (laneResettle i k band m s).1 := by
    simp only [laneResettle]
    split
    · exact .refl s
    · split
      · exact .refl s
      · next hw =>
        exact accept_changes (State.modLane_changes _ (fun h => h.resettle (by simpa using hw) true hk hband hm hm') rfl hs) _
  have hdisable : Changes s ((s.failWeighing i .laneOff).modLane i fun l => (l.withSettings false k band m).enterOff) :=
    (s.failWeighing_changes i (by decide)).then_
      (.lane i _ (fun h => h.disable (by simp) hk hband hm hm') (.inl rfl) fun h => by simp [Lane.enterOff, Lane.withSettings] at h)
  unfold laneSetOn
  split
  · next hs =>
    split
    · exact .refl s
    · next cal hcal =>
      exact accept_changes
        (.one (.lane i _ (fun h => h.enable hs hk hband hm hm' cal) (.inl rfl) fun _ => .inr (.inr (by simp [hcal])))) _
  · next hs =>
    exact accept_changes (.one (.lane i _ (fun h => h.reset (.inl hs) false hk hband hm hm') (.inl rfl) fun h =>
      .inr (.inl (h.resolve_left (by simp [Lane.withSettings]))))) _
  · next hs => exact hresettle (by simp [hs])
  · next hs => exact hresettle (by simp [hs])
  · next hs =>
    exact accept_changes (State.modLane_changes _ (fun h => h.reset (.inr hs) true hk hband hm hm') rfl (by simp [hs])) _
  · exact hdisable
  · exact hdisable
  · exact hdisable

theorem laneSet_changes (lane enable k band m : Nat) (s : State) : Changes s (laneSet lane enable k band m s).1 := by
  unfold laneSet
  split
  · exact .refl s
  · split
    · exact .refl s
    · exact laneSetOn_changes _ _ s (by omega) (by omega) (by omega) (by omega)

theorem laneZero_changes (lane : Nat) (s : State) : Changes s (laneZero lane s).1 := by
  simp only [laneZero]
  split
  · exact .refl s
  · next i _ =>
    split
    · exact .refl s
    · next hs =>
      split
      · exact .refl s
      · split
        · exact .refl s
        · split
          · exact .refl s
          · split
            · exact .refl s
            · exact accept_changes (State.modLane_changes _ (fun h => h.zeroed _ _) rfl hs) _

theorem laneRead_changes (lane partNo : Nat) (s : State) : Changes s (laneRead lane partNo s).1 := by
  unfold laneRead
  split
  · exact .refl s
  · split
    · exact .refl s
    · exact accept_changes (.one (.lane _ _ (fun h => h.seen) (.inl rfl) fun h => h.imp id .inl)) _

end Sys2Proof.Machine
end

section
/-! PROOF. The commands of the lots, the rostra and the press as runs of elementary changes. -/

namespace Sys2Proof.Machine

theorem foldl_changes {α : Type} {f : State → α → State} (h : ∀ s x, Changes s (f s x)) (xs : List α) (s : State) :
    Changes s (xs.foldl f s) := by
  induction xs generalizing s with
  | nil => exact .refl s
  | cons x xs ih => exact (h s x).trans (ih (f s x))

/-! ## Rostra -/

namespace State

@[simp] theorem rostrum_modRostrum_self (s : State) (r : RostrumId) (f : Rostrum → Rostrum) :
    (s.modRostrum r f).rostrum r = f (s.rostrum r) := by cases r <;> rfl

variable {s : State} {r : RostrumId}

/-- A change of a rostrum that keeps its queue, its desks and its current lot. -/
theorem modRostrum_changes (f : Rostrum → Rostrum) (sound : (s.rostrum r).Sound → (f (s.rostrum r)).Sound)
    (queue : (f (s.rostrum r)).queue = (s.rostrum r).queue := by rfl) (desks : (f (s.rostrum r)).desks = (s.rostrum r).desks := by rfl)
    (offer : (f (s.rostrum r)).offer.map (·.key) = (s.rostrum r).offer.map (·.key) := by rfl) : Changes s (s.modRostrum r f) :=
  .one (.rostrum r f sound queue desks (.inl offer))

theorem formClock_changes (s : State) (r : RostrumId) : Changes s (s.formClock r) :=
  modRostrum_changes _ (fun h => h.showClock _) (by simp) (by simp) (by simp)

theorem startOffer_changes (idle : (s.rostrum r).Sound → (s.rostrum r).offer = none) (ht : s.trading = true) :
    Changes s (s.startOffer r) := .one (.offerStarted r idle ht)

theorem enterWaiting_changes (hs : (s.rostrum r).Sound → (s.rostrum r).state = .idle ∨ (s.rostrum r).state = .showing) :
    Changes s (s.enterWaiting r) :=
  (modRostrum_changes _ fun h => h.waiting (hs h)).trans (formClock_changes _ r)

/-- A current lot goes, and the rostrum shows its end (R54, R71). -/
theorem enterShowing_eq (s : State) (r : RostrumId) (e : LastLotEnd) :
    (s.modRostrum r (·.lotEnd e)).enterShowing r =
      (s.modRostrum r fun x =>
        { x with
          state := .showing, offer := none, stepTimer := none, showTimer := some s.store.timing.showTime, last := some e
          attention := true }).formClock r := by
  cases r <;> rfl

theorem stepExpiry_changes : Changes s (s.stepExpiry r) := by
  simp only [stepExpiry]
  split
  · exact .refl s
  · next hrun =>
    split
    · exact .refl s
    · next o ho =>
      split
      · exact .refl s
      · next snap _ =>
        split
        · refine (modRostrum_changes _ (fun h => h.stepped ?_ (by simp [ho]) _ _) rfl rfl (by simp [ho])).trans (formClock_changes _ r)
          rw [show (s.rostrum r).stepTimer = some 0 by simpa using hrun]
          rfl
        · rw [enterShowing_eq]
          exact (Changes.one (.unsold r o
            (fun x => { x with
              state := .showing, offer := none, stepTimer := none, showTimer := some s.store.timing.showTime
              last := some { code := .noSale, key := o.key, price := o.price, winner := none }, attention := true })
            ho (fun _ h => h.shown _) (fun _ => rfl) (fun _ => rfl) fun _ => rfl)).trans (formClock_changes _ r)

theorem showExpiry_changes (ht : s.trading = true) : Changes s (s.showExpiry r) := by
  simp only [showExpiry]
  split
  · exact .refl s
  · next hrun =>
    have hshowing (h : (s.rostrum r).Sound) : (s.rostrum r).state = .showing := h.showing (by simpa using hrun)
    split
    · exact enterWaiting_changes fun h => .inr (hshowing h)
    · exact startOffer_changes (fun h => h.no_offer (by simp [hshowing h]) (by simp [hshowing h])) ht

theorem putBack_changes (f : Rostrum → Rostrum) (sound : ∀ x : Rostrum, x.Sound → (f x).Sound) (queue : ∀ x, (f x).queue = x.queue)
    (desks : ∀ x, (f x).desks = x.desks) (offer : ∀ x, (f x).offer = none) : Changes s ((s.putBack r).modRostrum r f) :=
  .one (.putBack r f sound queue desks offer)

theorem rostrumHoldEntry_changes (s : State) (r : RostrumId) : Changes s (s.rostrumHoldEntry r) :=
  putBack_changes _ (fun _ h => Rostrum.Sound.silenceLine (Rostrum.Sound.toIdle h)) (fun _ => rfl) (fun _ => rfl) fun _ => rfl

/-- The lot on the clock goes back at ROSTRUM STOP, which leaves the rostrum IDLE (R58). -/
theorem stopOffer_changes : Changes s ((s.stopOffer r).modRostrum r Rostrum.toIdle) := by
  unfold stopOffer
  split
  · next ho =>
    have hput : s.putBack r = s := by simp only [putBack, ho]
    have hidle := putBack_changes (s := s) (r := r) Rostrum.toIdle (fun _ h => Rostrum.Sound.toIdle h) (fun _ => rfl) (fun _ => rfl)
      fun _ => rfl
    rwa [hput] at hidle
  · rw [modRostrum_modRostrum]
    exact putBack_changes _ (fun _ h => Rostrum.Sound.toIdle h) (fun _ => rfl) (fun _ => rfl) fun _ => rfl

theorem answerPress_changes (desk : Nat) (a : PressAnswer) : Changes s (s.answerPress r desk a) :=
  modRostrum_changes _ (fun h => h.answer _) (by simp) (by simp) (by simp)

theorem press_changes (d : Fin 96) (quantity : Nat) : Changes s (s.press r d quantity) := by
  unfold press
  split
  · exact answerPress_changes ..
  · exact answerPress_changes ..
  · exact answerPress_changes ..
  · exact answerPress_changes ..
  · split
    · exact answerPress_changes ..
    · next c v hjudged => exact .one (.won r d quantity c v hjudged)

theorem reject_changes (s : State) (r : RostrumId) : Changes s (s.modRostrum r Rostrum.reject) :=
  modRostrum_changes _ (fun h => h.reject)

theorem pressArrival_changes (desk quantity check : Byte) : Changes s (s.pressArrival r desk quantity check) := by
  unfold pressArrival
  split
  · exact reject_changes s r
  · split
    · exact press_changes ..
    · exact reject_changes s r

end State

/-! ## Requests on a rostrum (R55 to R60, R74) -/

theorem rostrumStart_changes (r : RostrumId) {s : State} (ht : s.trading = true) : Changes s (rostrumStart r s).1 := by
  unfold rostrumStart
  split
  · next hs =>
    split
    · exact State.enterWaiting_changes fun _ => .inl hs
    · exact State.startOffer_changes (fun h => h.no_offer (by simp [hs]) (by simp [hs])) ht
  all_goals exact .refl s

theorem rostrumHold_changes (r : RostrumId) (s : State) : Changes s (rostrumHold r s).1 := by
  unfold rostrumHold
  split
  · next hs => exact (State.modRostrum_changes _ fun h => h.held hs).trans (State.formClock_changes _ r)
  all_goals exact .refl s

theorem rostrumResume_changes (r : RostrumId) (s : State) : Changes s (rostrumResume r s).1 := by
  unfold rostrumResume
  split
  · next hs => exact (State.modRostrum_changes _ fun h => h.resumed hs _).trans (State.formClock_changes _ r)
  all_goals exact .refl s

theorem rostrumStop_changes (r : RostrumId) (s : State) : Changes s (rostrumStop r s).1 := by
  have hidle (hr : (s.rostrum r).state ≠ .running) (hh : (s.rostrum r).state ≠ .held) :
      Changes s (s.modRostrum r Rostrum.toIdle) :=
    .one (.rostrum r _ (·.toIdle) rfl rfl (.inr ⟨rfl, fun _ h => h.no_offer hr hh⟩))
  unfold rostrumStop
  split
  · exact .refl s
  · next hs => exact (hidle (by simp [hs]) (by simp [hs])).trans (State.formClock_changes _ r)
  · next hs => exact (hidle (by simp [hs]) (by simp [hs])).trans (State.formClock_changes _ r)
  · exact State.stopOffer_changes.trans (State.formClock_changes _ r)
  · exact State.stopOffer_changes.trans (State.formClock_changes _ r)

theorem rostrumRead_changes (rostrum page partNo : Nat) (s : State) : Changes s (rostrumRead rostrum page partNo s).1 := by
  unfold rostrumRead
  split
  · split
    · exact .refl s
    · refine accept_changes (State.modRostrum_changes _ (fun h => h.readEffect page) ?_ ?_ ?_) _
      all_goals simp only [Rostrum.readEffect]; (repeat' split) <;> rfl
  · exact .refl s

theorem deskAssign_changes (rostrum desk buyer : Nat) (s : State) : Changes s (deskAssign rostrum desk buyer s).1 := by
  unfold deskAssign
  split
  · split
    · exact .refl s
    · split
      · exact .refl s
      · next a ha =>
        split
        · exact .refl s
        · next hkind =>
          split
          · exact .refl s
          · split
            · split <;> exact .refl s
            · next hfree =>
              have hbuyer : a.kind = .buyer := by cases hk : a.kind <;> simp_all
              exact .one (.deskAssigned _ _ buyer a ha hbuyer hfree)
  · exact .refl s

theorem deskRelease_changes (rostrum desk : Nat) (s : State) : Changes s (deskRelease rostrum desk s).1 := by
  unfold deskRelease
  split
  · split
    · exact .refl s
    · next b hb => exact .one (.deskReleased _ _ b hb)
  · exact .refl s

/-! ## Requests of the lot table (R26 to R46) -/

theorem dayClose_changes (s : State) : Changes s (dayClose s).1 := by
  simp only [dayClose]
  split
  · exact .refl s
  · refine accept_changes ?_ _
    refine (Changes.one .dayBegun).trans ?_
    refine (foldl_changes (fun s t => .one (.crates t (fun c => { c with strays := 0 }) fun _ h => h)) all8 _).trans ?_
    exact foldl_changes (fun s g => .one (.gate g fun x => { x with refused := 0 })) all2 _

theorem openLot_changes (boat species crateType : Nat) (s : State) : Changes s (openLot boat species crateType s).1 := by
  unfold openLot
  split
  · split
    · exact .refl s
    · split
      · exact .refl s
      · next a ha =>
        split
        · exact .refl s
        · next hkind =>
          split
          · exact .refl s
          · split
            · exact .refl s
            · split
              · exact .refl s
              · next hroom =>
                have hboat : a.kind = .boat := by cases hk : a.kind <;> simp_all
                exact .one (.opened boat species _ a ha hboat (not_le.mp hroom))
  · exact .refl s

theorem takeWeighingOn_changes (i : Fin 8) {c : Nat} {lot : Lot} {s : State} (hlot : s.lot? lot.key = some lot) (hc : 1 ≤ c)
    (hc' : c ≤ 99) (ht : s.trading = true) : Changes s (takeWeighingOn i c lot s).1 := by
  simp only [takeWeighingOn]
  split
  · exact .refl s
  · next hopened =>
    split
    · exact .refl s
    · next hpending =>
      split
      · exact .refl s
      · next hweighing =>
        split
        · exact .refl s
        · next hactive =>
          split
          · exact .refl s
          · next hweighings =>
            split
            · exact .refl s
            · next hcrates =>
              split
              · exact .refl s
              · split
                · exact .refl s
                · next hfree =>
                  exact .one (.handedIn lot i c hlot (not_not.mp hopened) (by simpa using hpending) (by simpa using hweighing)
                    (not_not.mp hactive) (not_le.mp hweighings) (not_lt.mp hcrates) hc hc' (not_lt.mp hfree) ht)

theorem takeWeighing_changes (number part lane crates : Nat) {s : State} (ht : s.trading = true) :
    Changes s (takeWeighing number part lane crates s).1 := by
  unfold takeWeighing
  split
  · exact .refl s
  · split
    · exact .refl s
    · exact onLot_changes _ _ fun lot hlot => takeWeighingOn_changes _ hlot (by omega) (by omega) ht

theorem closeLotOn_changes {lot : Lot} {s : State} (hlot : s.lot? lot.key = some lot) : Changes s (closeLotOn lot s).1 := by
  simp only [closeLotOn]
  split
  · exact .refl s
  · next hopened =>
    split
    · exact .refl s
    · next hpending =>
      split
      · exact .refl s
      · next hweighed =>
        split
        · exact .refl s
        · next hleast =>
          exact .one (.closed lot hlot (not_not.mp hopened) (by simpa using hpending) (by simpa using hweighed) (not_lt.mp hleast))

theorem cancelLotOn_changes {lot : Lot} {s : State} (hlot : s.lot? lot.key = some lot) : Changes s (cancelLotOn lot s).1 := by
  unfold cancelLotOn
  split
  · exact .refl s
  · next hopened =>
    split
    · exact .refl s
    · next hpending => exact .one (.retired lot hlot (.inl ⟨not_not.mp hopened, by simpa using hpending⟩))

theorem queueLotOn_changes (r : RostrumId) (atHead : Bool) (override : Nat) {lot : Lot} {s : State}
    (hlot : s.lot? lot.key = some lot) (ht : s.trading = true) : Changes s (queueLotOn r atHead override lot s).1 := by
  simp only [queueLotOn]
  split
  · exact .refl s
  · next hwaiting =>
    split
    · exact .refl s
    · split
      · exact .refl s
      · next hroom =>
        have hqueued : Changes s (s.enqueue r atHead override lot) :=
          .one (.queued r atHead override lot hlot (by simpa using hwaiting) (not_le.mp hroom))
        split
        · next hs =>
          refine hqueued.trans (State.startOffer_changes (fun h => h.no_offer ?_ ?_) (by simpa [State.enqueue] using ht))
          all_goals simp [State.enqueue, hs]
        · exact hqueued

theorem queueLot_changes (number part rostrum position override : Nat) {s : State} (ht : s.trading = true) :
    Changes s (queueLot number part rostrum position override s).1 := by
  unfold queueLot
  split
  · exact .refl s
  · split
    · exact .refl s
    · exact onLot_changes _ _ fun lot hlot => queueLotOn_changes _ _ _ hlot ht

theorem unqueueLotOn_changes {lot : Lot} {s : State} (hlot : s.lot? lot.key = some lot) : Changes s (unqueueLotOn lot s).1 := by
  unfold unqueueLotOn
  split
  · exact .refl s
  · next hqueued => exact .one (.unqueued lot hlot (not_not.mp hqueued))

theorem returnLotOn_changes {lot : Lot} {s : State} (hlot : s.lot? lot.key = some lot) : Changes s (returnLotOn lot s).1 := by
  unfold returnLotOn
  split
  · exact .refl s
  · next hwaiting => exact .one (.retired lot hlot (.inr (.inl (by simpa using hwaiting))))

theorem retireLotOn_changes {lot : Lot} {s : State} (hlot : s.lot? lot.key = some lot) : Changes s (retireLotOn lot s).1 := by
  unfold retireLotOn
  split
  · exact .refl s
  · next hsold =>
    split
    · exact .refl s
    · next hfamily => exact .one (.retired lot hlot (.inr (.inr ⟨not_not.mp hsold, hfamily⟩)))

theorem lotRead_changes (selector number part page partNo : Nat) (s : State) :
    Changes s (lotRead selector number part page partNo s).1 := by
  refine .of_eq ?_
  unfold lotRead
  (repeat' split) <;> rfl

end Sys2Proof.Machine
end

section
/-! PROOF. The commands of the accounts, the crate pool and the ice bays as runs of elementary changes. -/

namespace Sys2Proof.Machine

/-! ## Accounts (R97 to R104, R113) -/

theorem addAccount_changes (number kind limit cls : Nat) (s : State) : Changes s (addAccount number kind limit cls s).1 := by
  unfold addAccount
  split
  · exact .refl s
  · split
    · exact .refl s
    · split
      · exact .refl s
      · next hfresh =>
        split
        · exact .refl s
        · next hroom => exact .one (.accountAdded number _ limit cls (by simpa using hfresh) (not_le.mp hroom))

theorem accountSet_changes (number presence limit cls state : Nat) (s : State) :
    Changes s (accountSet number presence limit cls state s).1 := by
  simp only [accountSet]
  split
  · exact .refl s
  · exact onAccount_changes _ fun a _ => .one (.accountSet a.number _ _ _)

theorem accountRead_changes (number page partNo : Nat) (s : State) : Changes s (accountRead number page partNo s).1 := by
  have hpage : (accountPageRead number page partNo s).1 = s := by
    unfold accountPageRead onAccount
    (repeat' split) <;> rfl
  exact .of_eq hpage

theorem accountNext_changes (number : Nat) (s : State) : Changes s (accountNext number s).1 := by
  refine .of_eq ?_
  unfold accountNext
  (repeat' split) <;> rfl

theorem closeAccountOn_changes {a : Account} {s : State} (ha : s.account? a.number = some a) :
    Changes s (closeAccountOn a s).1 := by
  unfold closeAccountOn
  split
  · exact .refl s
  · next hunheld => exact .one (.accountClosed a ha hunheld)

theorem paymentIn_changes (number amount : Nat) (s : State) : Changes s (paymentIn number amount s).1 := by
  unfold paymentIn
  split
  · exact .refl s
  · refine onAccount_changes _ fun a _ => ?_
    simp only [paymentInOn]
    split
    · exact .refl s
    · exact accept_changes ((Changes.one (.posted a.number amount)).then_
        (.hall (fun h => { h with cashIn := h.cashIn + BitVec.ofNat 64 amount }) fun _ => rfl)) _

theorem paymentOut_changes (number amount : Nat) (s : State) : Changes s (paymentOut number amount s).1 := by
  unfold paymentOut
  split
  · exact .refl s
  · refine onAccount_changes _ fun a _ => ?_
    simp only [paymentOutOn]
    split
    · exact .refl s
    · exact accept_changes ((Changes.one (.posted a.number (-(amount : Int)))).then_
        (.hall (fun h => { h with cashOut := h.cashOut + BitVec.ofNat 64 amount }) fun _ => rfl)) _

theorem hallTotals_changes (page : Nat) (s : State) : Changes s (hallTotals page s).1 := by
  unfold hallTotals
  split
  · exact .refl s
  · split
    · exact .refl s
    · split
      · exact .one (.totals _)
      · split <;> exact .refl s

/-! ## The crate pool (R120 to R130) -/

/-- The clamp never leaves more than the yard stock (R121). -/
theorem issueClamp_le_yard (n yard : Nat) (available : Int) (d : Nat) : issueClamp n yard available d ≤ yard := by
  simp only [issueClamp]
  split <;> omega

theorem crateIssue_changes (account crateType n : Nat) (s : State) : Changes s (crateIssue account crateType n s).1 := by
  unfold crateIssue
  split
  · exact .refl s
  · split
    · exact .refl s
    · refine onAccount_changes _ fun a ha => ?_
      simp only [crateIssueOn]
      split
      · exact .refl s
      · split
        · exact .refl s
        · next d hd =>
          split
          · exact .refl s
          · split
            · exact .refl s
            · exact .one (.issued a _ _ d ha hd (issueClamp_le_yard ..))

theorem returnOpen_changes (gate account : Nat) (s : State) : Changes s (returnOpen gate account s).1 := by
  unfold returnOpen
  split
  · exact .refl s
  · refine onAccount_changes _ fun a _ => ?_
    unfold returnOpenOn
    split
    · exact .refl s
    · split
      · exact .refl s
      · exact accept_changes (.one (.gate _ _)) _

theorem returnClose_changes (gate : Nat) (s : State) : Changes s (returnClose gate s).1 := by
  unfold returnClose
  split
  · exact .refl s
  · split
    · exact .refl s
    · next w _ =>
      split
      · exact .refl s
      · next a ha =>
        unfold returnCloseOn
        split
        · exact .refl s
        · split
          · exact .refl s
          · exact .one (.settled _ w a (State.account?_number ha ▸ ha))

theorem crateTransfer_changes (giver taker crateType n : Nat) (s : State) :
    Changes s (crateTransfer giver taker crateType n s).1 := by
  unfold crateTransfer
  split
  · exact .refl s
  · split
    · exact .refl s
    · next hargs =>
      split
      · next a b ha hb =>
        unfold crateTransferOn
        split
        · exact .refl s
        · split
          · exact .refl s
          · next d hd =>
            split
            · exact .refl s
            · next hfree =>
              split
              · exact .refl s
              · split
                · exact .refl s
                · have hne : a.number ≠ b.number := by
                    rw [State.account?_number ha, State.account?_number hb]
                    exact fun h => hargs (.inr (.inr (.inl h)))
                  exact .one (.transferred a b _ n d (State.account?_number ha ▸ ha) (State.account?_number hb ▸ hb) hne hd
                    (not_lt.mp hfree))
      · exact .refl s

theorem fleetAdjust_changes (crateType : Nat) (n : Int) (s : State) : Changes s (fleetAdjust crateType n s).1 := by
  simp only [fleetAdjust]
  split
  · exact .refl s
  · split
    · exact .refl s
    · split
      · exact .refl s
      · exact accept_changes (.one (.crates _ _ fun held h => by dsimp only; omega)) _

theorem yardRead_changes (page : Nat) (s : State) : Changes s (yardRead page s).1 := by
  refine .of_eq ?_
  unfold yardRead
  split <;> rfl

theorem strayCrate_changes (s : State) (g : Fin 2) (t : Fin 8) : Changes s (s.strayCrate g t) := by
  unfold State.strayCrate
  split
  · exact .one (.gate g _)
  · exact .one (.crates t _ fun held h => by simp only [CrateType.addStray]; omega)

theorem gateArrival_changes (s : State) (g : Fin 2) (typeCode check : Byte) : Changes s (s.gateArrival g typeCode check) := by
  unfold State.gateArrival
  split
  · exact .one (.gate g _)
  · split
    · exact strayCrate_changes ..
    · split
      · exact .one (.gate g _)
      · exact strayCrate_changes ..

/-! ## Ice bays (R135 to R146) -/

namespace Bay.Sound

variable {x : Bay} {o : IceOrder}

theorem ignorePulse (h : x.Sound) : x.ignorePulse.Sound := h

theorem readEffect (h : x.Sound) (page : Nat) : (x.readEffect page).Sound := by
  unfold Bay.readEffect
  (repeat' split) <;> exact h

theorem start (x : Bay) : x.start.Sound := by simp [Bay.Sound, Bay.start, Bay.fresh]

theorem counted (h : x.Sound) (hs : x.state = .dispensing) (delivered pulse : Nat) :
    Bay.Sound { x with delivered, pulseTimer := some pulse } := by
  obtain ⟨horder, hrelease, -, hrunOn, hpulses, hranges⟩ := h
  exact ⟨horder, hrelease, by simp [hs], hrunOn, hpulses, hranges⟩

theorem runOnPulse (h : x.Sound) (o : IceOrder) : (x.runOnPulse o).Sound := by
  unfold Bay.runOnPulse
  split
  · obtain ⟨horder, hrelease, hpulse, hrunOn, -, hranges⟩ := h
    exact ⟨horder, hrelease, hpulse, hrunOn, by dsimp only; omega, hranges⟩
  · exact h.ignorePulse

theorem ranOn (h : x.Sound) (ho : x.order = some o) (aborted : Bool) (window : Nat) :
    Bay.Sound
      { x with
        state := .runOn, order := some { o with aborted }, runOnPulses := 0, pulseTimer := none, runOnTimer := some window
        release := false } := by
  obtain ⟨-, -, -, -, -, hranges⟩ := h
  refine ⟨by simp, by simp, by simp, by simp, by simp, ?_⟩
  rintro _ ⟨⟩
  exact hranges o ho

theorem complete (x : Bay) (o : IceOrder) (code : IceCode) : (x.complete o code).Sound := by simp [Bay.Sound, Bay.complete]

theorem dispense (x : Bay) {account q : Nat} (hq : 1 ≤ q) (hq' : q ≤ 5000) (price weight pulse : Nat) :
    (x.dispense (IceOrder.taken account q price weight) pulse).Sound := by
  simp [Bay.Sound, Bay.dispense, IceOrder.taken, hq, hq']

theorem tick (h : x.Sound) : x.tick.Sound := by
  obtain ⟨horder, hrelease, hpulse, hrunOn, hpulses, hranges⟩ := h
  exact ⟨horder, hrelease, by simpa [Bay.tick, tickTimer] using hpulse, by simpa [Bay.tick, tickTimer] using hrunOn, hpulses, hranges⟩

theorem clear (h : x.Sound) : x.clear.Sound := h

theorem fresh : Bay.fresh.Sound := by simp [Bay.Sound, Bay.fresh]

end Bay.Sound

/-- The credit clamp never raises a quantity (R136). -/
theorem creditClamp_le (q : Nat) (available : Int) (price : Nat) : creditClamp q available price ≤ q := by
  unfold creditClamp
  split <;> omega

theorem iceOrder_changes (account bay q : Nat) {s : State} (ht : s.trading = true) : Changes s (iceOrder account bay q s).1 := by
  unfold iceOrder
  split
  · exact .refl s
  · split
    · exact .refl s
    · next hargs =>
      split
      · exact .refl s
      · next hidle =>
        split
        · exact .refl s
        · next a ha =>
          simp only [iceOrderOn]
          split
          · exact .refl s
          · split
            · split
              · exact .refl s
              · split
                · exact .refl s
                · next hleast =>
                  have hclamp := creditClamp_le (stockClamp q s.ice.free) a.available
                  have hstock : stockClamp q s.ice.free ≤ q := min_le_left ..
                  exact .one (.orderTaken _ a _ _ _ ht (not_not.mp hidle) (State.account?_number ha ▸ ha)
                    (by omega) ((hclamp _).trans (hstock.trans (by omega))))
            · exact .refl s

namespace State

variable {s : State} {b : Fin 4}

theorem completeOrder_changes (b : Fin 4) (code : IceCode) : Changes s (s.completeOrder b code) := .one (.orderCompleted b code)

theorem enterRunOn_changes {o : IceOrder} (ho : (s.bay b).order = some o) (aborted : Bool) :
    Changes s (s.enterRunOn b { o with aborted }) := by
  have hentered := Change.bay b
    (fun x =>
      { x with
        state := .runOn, order := some { o with aborted }, runOnPulses := 0, pulseTimer := none
        runOnTimer := some s.store.timing.runOn, release := false })
    (fun h => h.ranOn ho aborted _) (.inl (by simp [ho, IceOrder.claim]))
  simp only [enterRunOn]
  split
  · exact (Changes.one hentered).trans (completeOrder_changes b _)
  · exact .one hentered

theorem pulse_changes (b : Fin 4) : Changes s (s.pulse b) := by
  have hignored : Changes s (s.modBay b Bay.ignorePulse) := .one (.bay b _ (·.ignorePulse) (.inl rfl))
  unfold pulse
  split
  · next o hs ho =>
    have hcounted := Change.bay b
      (fun x => { x with delivered := x.delivered + o.pulseWeight, pulseTimer := some s.store.timing.pulse })
      (fun h => h.counted hs _ _) (.inl rfl)
    simp only [dispensePulse]
    split
    · exact (Changes.one hcounted).trans (enterRunOn_changes (by simpa using ho) false)
    · exact .one hcounted
  · next o hs ho =>
    refine .one (.bay b _ (fun h => h.runOnPulse o) (.inl ?_))
    unfold Bay.runOnPulse
    split <;> rfl
  all_goals exact hignored

theorem jam_changes (b : Fin 4) : Changes s (s.jam b) := by
  unfold jam
  split
  · exact completeOrder_changes b _
  · exact .refl s

theorem runOnExpiry_changes (b : Fin 4) : Changes s (s.runOnExpiry b) := by
  unfold runOnExpiry
  split
  · exact .refl s
  · split
    · exact .refl s
    · exact completeOrder_changes b _

end State

theorem iceAbort_changes (bay : Nat) (s : State) : Changes s (iceAbort bay s).1 := by
  unfold iceAbort
  split
  · exact .refl s
  · simp only [iceAbortOn]
    split
    · next ho => exact State.enterRunOn_changes ho true
    all_goals exact .refl s

theorem iceStockAdd_changes (grams : Nat) (s : State) : Changes s (iceStockAdd grams s).1 := by
  simp only [iceStockAdd]
  split
  · exact .refl s
  · exact .one (.restocked grams)

theorem bayRead_changes (bay page partNo : Nat) (s : State) : Changes s (bayRead bay page partNo s).1 := by
  unfold bayRead
  split
  · split
    · exact .refl s
    · refine accept_changes (.one (.bay _ _ (fun h => h.readEffect page) (.inl ?_))) _
      unfold Bay.readEffect
      (repeat' split) <;> rfl
  · exact .refl s

end Sys2Proof.Machine
end

section
/-! PROOF. The commands of the store, the supply monitor and the port as runs of elementary changes. -/

namespace Sys2Proof.Machine

/-! ## The store (R150 to R160) -/

/-- Replacing a record leaves the others. -/
theorem StoreCells.get_set (c : StoreCells) (id id' : RecordId) (r : StoreRecord) :
    (c.set id r).get id' = if id = id' then r else c.get id' := by
  cases id <;> cases id' <;> simp [set, get, Vector.getElem_set, Fin.ext_iff]

theorem StoreCells.get_set_ne {c : StoreCells} {id id' : RecordId} (h : id ≠ id') (r : StoreRecord) :
    (c.set id r).get id' = c.get id' := by rw [get_set, if_neg h]

theorem StoreRecord.Sound.checked {id : RecordId} {r : StoreRecord} (h : r.Sound id) : r.checked = r := by
  obtain ⟨valid, contents, check⟩ := r
  cases valid with
  | false => rfl
  | true => simp [StoreRecord.checked, (h rfl).1]

namespace Store

theorem live_none {st : Store} (h : st.buffer = none) (id : RecordId) : st.live id = st.cells.get id := by
  simp only [live, h]

theorem live_some {st : Store} {b : WriteBuffer} (h : st.buffer = some b) (id : RecordId) :
    st.live id = if b.target = id then b.previous else st.cells.get id := by
  simp only [live, h]

/-- Suspending and resuming a held write leaves every record as it is read. -/
@[simp] theorem live_withSuspended (st : Store) (suspended : Bool) (id : RecordId) :
    Store.live { st with buffer := st.buffer.map fun b => { b with suspended } } id = st.live id := by
  cases h : st.buffer with
  | none => simp [live, h]
  | some b => simp [live, h]

@[simp] theorem live_loadProtection (st : Store) (id : RecordId) : st.loadProtection.live id = st.live id := rfl

theorem live_begin {st : Store} (h : st.buffer = none) (id : RecordId) (contents : List Byte) (id' : RecordId) :
    (st.begin id contents).live id' = st.live id' := by
  rw [live_none h, live_some (b := { target := id, contents, previous := st.cells.get id, suspended := false }) rfl]
  split
  · next heq => exact heq ▸ rfl
  · rfl

theorem live_complete {st : Store} {b : WriteBuffer} (h : st.buffer = some b) (result : StoreResult) (id : RecordId) :
    (st.complete b result).live id =
      if b.target = id ∧ result = .ok then StoreRecord.written b.contents else st.live id := by
  rw [live_none rfl, live_some h, complete]
  by_cases hid : b.target = id
  · subst hid
    rw [StoreCells.get_set_self]
    simp
  · simp [StoreCells.get_set_ne hid, hid]

namespace Sound

variable {st : Store}

theorem withSuspended (h : st.Sound) (suspended : Bool) :
    Store.Sound { st with buffer := st.buffer.map fun b => { b with suspended } } := by
  refine ⟨h.1, fun b hb => ?_⟩
  obtain ⟨b', hb', rfl⟩ := Option.map_eq_some_iff.mp hb
  exact h.2 b' hb'

theorem suspend (h : st.Sound) : st.suspend.Sound := h.withSuspended true

theorem loadProtection (h : st.Sound) : st.loadProtection.Sound := h

theorem begin (h : st.Sound) {id : RecordId} {contents : List Byte} (hw : (StoreRecord.written contents).Sound id) :
    (st.begin id contents).Sound := by
  refine ⟨h.1, ?_⟩
  rintro _ ⟨⟩
  exact ⟨h.1 id, hw⟩

theorem complete (h : st.Sound) {b : WriteBuffer} (hb : st.buffer = some b) (result : StoreResult) : (st.complete b result).Sound := by
  obtain ⟨hprevious, hwritten⟩ := h.2 b hb
  refine ⟨fun id => ?_, fun b hb => by cases hb⟩
  show ((st.cells.set b.target _).get id).Sound id
  rw [StoreCells.get_set]
  split
  · next hid =>
    subst hid
    split
    · exact hwritten
    · exact hprevious
  · exact h.1 id

/-- The check of a sound store finds every record as it stands (R160). -/
theorem checkAll (h : st.Sound) : st.checkAll = st := by
  have hcells : ∀ ids : List RecordId,
      ids.foldl (fun c id => if st.holds id then c else c.set id (c.get id).checked) st.cells = st.cells := by
    intro ids
    induction ids with
    | nil => rfl
    | cons id ids ih =>
      have hone : (if st.holds id then st.cells else st.cells.set id (st.cells.get id).checked) = st.cells := by
        rw [(h.1 id).checked]
        split
        · rfl
        · cases id <;> simp [StoreCells.set, StoreCells.get]
      rw [List.foldl_cons, hone, ih]
  unfold Store.checkAll
  rw [hcells]

theorem start (h : st.Sound) : st.start.Sound := by
  unfold Store.start
  rw [h.checkAll]
  exact h.loadProtection.withSuspended false

theorem live_start (h : st.Sound) (id : RecordId) : st.start.live id = st.live id := by
  unfold Store.start
  rw [h.checkAll]
  exact (live_withSuspended ..).trans (live_loadProtection ..)

end Sound

end Store

/-- The record that a request's contents become, once within their ranges (R150). -/
theorem StoreRecord.written_sound {id : RecordId} {bytes : List Byte} (h : id.contentsOk (padTo id.length bytes) = true) :
    (StoreRecord.written (padTo id.length bytes)).Sound id := by
  intro _
  refine ⟨rfl, length_padTo .., ?_⟩
  split
  · next hid => subst hid; cases h
  · exact h

theorem StoreRecord.written_lock_sound : (StoreRecord.written [0x5A#8]).Sound .lock := fun _ => ⟨rfl, rfl, rfl⟩

theorem State.begin_changes {s : State} {id : RecordId} {contents : List Byte} (hw : (StoreRecord.written contents).Sound id)
    (hempty : s.store.buffer = none) : Changes s (s.modStore (·.begin id contents)) :=
  .one (.store _ (fun h => h.begin hw) fun _ => Store.live_begin hempty _ _)

theorem storeRead_changes (selector partNo : Nat) (s : State) : Changes s (storeRead selector partNo s).1 := by
  unfold storeRead
  split
  · exact .refl s
  · split
    · exact .refl s
    · exact accept_changes (.one (.store _ id fun _ _ => rfl)) _

theorem storeWrite_changes (selector : Nat) (bytes : List Byte) (s : State) : Changes s (storeWrite selector bytes s).1 := by
  simp only [storeWrite]
  split
  · exact .refl s
  · split
    · exact .refl s
    · next hok =>
      split
      · exact .refl s
      · split
        · exact .refl s
        · split
          · exact .refl s
          · split
            · exact .refl s
            · next hempty =>
              split
              · exact .refl s
              · exact State.begin_changes (StoreRecord.written_sound (by simpa using hok)) (by simpa using hempty)

theorem loadProtection_changes (s : State) : Changes s (loadProtection s).1 :=
  accept_changes (.one (.store _ (·.loadProtection) fun _ _ => rfl)) _

theorem metrologyLock_changes (check : Nat) (s : State) : Changes s (metrologyLock check s).1 := by
  unfold metrologyLock
  split
  · exact .refl s
  · split
    · exact .refl s
    · next hempty =>
      split
      · exact .refl s
      · split
        · exact .refl s
        · exact State.begin_changes StoreRecord.written_lock_sound (by simpa using hempty)

/-! ## The supply monitor (R162 to R166) -/

namespace Supply

theorem trading_eq_false_iff {p : Supply} : p.trading = false ↔ p.absent = true ∨ p.inHold = true ∨ p.starting.isSome = true := by
  simp only [trading]
  cases p.absent <;> cases p.inHold <;> cases p.starting <;> simp

theorem trading_eq_true_iff {p : Supply} : p.trading = true ↔ p.absent = false ∧ p.inHold = false ∧ p.starting = none := by
  simp only [trading]
  cases p.absent <;> cases p.inHold <;> cases p.starting <;> simp

theorem trading_congr {p q : Supply} (absent : q.absent = p.absent) (hold : q.inHold = p.inHold) (starting : q.starting = p.starting) :
    q.trading = p.trading := by rw [trading, trading, absent, hold, starting]

theorem inHold_of_state {p : Supply} (h : p.state = .normal ∨ p.state = .low) : p.inHold = false := by
  rcases h with h | h <;> simp only [inHold, h] <;> rfl

theorem inHold_of_hold {p : Supply} (h : p.state = .hold ∨ p.state = .recovering) : p.inHold = true := by
  rcases h with h | h <;> simp only [inHold, h] <;> rfl

@[simp] theorem setCodes_frame (p : Supply) (level filter : Nat) :
    (p.setCodes level filter).recovery = p.recovery ∧ (p.setCodes level filter).latch = p.latch ∧
      (p.setCodes level filter).cause = p.cause ∧ (p.setCodes level filter).restartFlag = p.restartFlag ∧
      (p.setCodes level filter).absent = p.absent ∧ (p.setCodes level filter).resetLine = p.resetLine ∧
      (p.setCodes level filter).starting = p.starting := by
  unfold setCodes
  split <;> exact ⟨rfl, rfl, rfl, rfl, rfl, rfl, rfl⟩

@[simp] theorem setCodes_inHold (p : Supply) (level filter : Nat) : (p.setCodes level filter).inHold = p.inHold := by
  unfold setCodes
  split
  · rfl
  · cases hs : p.state
    case low => simp only [inHold, hs]; rfl
    all_goals simp [inHold, hs]

@[simp] theorem setCodes_trading (p : Supply) (level filter : Nat) : (p.setCodes level filter).trading = p.trading := by
  simp only [trading, setCodes_inHold, setCodes_frame]

/-- The timers of the monitor agree with its state (09 section 9.1). -/
def Timed (p : Supply) : Prop := (p.persistence.isSome ↔ p.state = .low) ∧ (p.recovery.isSome ↔ p.state = .recovering)

theorem Timed.setCodes {p : Supply} (h : p.Timed) (level filter : Nat) : (p.setCodes level filter).Timed := by
  obtain ⟨hpersistence, hrecovery⟩ := h
  unfold Supply.setCodes
  split
  · exact ⟨hpersistence, hrecovery⟩
  · cases hs : p.state <;> simp_all [Timed]

theorem Sound.timed {p : Supply} (h : p.Sound) : p.Timed := ⟨h.1, h.2.1⟩

theorem Sound.setCodes {p : Supply} (h : p.Sound) (hp : p.absent = false) (level filter : Nat) : (p.setCodes level filter).Sound := by
  obtain ⟨hpersistence, hrecovery⟩ := h.timed.setCodes level filter
  refine ⟨hpersistence, hrecovery, ?_, ?_⟩
  · simp [hp]
  · simpa using h.2.2.2

/-- A monitor with the main supply present, whose start has ended (R166). -/
theorem Timed.started {p : Supply} (h : p.Timed) (hp : p.absent = false) (level filter : Nat) :
    Supply.Sound { p.setCodes level filter with suspend := some Config.suspendTime, starting := none } := by
  obtain ⟨hpersistence, hrecovery⟩ := h.setCodes level filter
  exact ⟨hpersistence, hrecovery, by simp [hp], by simp⟩

end Supply

namespace State

variable {s : State}

/-- A change of the monitor that leaves the part trading or not as it was. -/
theorem modSupply_changes (f : Supply → Supply) (sound : s.supply.Sound → (f s.supply).Sound)
    (absent : (f s.supply).absent = s.supply.absent) (trading : (f s.supply).trading = s.supply.trading) : Changes s (s.modSupply f) :=
  .one (.supply f sound absent fun h => .inl (trading.symm.trans h))

theorem loadCodes_changes (ht : s.trading = true) : Changes s s.loadCodes :=
  modSupply_changes _ (fun h => h.setCodes (Supply.trading_eq_true_iff.mp ht).1 _ _) (by simp) (by simp)

theorem writeEffect_changes (ht : s.trading = true) (id : RecordId) : Changes s (s.writeEffect id) := by
  cases id with
  | laneCal i => exact calibrationChange_changes
  | timing => exact loadCodes_changes ht
  | _ => exact .refl s

theorem programmed_changes (ht : s.trading = true) : Changes s s.programmed := by
  unfold programmed
  split
  · exact .refl s
  · next b hb =>
    split
    · exact .refl s
    · split
      · exact .one (.store _ (fun h => h.complete hb _) fun _ id => by simp [Store.live_complete hb])
      · next hfree => exact (Changes.one (.written b hb (by simpa using hfree))).trans (writeEffect_changes (by exact ht) _)

/-! ### HOLD (R164) -/

theorem endInFlight_changes (s : State) : Changes s s.endInFlight := by
  have hlanes : Changes s (all8.foldl laneHold s) := foldl_changes laneHold_changes all8 s
  have hrostra := (rostrumHoldEntry_changes (all8.foldl laneHold s) .a).trans (rostrumHoldEntry_changes _ .b)
  refine ((hlanes.trans hrostra).trans (foldl_changes (fun s b => completeOrder_changes (s := s) b .supply) all4 _)).trans ?_
  exact (Changes.one (.store _ (·.suspend) fun _ id => Store.live_withSuspended ..)).then_ (.totals none)

end State

/-- A lane whose work in flight has ended (R23). -/
def Lane.held (l : Lane) : Lane :=
  { l with
    weighing := none, tickets := [], silence := none
    last :=
      match l.weighing with
      | none => l.last
      | some p => some { result := .restart, gross := none, key := p.key, number := none, ticket := none }
    attention := l.attention || l.weighing.isSome }

/-- A rostrum whose work in flight has ended (R75). -/
def Rostrum.heldOff (x : Rostrum) : Rostrum := (x.takes (x.offer.map (·.key))).toIdle.silenceLine

theorem Lane.held_held (l : Lane) : l.held.held = l.held := by simp [Lane.held]

/-- A fold of operations that each keep something keeps it. -/
theorem foldl_keeps {α β : Type} {g : State → β} {f : State → α → State} (h : ∀ s x, g (f s x) = g s) (xs : List α) (s : State) :
    g (xs.foldl f s) = g s := by
  induction xs generalizing s with
  | nil => rfl
  | cons x xs ih => rw [List.foldl_cons, ih, h]

namespace State

theorem lane_laneHold (s : State) (i j : Fin 8) : (s.laneHold i).lane j = if j = i then (s.lane i).held else s.lane j := by
  unfold laneHold failWeighing
  rw [lane_modLane]
  split
  · rw [lane_endWeighing]
    cases hw : (s.lane i).weighing <;> simp [Lane.held, hw]
  · next h => rw [lane_endWeighing_ne h]

theorem lane_foldl_laneHold (is : List (Fin 8)) (s : State) (j : Fin 8) :
    (is.foldl laneHold s).lane j = if j ∈ is then (s.lane j).held else s.lane j := by
  induction is generalizing s with
  | nil => rfl
  | cons i is ih =>
    rw [List.foldl_cons, ih, lane_laneHold]
    by_cases hi : j = i
    · subst hi
      simp [Lane.held_held]
    · simp [hi]

theorem mem_all8 : ∀ i : Fin 8, i ∈ all8 := by decide

theorem rostrum_congr {s t : State} (ha : t.rostrumA = s.rostrumA) (hb : t.rostrumB = s.rostrumB) (r : RostrumId) :
    t.rostrum r = s.rostrum r := by cases r <;> assumption

theorem lane_congr {s t : State} (h : t.lanes = s.lanes) (i : Fin 8) : t.lane i = s.lane i := by rw [lane, lane, h]

theorem bay_congr {s t : State} (h : t.ice = s.ice) (b : Fin 4) : t.bay b = s.bay b := by rw [bay, bay, h]

/-- The lot on the clock goes back, if there is one. -/
theorem rostrum_putBack (s : State) (r : RostrumId) :
    (s.putBack r).rostrum r = (s.rostrum r).takes ((s.rostrum r).offer.map (·.key)) := by
  cases ho : (s.rostrum r).offer with
  | none => simp [putBack, ho, Rostrum.takes]
  | some o =>
    rw [putBack_takes ho, modRostrum_rostrum]
    cases (s.rostrum r).displaces (some o.key) <;> simp

theorem rostrum_headInsert_ne (s : State) {r q : RostrumId} (h : q ≠ r) (key : Key) :
    (s.headInsert r key).rostrum q = s.rostrum q := by
  simp only [headInsert]
  split
  · exact modRostrum_rostrum_ne _ _ h
  · split
    · rfl
    · rw [modRostrum_rostrum_ne _ _ h, rostrum_modLot_frame]

theorem rostrum_putBack_ne (s : State) {r q : RostrumId} (h : q ≠ r) : (s.putBack r).rostrum q = s.rostrum q := by
  unfold putBack
  split
  · rfl
  · rw [rostrum_headInsert_ne _ h, rostrum_modLot_frame]

theorem rostrum_rostrumHoldEntry (s : State) (r q : RostrumId) :
    (s.rostrumHoldEntry r).rostrum q = if q = r then (s.rostrum r).heldOff else s.rostrum q := by
  unfold rostrumHoldEntry
  split
  · next h => rw [h, modRostrum_rostrum, rostrum_putBack]; rfl
  · next h => rw [modRostrum_rostrum_ne _ _ h, rostrum_putBack_ne _ h]

/-- A bay whose order has been completed (R143). -/
theorem bay_completeOrder (s : State) (b c : Fin 4) (code : IceCode) :
    (s.completeOrder b code).bay c =
      if c = b then (s.bay b).order.elim (s.bay b) fun o => (s.bay b).complete o code else s.bay c := by
  cases ho : (s.bay b).order with
  | none =>
    rw [completeOrder_none ho]
    split
    · next h => rw [h]; rfl
    · rfl
  | some o =>
    simp only [completeOrder, ho, bay_modBay]
    split <;> simp [bay, modIce]

theorem bay_foldl_bayHold (bs : List (Fin 4)) (s : State) (c : Fin 4) :
    (bs.foldl bayHold s).bay c =
      if c ∈ bs then (s.bay c).order.elim (s.bay c) fun o => (s.bay c).complete o .supply else s.bay c := by
  induction bs generalizing s with
  | nil => rfl
  | cons b bs ih =>
    rw [List.foldl_cons, ih, bayHold, bay_completeOrder]
    by_cases hc : c = b
    · subst hc
      cases ho : (s.bay c).order <;> simp [ho, Bay.complete]
    · simp [hc]

/-! ### The blocks after the end of the work in flight -/

theorem endInFlight_eq (s : State) :
    s.endInFlight =
      ((all4.foldl bayHold (((all8.foldl laneHold s).rostrumHoldEntry .a).rostrumHoldEntry .b)).modStore Store.suspend).setTotals
        none := rfl

theorem endInFlight_lane (s : State) (i : Fin 8) : s.endInFlight.lane i = (s.lane i).held := by
  have hbays : ∀ u : State, (all4.foldl bayHold u).lanes = u.lanes := foldl_keeps (g := (·.lanes)) (by simp) all4
  have hlanes : s.endInFlight.lanes = (all8.foldl laneHold s).lanes := by simp [endInFlight_eq, hbays]
  rw [lane_congr hlanes, lane_foldl_laneHold, if_pos (mem_all8 i)]

theorem endInFlight_rostrum (s : State) (r : RostrumId) : s.endInFlight.rostrum r = (s.rostrum r).heldOff := by
  have hlanes : ∀ q, (all8.foldl laneHold s).rostrum q = s.rostrum q := fun q =>
    foldl_keeps (g := (·.rostrum q)) (fun s i => rostrum_congr (by simp) (by simp) q) all8 s
  have hbays : ∀ u : State, (all4.foldl bayHold u).rostrum r = u.rostrum r :=
    foldl_keeps (g := (·.rostrum r)) (fun s i => rostrum_congr (by simp) (by simp) r) all4
  rw [endInFlight_eq, rostrum_setTotals_frame, rostrum_modStore_frame, hbays, rostrum_rostrumHoldEntry, rostrum_rostrumHoldEntry, rostrum_rostrumHoldEntry, hlanes]
  cases r <;> simp [hlanes]

theorem endInFlight_bay (s : State) (b : Fin 4) :
    s.endInFlight.bay b = (s.bay b).order.elim (s.bay b) fun o => (s.bay b).complete o .supply := by
  have hlanes : (all8.foldl laneHold s).ice = s.ice := foldl_keeps (g := (·.ice)) (by simp) all8 s
  have hice : (((all8.foldl laneHold s).rostrumHoldEntry .a).rostrumHoldEntry .b).ice = s.ice := by simp [hlanes]
  rw [endInFlight_eq, bay_setTotals_frame, bay_modStore_frame, bay_foldl_bayHold, if_pos (Ledger.mem_all4 b), bay_congr hice]

theorem endInFlight_quiet (s : State) : s.endInFlight.Quiet where
  offers r := by rw [endInFlight_rostrum]; rfl
  weighings i := by rw [endInFlight_lane]; rfl
  orders b := by
    rw [endInFlight_bay]
    cases ho : (s.bay b).order with
    | none => exact ho
    | some o => rfl

/-! ### HOLD, the starts and the supply monitor's rows -/

theorem endInFlight_supply (s : State) : s.endInFlight.supply = s.supply := s.endInFlight_frame.2.1

/-- Once nothing is in flight, HOLD can be entered. -/
theorem Quiet.hold {u : State} (h : u.Quiet) (hp : u.supply.absent = false) (hs : u.supply.state = .normal ∨ u.supply.state = .low) :
    Change u (u.modSupply fun p => { p with state := .hold, persistence := none, starting := none }) := by
  refine .supply _ (fun hsound => ?_) rfl fun _ => .inr h
  obtain ⟨-, hrecovery, -, -⟩ := hsound
  refine ⟨by simp, ?_, by simp [hp], by simp⟩
  rcases hs with hs | hs <;> simpa [hs] using hrecovery

theorem enterHold_changes (hp : s.supply.absent = false) (hs : s.supply.state = .normal ∨ s.supply.state = .low) :
    Changes s s.enterHold :=
  s.endInFlight_changes.then_
    (s.endInFlight_quiet.hold (s.endInFlight_supply.symm ▸ hp) (s.endInFlight_supply.symm ▸ hs))

theorem lowSupply_changes (hp : s.supply.absent = false) (hs : s.supply.state = .normal) : Changes s s.lowSupply := by
  unfold lowSupply
  split
  · exact enterHold_changes hp (.inl hs)
  · have hnormal : s.supply.inHold = false := Supply.inHold_of_state (.inl hs)
    have hlow (persistence : Option Nat) : Supply.inHold { s.supply with state := .low, persistence } = false :=
      Supply.inHold_of_state (.inr rfl)
    refine modSupply_changes _ (fun h => ?_) rfl (Supply.trading_congr rfl ((hlow _).trans hnormal.symm) rfl)
    obtain ⟨-, hrecovery, -, hstarting⟩ := h
    exact ⟨by simp, by simpa [hs] using hrecovery, by simp [hp], fun h => ⟨(hstarting h).1, hlow _⟩⟩

end State

end Sys2Proof.Machine
end

section
/-! PROOF. The starts and the port as runs of elementary changes, and with them every command but the loss of the supply, the power-on and RECORDS
CLEAR. -/

namespace Sys2Proof.Machine

namespace State

variable {s : State}

/-! ## The end of a start (R160, R23, R76, R148, R176) -/

/-- What the end of a start makes of every block but the supply monitor. -/
def startBlocks (s : State) : State :=
  let s1 := s.modStore Store.start
  let s2 := all8.foldl (fun s i => s.modLane i fun l => l.start (s1.store.laneCal i)) s1
  let s3 := (s2.modRostrum .a Rostrum.start).modRostrum .b Rostrum.start
  let s4 := all4.foldl (fun s b => s.modBay b Bay.start) s3
  (s4.setTotals none).modPort fun _ => Port.start

@[simp] theorem startBlocks_supply (s : State) : s.startBlocks.supply = s.supply := by simp [startBlocks, all8, all4]

@[simp] theorem startBlocks_store (s : State) : s.startBlocks.store = s.store.start := by simp [startBlocks, all8, all4]

/-- The blocks and the monitor are started independently. -/
theorem finishStart_modSupply (s : State) (g : Supply → Supply) :
    (s.modSupply g).finishStart =
      s.startBlocks.modSupply fun p =>
        { (g p).setCodes s.store.start.timing.level s.store.start.timing.filter with
          suspend := some Config.suspendTime, starting := none } := by
  simp [finishStart, startBlocks, loadCodes, all8, all4, modSupply, modPort, setTotals, modBay, modRostrum, modLane, modStore]

theorem lane_start_changes (ht : s.trading = false) (i : Fin 8) (cal : LaneCal) : Changes s (s.modLane i fun l => l.start cal) := by
  refine .one (.lane i _ (fun h => h.start cal) (.inr ⟨ht, ?_⟩) fun h => .inl ?_)
  · unfold Lane.start
    split <;> rfl
  · cases he : (s.lane i).enabled with
    | true => rfl
    | false => simp [Lane.start, he, Lane.enterOff] at h

theorem rostrum_start_changes (ht : s.trading = false) (r : RostrumId) : Changes s (s.modRostrum r Rostrum.start) :=
  .one (.rostrum r _ (fun h => h.start) rfl rfl (.inr ⟨rfl, fun h => by rw [ht] at h; cases h⟩))

theorem bay_start_changes (ht : s.trading = false) (b : Fin 4) : Changes s (s.modBay b Bay.start) :=
  .one (.bay b _ (fun _ => Bay.Sound.start _) (.inr ⟨ht, rfl⟩))

/-- Changes made one after the other, each of a part that does not trade. -/
theorem foldl_idle_changes {α : Type} {f : State → α → State} (h : ∀ s x, s.trading = false → Changes s (f s x))
    (hf : ∀ s x, (f s x).trading = s.trading) (xs : List α) (ht : s.trading = false) : Changes s (xs.foldl f s) := by
  induction xs generalizing s with
  | nil => exact .refl s
  | cons x xs ih => exact (h s x ht).trans (ih ((hf s x).trans ht))

theorem startBlocks_changes (ht : s.trading = false) : Changes s s.startBlocks := by
  have hstore : Changes s (s.modStore Store.start) := .one (.store _ (·.start) fun h => h.live_start)
  have hlanes (cal : Fin 8 → LaneCal) {u : State} (hu : u.trading = false) :
      Changes u (all8.foldl (fun s i => s.modLane i fun l => l.start (cal i)) u) :=
    foldl_idle_changes (fun _ i h => lane_start_changes h i (cal i)) (by simp) all8 hu
  have hrostra {u : State} (hu : u.trading = false) :
      Changes u ((u.modRostrum .a Rostrum.start).modRostrum .b Rostrum.start) :=
    (rostrum_start_changes hu .a).trans (rostrum_start_changes (by simpa using hu) .b)
  have hbays {u : State} (hu : u.trading = false) : Changes u (all4.foldl (fun s b => s.modBay b Bay.start) u) :=
    foldl_idle_changes (fun _ b h => bay_start_changes h b) (by simp) all4 hu
  have hport {u : State} : Changes u ((u.setTotals none).modPort fun _ => Port.start) :=
    (Changes.one (.totals none)).then_ (.port _ fun _ => by simp [Port.Sound, Port.start])
  have htrading {α : Type} {f : State → α → State} (hf : ∀ s x, (f s x).trading = s.trading) (xs : List α) (u : State)
      (hu : u.trading = false) : (xs.foldl f u).trading = false := (foldl_keeps hf xs u).trans hu
  have ht1 : (s.modStore Store.start).trading = false := ht
  have ht2 := htrading (f := fun s i => s.modLane i fun l => l.start ((s.modStore Store.start).store.laneCal i)) (by simp) all8 _ ht1
  have ht3 (u : State) (hu : u.trading = false) : ((u.modRostrum .a Rostrum.start).modRostrum .b Rostrum.start).trading = false := by
    simpa using hu
  exact (((hstore.trans (hlanes _ ht1)).trans (hrostra (htrading (by simp) all8 _ ht1))).trans
    (hbays (ht3 _ (htrading (by simp) all8 _ ht1)))).trans hport

/-- A start that the release of the reset line or a recovery finishes (R164, R166). -/
theorem finishStart_changes (ht : s.trading = false) (g : Supply → Supply) (timed : s.supply.Sound → (g s.supply).Timed)
    (present : (g s.supply).absent = false) (absent : s.supply.absent = false) : Changes s (s.modSupply g).finishStart := by
  rw [finishStart_modSupply]
  refine (startBlocks_changes ht).then_ (.supply _ (fun h => ?_) ?_ fun _ => .inl ?_)
  · rw [startBlocks_supply] at h ⊢
    exact (timed h).started present _ _
  · simp [present, absent]
  · rwa [trading, startBlocks_supply]

/-! ## The rows of the supply monitor (R162, R164, R166) -/

theorem supplyFalls_changes (mv : Nat) : Changes s (s.supplyFalls mv) := by
  simp only [supplyFalls]
  split
  · next h =>
    simp only [Bool.and_eq_true, Bool.not_eq_true', beq_iff_eq] at h
    obtain ⟨⟨⟨habsent, hstate⟩, -⟩, -⟩ := h
    exact lowSupply_changes habsent hstate
  · exact .refl s

theorem toNormal_changes (hs : s.supply.state = .low) : Changes s (s.modSupply Supply.toNormal) := by
  have hlow : s.supply.inHold = false := Supply.inHold_of_state (.inr hs)
  have hnormal : s.supply.toNormal.inHold = false := Supply.inHold_of_state (.inl rfl)
  refine modSupply_changes _ (fun h => ?_) rfl (Supply.trading_congr rfl (hnormal.trans hlow.symm) rfl)
  obtain ⟨-, hrecovery, habsent, hstarting⟩ := h
  exact ⟨by simp [Supply.toNormal], by simpa [Supply.toNormal, hs] using hrecovery, fun h => ⟨rfl, (habsent h).2⟩,
    fun h => ⟨(hstarting h).1, hnormal⟩⟩

theorem supplyRises_changes (mv : Nat) : Changes s (s.supplyRises mv) := by
  simp only [supplyRises]
  split
  · next h =>
    simp only [Bool.and_eq_true, beq_iff_eq] at h
    obtain ⟨⟨⟨-, hstate⟩, -⟩, -⟩ := h
    exact toNormal_changes hstate
  · exact .refl s

theorem persistenceExpiry_changes : Changes s s.persistenceExpiry := by
  simp only [persistenceExpiry]
  split
  · next h =>
    simp only [Bool.and_eq_true, Bool.not_eq_true', beq_iff_eq] at h
    obtain ⟨⟨habsent, hstate⟩, -⟩ := h
    exact enterHold_changes habsent (.inr hstate)
  · exact .refl s

theorem suspendEnd_changes (mv : Nat) : Changes s (s.suspendEnd mv) := by
  simp only [suspendEnd]
  split
  · exact .refl s
  · next h =>
    simp only [Bool.or_eq_true, not_or, Bool.not_eq_true] at h
    obtain ⟨habsent, -⟩ := h
    have hended : Changes s (s.modSupply fun p => { p with suspend := none }) :=
      modSupply_changes _ (fun h => ⟨h.1, h.2.1, fun ha => ⟨(h.2.2.1 ha).1, rfl, (h.2.2.1 ha).2.2⟩, h.2.2.2⟩) rfl rfl
    split
    · next hs =>
      split
      · exact hended.trans (lowSupply_changes (by exact habsent) (by exact hs))
      · exact hended
    · next hs =>
      split
      · exact hended
      · exact hended.trans (toNormal_changes (by exact hs))
    · exact hended
    · exact hended

/-- A monitor that stays in HOLD or RECOVERING. -/
theorem inHold_changes (f : Supply → Supply) (hs : s.supply.state = .hold ∨ s.supply.state = .recovering)
    (hs' : (f s.supply).state = .hold ∨ (f s.supply).state = .recovering)
    (hpersistence : s.supply.persistence = none → (f s.supply).persistence = none)
    (hrecovery : (f s.supply).recovery.isSome ↔ (f s.supply).state = .recovering) (hp : s.supply.absent = false)
    (absent : (f s.supply).absent = s.supply.absent) (starting : (f s.supply).starting = s.supply.starting) :
    Changes s (s.modSupply f) := by
  have hhold : s.supply.inHold = true := Supply.inHold_of_hold hs
  have hhold' : (f s.supply).inHold = true := Supply.inHold_of_hold hs'
  refine modSupply_changes _ (fun h => ?_) absent (Supply.trading_congr absent (hhold'.trans hhold.symm) starting)
  obtain ⟨hlow, -, -, hstarting⟩ := h
  refine ⟨?_, hrecovery, by simp [absent, hp], fun h => ?_⟩
  · have hnone : s.supply.persistence = none := by
      rcases hs with hs | hs <;> simpa [hs] using hlow
    rcases hs' with hs' | hs' <;> simp [hs', hpersistence hnone]
  · rw [starting] at h
    rw [(hstarting h).2] at hhold
    cases hhold

theorem recoveryRises_changes (mv : Nat) : Changes s (s.recoveryRises mv) := by
  simp only [recoveryRises]
  split
  · next h =>
    simp only [Bool.and_eq_true, Bool.not_eq_true', beq_iff_eq] at h
    obtain ⟨⟨habsent, hstate⟩, -⟩ := h
    exact inHold_changes _ (.inl hstate) (.inr rfl) id (by simp) habsent rfl rfl
  · exact .refl s

theorem recoveryFalls_changes (mv : Nat) : Changes s (s.recoveryFalls mv) := by
  simp only [recoveryFalls]
  split
  · next h =>
    simp only [Bool.and_eq_true, Bool.not_eq_true', beq_iff_eq] at h
    obtain ⟨⟨habsent, hstate⟩, -⟩ := h
    exact inHold_changes _ (.inr hstate) (.inl rfl) id (by simp) habsent rfl rfl
  · exact .refl s

theorem recoveryExpiry_changes : Changes s s.recoveryExpiry := by
  simp only [recoveryExpiry]
  split
  · next h =>
    simp only [Bool.and_eq_true, Bool.not_eq_true', beq_iff_eq] at h
    obtain ⟨⟨habsent, hstate⟩, -⟩ := h
    have hhold : s.supply.inHold = true := Supply.inHold_of_hold (.inr hstate)
    have ht : s.trading = false := Supply.trading_eq_false_iff.mpr (.inr (.inl hhold))
    simp only [beginStart]
    split
    · next hline =>
      refine .one (.supply (fun p => { p.restarted with cause := .supplyResume, restartFlag := true, starting := some .supplyResume })
        (fun _ => ?_) rfl fun _ => .inl ht)
      refine ⟨by simp [Supply.restarted], by simp [Supply.restarted], ?_, fun _ => ⟨hline, rfl⟩⟩
      intro h
      exact absurd (habsent.symm.trans h) (by decide)
    · exact finishStart_changes ht (fun p => { p.restarted with cause := .supplyResume, restartFlag := true, starting := some .supplyResume })
        (fun _ => ⟨by simp [Supply.restarted], by simp [Supply.restarted]⟩) habsent habsent
  · exact .refl s

theorem backupFalls_changes : Changes s s.backupFalls := by
  unfold backupFalls
  split
  · exact modSupply_changes _ id rfl rfl
  · exact .refl s

/-- The pin alone (R166). -/
theorem setPin_changes (asserted : Bool) (h : s.supply.Sound → s.supply.starting.isSome = true → asserted = true) :
    Changes s (s.modSupply (·.setPin asserted)) :=
  modSupply_changes _ (fun hs => ⟨hs.1, hs.2.1, hs.2.2.1, fun hstart => ⟨h hs hstart, (hs.2.2.2 hstart).2⟩⟩) rfl rfl

/-- Two changes of the monitor in a row. -/
theorem modSupply_modSupply (s : State) (f g : Supply → Supply) : (s.modSupply f).modSupply g = s.modSupply fun p => g (f p) := rfl

/-- A start under an asserted reset line waits for its release (R166). -/
theorem beginStart_waits (h : s.supply.resetLine = true) (cause : RestartCause) :
    s.beginStart cause = s.modSupply fun p => { p with cause, restartFlag := true, starting := some cause } := by
  simp only [beginStart, h, if_true]

/-- Once nothing is in flight, the assertion of the reset line begins a start that waits for the release (R166). -/
theorem Quiet.asserted {u : State} (h : u.Quiet) (ht : u.trading = true) :
    Change u (u.modSupply fun p => { p.setPin true with cause := .resetLine, restartFlag := true, starting := some .resetLine }) := by
  obtain ⟨hpresent, hhold, -⟩ := Supply.trading_eq_true_iff.mp ht
  refine .supply _ (fun hsound => ?_) rfl fun _ => .inr h
  obtain ⟨hpersistence, hrecovery, -, -⟩ := hsound
  exact ⟨hpersistence, hrecovery, fun h => absurd (hpresent.symm.trans h) (by decide), fun _ => ⟨rfl, hhold⟩⟩

theorem resetAsserted_changes : Changes s s.resetAsserted := by
  unfold resetAsserted
  split
  · next ht =>
    have ht' : s.endInFlight.trading = true := by rw [trading, endInFlight_supply]; exact ht
    rw [beginStart_waits rfl, modSupply_modSupply]
    exact s.endInFlight_changes.then_ (s.endInFlight_quiet.asserted ht')
  · exact setPin_changes true fun _ _ => rfl

theorem resetReleased_changes : Changes s s.resetReleased := by
  simp only [resetReleased]
  split
  · next h =>
    simp only [Bool.and_eq_true, Bool.not_eq_true'] at h
    obtain ⟨⟨hstarting, hpresent⟩, -⟩ := h
    exact finishStart_changes (Supply.trading_eq_false_iff.mpr (.inr (.inr hstarting))) (·.setPin false) (·.timed) hpresent hpresent
  · next h =>
    refine setPin_changes false fun hs hstart => absurd ?_ h
    have hpresent : s.supply.absent = false := by
      cases ha : s.supply.absent with
      | false => rfl
      | true => rw [(hs.2.2.1 ha).2.2] at hstart; cases hstart
    simp [hstart, hpresent, (hs.2.2.2 hstart).2]

end State

theorem supplySet_changes (level filter : Nat) {s : State} (ht : s.trading = true) : Changes s (supplySet level filter s).1 := by
  unfold supplySet
  split
  · exact .refl s
  · split
    · exact .refl s
    · exact accept_changes
        (State.modSupply_changes _ (fun h => h.setCodes (Supply.trading_eq_true_iff.mp ht).1 _ _) (by simp) (by simp)) _

/-! ## The port (R169 to R178) -/

theorem endFrame_changes (s : State) (setting : Bool) (a : Answer) : Changes s (s.endFrame setting a) :=
  .one (.port (fun p => { p with answer := a, frameCrc := setting }) id)

theorem takeStatus_changes (s : State) : Changes s s.takeStatus := by
  have hport : Changes s (s.modPort fun p => { p with errorCount := 0, linkFault := false }) :=
    .one (.port _ fun ⟨_, hleast, hmost, _⟩ => ⟨by simp, hleast, hmost, fun h => by dsimp only at h; omega⟩)
  have hsupply := State.modSupply_changes (s := s.modPort fun p => { p with errorCount := 0, linkFault := false })
    (fun p => { p with cause := .none, restartFlag := false }) id rfl rfl
  exact (hport.trans hsupply).trans (endFrame_changes ..)

theorem portSet_changes (setting limit : Nat) (s : State) : Changes s (portSet setting limit s).1 := by
  unfold portSet
  split
  · exact .refl s
  · next hargs =>
    refine accept_changes (.one (.port _ fun ⟨hcount, _, _, _⟩ => ⟨hcount, ?_, ?_, fun h => ?_⟩)) _
    · dsimp only; omega
    · dsimp only; omega
    · simp [show limit ≤ s.port.errorCount from h]

theorem crcErrArrives_changes (code : Byte) (s : State) : Changes s (s.crcErrArrives code) := by
  simp only [State.crcErrArrives]
  split
  · refine Changes.trans (.one (.port _ fun ⟨hcount, hleast, hmost, _⟩ => ⟨?_, hleast, hmost, fun h => ?_⟩)) (endFrame_changes ..)
    · simp [Port.crcError, countUp]
    · simp [Port.crcError, show s.port.errorLimit ≤ countUp 15 s.port.errorCount from h]
  · exact .refl s

theorem malformed_changes (s : State) (line : StationLine) : Changes s (s.malformed line) := by
  cases line with
  | lane i => exact State.badSample_changes
  | rostrum r => exact State.reject_changes s r
  | gate g => exact .one (.gate g _)

theorem unknownRequest_changes (code : Byte) (s : State) : Changes s (unknownRequest code s).1 := by
  refine .of_eq ?_
  unfold unknownRequest
  split <;> rfl

/-! ## Every command but three -/

theorem owner_changes {c : Instr} {code : Byte} {owner : State → State × Reply} (hm : meaning c = .request code owner)
    (hc : c ≠ .recordsClear) {s : State} (ht : s.trading = true) : Changes s (owner s).1 := by
  cases c <;> cases hm
  case recordsClear => exact absurd rfl hc
  case portSet => exact portSet_changes ..
  case unknownRequest => exact unknownRequest_changes ..
  case laneSet => exact laneSet_changes ..
  case laneZero => exact laneZero_changes ..
  case laneRead => exact laneRead_changes ..
  case openLot => exact openLot_changes ..
  case takeWeighing => exact takeWeighing_changes _ _ _ _ ht
  case closeLot => exact onLot_changes _ _ fun _ h => closeLotOn_changes h
  case cancelLot => exact onLot_changes _ _ fun _ h => cancelLotOn_changes h
  case queueLot => exact queueLot_changes _ _ _ _ _ ht
  case unqueueLot => exact onLot_changes _ _ fun _ h => unqueueLotOn_changes h
  case returnLot => exact onLot_changes _ _ fun _ h => returnLotOn_changes h
  case retireLot => exact onLot_changes _ _ fun _ h => retireLotOn_changes h
  case lotRead => exact lotRead_changes ..
  case dayClose => exact dayClose_changes s
  case rostrumStart => exact onRostrum_changes _ fun r => rostrumStart_changes r ht
  case rostrumHold => exact onRostrum_changes _ fun r => rostrumHold_changes r s
  case rostrumResume => exact onRostrum_changes _ fun r => rostrumResume_changes r s
  case rostrumStop => exact onRostrum_changes _ fun r => rostrumStop_changes r s
  case rostrumRead => exact rostrumRead_changes ..
  case deskAssign => exact deskAssign_changes ..
  case deskRelease => exact deskRelease_changes ..
  case addAccount => exact addAccount_changes ..
  case accountSet => exact accountSet_changes ..
  case accountRead => exact accountRead_changes ..
  case accountNext => exact accountNext_changes ..
  case closeAccount => exact onAccount_changes _ fun _ h => closeAccountOn_changes h
  case paymentIn => exact paymentIn_changes ..
  case paymentOut => exact paymentOut_changes ..
  case hallTotals => exact hallTotals_changes ..
  case crateIssue => exact crateIssue_changes ..
  case returnOpen => exact returnOpen_changes ..
  case returnClose => exact returnClose_changes ..
  case crateTransfer => exact crateTransfer_changes ..
  case fleetAdjust => exact fleetAdjust_changes ..
  case yardRead => exact yardRead_changes ..
  case iceOrder => exact iceOrder_changes _ _ _ ht
  case iceAbort => exact iceAbort_changes ..
  case iceStockAdd => exact iceStockAdd_changes ..
  case bayRead => exact bayRead_changes ..
  case storeRead => exact storeRead_changes ..
  case storeWrite => exact storeWrite_changes ..
  case loadProtection => exact loadProtection_changes s
  case metrologyLock => exact metrologyLock_changes ..
  case supplySet => exact supplySet_changes _ _ ht

theorem arrival_changes {c : Instr} {f : State → State} (hm : meaning c = .event f) {s : State} (ht : s.trading = true) :
    Changes s (f s) := by
  cases c <;> simp only [meaning, Meaning.event.injEq, reduceCtorEq] at hm <;> subst hm
  case status => exact takeStatus_changes s
  case shortFrame => exact endFrame_changes ..
  case crcErr => exact crcErrArrives_changes _ s
  case sampleFrame =>
    dsimp only
    split
    · exact State.goodSample_changes ..
    · exact State.badSample_changes
  case silenceTimerExpiry => exact State.silenceExpiry_changes
  case stabilityTimerExpiry => exact State.stabilityExpiry_changes
  case ticketLineSent => exact .one (.lane _ _ (fun h => h.ticketSent) (.inl rfl) fun h => h.imp id .inl)
  case malformedLineFrame => exact malformed_changes ..
  case pressFrame => exact State.pressArrival_changes ..
  case stepTimerExpiry => exact State.stepExpiry_changes
  case showTimerExpiry => exact State.showExpiry_changes ht
  case rostrumFrameSent => exact State.modRostrum_changes _ (fun h => h.frameSent) (by simp) (by simp) (by simp)
  case gateFrame => exact gateArrival_changes ..
  case bayPulse => exact State.pulse_changes _
  case pulseTimerExpiry => exact State.jam_changes _
  case runOnTimerExpiry => exact State.runOnExpiry_changes _
  case programmingCompletion => exact State.programmed_changes ht

theorem supplyRow_changes {c : Instr} {f : State → State} (hm : meaning c = .supply f) (hlost : c ≠ .supplyAbsent)
    (hon : c ≠ .powerOn) (s : State) : Changes s (f s) := by
  cases c <;> cases hm
  case supplyAbsent => exact absurd rfl hlost
  case powerOn => exact absurd rfl hon
  case supplyFall => exact State.supplyFalls_changes _
  case supplyRise => exact State.supplyRises_changes _
  case persistenceTimerExpiry => exact State.persistenceExpiry_changes
  case detectionSuspendEnd => exact State.suspendEnd_changes _
  case recoveryRise => exact State.recoveryRises_changes _
  case recoveryFall => exact State.recoveryFalls_changes _
  case recoveryTimerExpiry => exact State.recoveryExpiry_changes
  case backupLow => exact State.backupFalls_changes
  case resetLineAssert => exact State.resetAsserted_changes
  case resetLineRelease => exact State.resetReleased_changes

/-- Every command but three acts by a run of elementary changes. -/
theorem exec_changes {c : Instr} {s t : State} (hclear : c ≠ .recordsClear) (hlost : c ≠ .supplyAbsent) (hon : c ≠ .powerOn)
    (h : exec c s = .next t) : Changes s t := by
  rw [eq_run_of_exec h]
  cases hm : meaning c with
  | request code owner => exact request_changes fun ht => owner_changes hm hclear ht
  | event f => exact event_changes fun ht => arrival_changes hm ht
  | supply f => exact supplyRow_changes hm hlost hon s

/-! ## The power-on (R165) -/

/-- The supply monitor at a power-on, once the records are cleared or reconciled: a start has begun (R165, R167). -/
def Supply.powered (p : Supply) (t : Timing) (cause : RestartCause) : Supply :=
  { p.restarted with
    latch := false, absent := false, levelCode := t.level, filterCode := t.filter, cause, restartFlag := true
    starting := some cause }

/-- The part at a power-on with its retained records `u`. -/
def State.powered (u : State) (cause : RestartCause) : State := u.modSupply (·.powered u.store.timing cause)

/-- A start of a part that does not trade is a run of elementary changes. -/
theorem State.powered_finishStart_changes (u : State) (cause : RestartCause) :
    Changes (u.powered cause) (u.powered cause).finishStart :=
  finishStart_changes (s := u.powered cause) (Supply.trading_eq_false_iff.mpr (.inr (.inr rfl))) id
    (fun _ => ⟨by simp [powered, Supply.powered, Supply.restarted], by simp [powered, Supply.powered, Supply.restarted]⟩) rfl rfl

@[simp] theorem State.coldClear_supply (s : State) : s.coldClear.supply = s.supply := rfl

@[simp] theorem State.warmReconcile_supply (s : State) : s.warmReconcile.supply = s.supply := by
  have hlots : s.reconcileLots.supply = s.supply :=
    (foldl_keeps (g := (·.supply)) (by simp) s.lotTable.lots _).trans (foldl_keeps (g := (·.supply)) (by simp) s.lotTable.lots s)
  simp [warmReconcile, hlots]

theorem State.powersOn_eq {s : State} (h : s.supply.absent = true) :
    s.powersOn =
      let w := if s.supply.latch then s.coldClear.powered .powerOnCold else s.warmReconcile.powered .powerOnWarm
      if s.supply.resetLine then w else w.finishStart := by
  simp only [powersOn, h, if_true, beginStart, powered]
  cases s.supply.latch <;> simp [modSupply_modSupply, Supply.restarted, Supply.powered]

/-- A property that the elementary changes, RECORDS CLEAR and the loss of the main supply keep is kept by every command but a
power-on. -/
theorem exec_keeps_of_ne_powerOn {P : State → Prop} (hchange : ∀ s t, Change s t → P s → P t)
    (hclear : ∀ s : State, s.trading = true → s.inFlight = false → P s → P s.clearRecords)
    (hlost : ∀ s : State, s.supply.absent = false → P s → P s.loseVolatile) {c : Instr} (hc : c ≠ .powerOn) {s t : State}
    (h : exec c s = .next t) (hs : P s) : P t := by
  by_cases hr : c = .recordsClear
  · subst hr
    rw [eq_run_of_exec h]
    show P (request 0x79 recordsClear s)
    cases ht : s.trading with
    | false => rwa [request_idle ht]
    | true =>
      rw [request_trading ht]
      refine hchange _ _ (.port (fun p => { p with answer := _, frameCrc := _ }) id) ?_
      unfold recordsClear
      split
      · exact hs
      · next hfree => exact hclear s ht (by simpa using hfree) hs
  · by_cases hl : c = .supplyAbsent
    · subst hl
      rw [eq_run_of_exec h]
      show P s.supplyLost
      unfold State.supplyLost
      split
      · exact hs
      · next ha => exact hlost s (by simpa using ha) hs
    · exact (exec_changes hr hl hc h).keeps hchange hs

/-- A property that the elementary changes, RECORDS CLEAR, the loss of the main supply and a power-on keep is kept by every
command. -/
theorem exec_keeps {P : State → Prop} (hchange : ∀ s t, Change s t → P s → P t)
    (hclear : ∀ s : State, s.trading = true → s.inFlight = false → P s → P s.clearRecords)
    (hlost : ∀ s : State, s.supply.absent = false → P s → P s.loseVolatile)
    (hcold : ∀ s : State, s.supply.absent = true → P s → P (s.coldClear.powered .powerOnCold))
    (hwarm : ∀ s : State, s.supply.absent = true → P s → P (s.warmReconcile.powered .powerOnWarm))
    {c : Instr} {s t : State} (h : exec c s = .next t) (hs : P s) : P t := by
  by_cases hc : c = .powerOn
  · subst hc
    rw [eq_run_of_exec h]
    show P s.powersOn
    cases ha : s.supply.absent with
    | false => simpa [State.powersOn, ha] using hs
    | true =>
      have hpowered (u : State) (cause : RestartCause) (hu : P (u.powered cause)) : P (u.powered cause).finishStart :=
        (u.powered_finishStart_changes cause).keeps hchange hu
      rw [State.powersOn_eq ha]
      dsimp only
      cases s.supply.latch <;> cases s.supply.resetLine
      · exact hpowered _ _ (hwarm s ha hs)
      · exact hwarm s ha hs
      · exact hpowered _ _ (hcold s ha hs)
      · exact hcold s ha hs
  · exact exec_keeps_of_ne_powerOn hchange hclear hlost hc h hs

/-- A property that time and every command keep is kept by every step. -/
theorem step_keeps {P : State → Prop} (hqueue : ∀ (s : State) (q : List Instr), P s → P { s with pending := q })
    (htick : ∀ s : State, P s → P s.tick) (hexec : ∀ (c : Instr) (s t : State), exec c s = .next t → P s → P t) {s t : State}
    (h : step s = .next t) (hs : P s) : P t := by
  unfold step at h
  split at h
  · exact Host.Outcome.next.inj h ▸ htick s hs
  · exact hexec _ _ _ h (hqueue s _ hs)

end Sys2Proof.Machine
end

section
/-! PROOF. What each elementary change leaves as it was, and the invariants that are kept block by block: the queue of commands, the lanes, the rostra,
the store, the supply monitor and the port. -/

namespace Sys2Proof.Machine

namespace State

@[simp] theorem openedLot_frame (s : State) (boat species : Nat) (t : Fin 8) :
    (s.openedLot boat species t).lanes = s.lanes ∧ (s.openedLot boat species t).rostrumA = s.rostrumA ∧
      (s.openedLot boat species t).rostrumB = s.rostrumB ∧ (s.openedLot boat species t).crates = s.crates ∧
      (s.openedLot boat species t).ice = s.ice ∧ (s.openedLot boat species t).store = s.store ∧
      (s.openedLot boat species t).supply = s.supply ∧ (s.openedLot boat species t).port = s.port ∧
      (s.openedLot boat species t).freeCount = s.freeCount ∧ (s.openedLot boat species t).pending = s.pending :=
  ⟨rfl, rfl, rfl, rfl, rfl, rfl, rfl, rfl, rfl, rfl⟩

@[simp] theorem enqueue_frame (s : State) (r : RostrumId) (atHead : Bool) (override : Nat) (lot : Lot) :
    (s.enqueue r atHead override lot).lanes = s.lanes ∧ (s.enqueue r atHead override lot).accountTable = s.accountTable ∧
      (s.enqueue r atHead override lot).crates = s.crates ∧ (s.enqueue r atHead override lot).ice = s.ice ∧
      (s.enqueue r atHead override lot).store = s.store ∧ (s.enqueue r atHead override lot).supply = s.supply ∧
      (s.enqueue r atHead override lot).port = s.port ∧ (s.enqueue r atHead override lot).freeCount = s.freeCount ∧
      (s.enqueue r atHead override lot).pending = s.pending := by simp [enqueue]

@[simp] theorem closeLot_frame (s : State) (lot : Lot) :
    (s.closeLot lot).lanes = s.lanes ∧ (s.closeLot lot).rostrumA = s.rostrumA ∧ (s.closeLot lot).rostrumB = s.rostrumB ∧
      (s.closeLot lot).accountTable = s.accountTable ∧ (s.closeLot lot).crates = s.crates ∧ (s.closeLot lot).ice = s.ice ∧
      (s.closeLot lot).store = s.store ∧ (s.closeLot lot).supply = s.supply ∧ (s.closeLot lot).port = s.port ∧
      (s.closeLot lot).freeCount = s.freeCount ∧ (s.closeLot lot).pending = s.pending := by simp [closeLot]

end State

/-- No change touches the queue of commands or the free values. -/
theorem Change.queue {s t : State} (h : Change s t) : t.pending = s.pending ∧ t.freeCount = s.freeCount := by cases h <;> simp

/-! ## Lanes -/

namespace State

theorem lane_handIn (s : State) (lot : Lot) (i j : Fin 8) (c : Nat) :
    (s.handIn lot i c).lane j =
      if j = i then { s.lane i with weighing := some { key := lot.key, crates := c, timer := s.store.timing.stability } }
      else s.lane j := by
  simp only [handIn, lane_modLane, lane_modLot_frame, commit, lane_modAccount_frame]

theorem lanes_sound_congr {s t : State} (hs : ∀ i, (s.lane i).Sound) (h : t.lanes = s.lanes) (i : Fin 8) : (t.lane i).Sound :=
  (lane_congr h i).symm ▸ hs i

theorem endWeighing_lanes_sound {s : State} (h : ∀ j, (s.lane j).Sound) (i : Fin 8) (result : WeighResult) (gross : Option Int)
    (number : Option Nat) (ticket : Option TicketStatus) (j : Fin 8) :
    ((s.endWeighing i result gross number ticket).lane j).Sound := by
  by_cases hj : j = i
  · subst hj
    exact endWeighing_lane_sound (h j) ..
  · rw [lane_endWeighing_ne hj]
    exact h j

end State

theorem Change.lanes_sound {s t : State} (h : Change s t) (hs : ∀ i, (s.lane i).Sound) : ∀ i, (t.lane i).Sound := by
  cases h
  case lane i f sound _ _ =>
    intro j
    rw [State.lane_modLane]
    split
    · exact sound (hs i)
    · exact hs j
  case weighingEnded i result gross _ => exact State.endWeighing_lanes_sound hs i result gross none none
  case weighingTaken i p legal number ticket _ _ _ _ =>
    exact State.endWeighing_lanes_sound (s := s.modLot p.key _) hs i .taken (some legal) (some number) (some ticket)
  case handedIn lot i c _ _ _ _ hactive _ _ _ _ _ _ =>
    intro j
    rw [State.lane_handIn]
    split
    · exact (hs i).weighingBegun hactive _
    · exact hs j
  all_goals exact State.lanes_sound_congr hs (by simp)

/-! ## Rostra -/

/-- The lot that a win leaves for the head of the queue. -/
def Candidate.left (c : Candidate) (r : RostrumId) : Option Key := if c.isPart then some (c.remainder r).key else none

namespace State

@[simp] theorem rostrum_modDeskCount (s : State) (n : Nat) (f : Nat → Nat) (q : RostrumId) :
    (s.modDeskCount n f).rostrum q = s.rostrum q := rostrum_congr (by simp) (by simp) q

theorem rostrum_headInsert (s : State) (r : RostrumId) (key : Key) :
    (s.headInsert r key).rostrum r = (s.rostrum r).takes (some key) := by
  simp only [headInsert, Rostrum.takes, Config.maxQueue]
  split
  · rw [modRostrum_rostrum]
  · next hfull =>
    cases hq : (s.rostrum r).queue.getLast? with
    | none =>
      rw [List.getLast?_eq_none_iff] at hq
      simp [hq] at hfull
    | some tail => simp [modRostrum_rostrum, countUp]

theorem rostrum_formClock (s : State) (r q : RostrumId) :
    (s.formClock r).rostrum q = if q = r then (s.rostrum r).showClock (s.clockFrame r) else s.rostrum q := by
  unfold formClock
  split
  · next h => rw [h, modRostrum_rostrum]
  · next h => rw [modRostrum_rostrum_ne _ _ h]

/-- An offer on the head of a queue (R51). -/
def offerHead (s : State) (x : Rostrum) (key : Key) (rest : List Key) : Rostrum :=
  { x with
    state := .running, queue := rest, offer := some { key, price := ((s.lot? key).map Lot.start).getD 0, j := 0 }
    stepTimer := some ((((s.lot? key).bind (·.snapshot)).map (·.interval)).getD 0), showTimer := none }

theorem startOffer_nil {s : State} {r : RostrumId} (h : (s.rostrum r).queue = []) : s.startOffer r = s := by
  simp only [startOffer, h]

theorem startOffer_cons {s : State} {r : RostrumId} {key : Key} {rest : List Key} (h : (s.rostrum r).queue = key :: rest) :
    s.startOffer r =
      ((s.modLot key fun l => { l with state := .onClock }).modRostrum r fun x => s.offerHead x key rest).formClock r := by
  simp only [startOffer, h]
  rfl

/-- The rostrum's record after an offer has started. -/
theorem rostrum_startOffer {s : State} {r : RostrumId} {key : Key} {rest : List Key} (h : (s.rostrum r).queue = key :: rest) :
    ∃ f, (s.startOffer r).rostrum r = (s.offerHead (s.rostrum r) key rest).showClock f := by
  rw [startOffer_cons h, rostrum_formClock, if_pos rfl, modRostrum_rostrum, rostrum_modLot_frame]
  exact ⟨_, rfl⟩

theorem rostrum_startOffer_ne (s : State) {r q : RostrumId} (h : q ≠ r) : (s.startOffer r).rostrum q = s.rostrum q := by
  cases hq : (s.rostrum r).queue with
  | nil => rw [startOffer_nil hq]
  | cons key rest => rw [startOffer_cons hq, rostrum_formClock, if_neg h, modRostrum_rostrum_ne _ _ h, rostrum_modLot_frame]

/-- A rostrum after a winning press: its remainder taken, the answer queued, the lot end noted, SHOWING entered (R67). -/
def wonRostrum (s : State) (x : Rostrum) (r : RostrumId) (c : Candidate) : Rostrum :=
  { ((x.takes (c.left r)).answer { desk := c.desk, answer := .taken, crates := c.k }).lotEnd
      { code := if c.isPart then .partSold else .sold, key := c.lot.key, price := c.price
        winner := some { buyer := c.account.number, crates := c.k, desk := c.desk } } with
    state := .showing, offer := none, stepTimer := none, showTimer := some s.store.timing.showTime }

theorem rostrum_postSale (s : State) (c : Candidate) (v : Valuation) (q : RostrumId) : (s.postSale c v).rostrum q = s.rostrum q :=
  rostrum_congr (by simp) (by simp) q

theorem rostrum_remainder (s : State) (r q : RostrumId) (c : Candidate) (v : Valuation) :
    (if c.isPart then (s.postSale c v).addRemainder r c else s.postSale c v).rostrum q =
      if q = r then (s.rostrum r).takes (c.left r) else s.rostrum q := by
  have hlive : ((s.postSale c v).addLot (c.remainder r) |>.modLiveLots c.lot.boat (· + 1)).rostrum q = s.rostrum q := by
    rw [modLiveLots, rostrum_modAccount_frame, rostrum_addLot_frame, rostrum_postSale]
  cases hp : c.isPart with
  | true =>
    simp only [Candidate.left, hp, if_true, addRemainder]
    split
    · next h => subst h; rw [rostrum_headInsert, hlive]
    · next h => rw [rostrum_headInsert_ne _ h, hlive]
  | false =>
    simp only [Candidate.left, hp]
    rw [if_neg (by decide), rostrum_postSale]
    split
    · next h => rw [h]; rfl
    · rfl

theorem rostrum_win (s : State) (r : RostrumId) (c : Candidate) (v : Valuation) :
    ∃ f, (s.win r c v).rostrum r = (s.wonRostrum (s.rostrum r) r c).showClock f := by
  have hstore : (if c.isPart then (s.postSale c v).addRemainder r c else s.postSale c v).store = s.store := by
    split <;> simp
  have hstore' (u : State) (f : Rostrum → Rostrum) : (u.modRostrum r f).store = u.store := by simp
  simp only [win, enterShowing]
  rw [rostrum_formClock, if_pos rfl, modRostrum_rostrum, modRostrum_rostrum, rostrum_remainder, if_pos rfl]
  rw [wonRostrum, hstore', hstore]
  exact ⟨_, rfl⟩

theorem rostrum_win_ne (s : State) {r q : RostrumId} (h : q ≠ r) (c : Candidate) (v : Valuation) :
    (s.win r c v).rostrum q = s.rostrum q := by
  simp only [win, enterShowing]
  rw [rostrum_formClock, if_neg h, modRostrum_rostrum_ne _ _ h, modRostrum_rostrum_ne _ _ h, rostrum_remainder, if_neg h]

end State

theorem Rostrum.Sound.offerHead {x : Rostrum} (h : x.Sound) (s : State) {key : Key} {rest : List Key} (hq : x.queue = key :: rest) :
    (s.offerHead x key rest).Sound := by
  have hlength : x.queue.length ≤ 128 := h.bounded.1
  exact h.offered (by rw [hq, List.length_cons] at hlength; omega) _ _

theorem Rostrum.Sound.won {x : Rostrum} (h : x.Sound) (s : State) (r : RostrumId) (c : Candidate) : (s.wonRostrum x r c).Sound :=
  Rostrum.Sound.shown (Rostrum.Sound.lotEnd ((h.takes _).answer _) _) _

theorem Change.rostra_sound {s t : State} (h : Change s t) (hs : ∀ r, (s.rostrum r).Sound) : ∀ r, (t.rostrum r).Sound := by
  intro q
  have hmod (r : RostrumId) (u : State) (f : Rostrum → Rostrum) (hu : ∀ q, (u.rostrum q).Sound)
      (hf : (f (u.rostrum r)).Sound) : ((u.modRostrum r f).rostrum q).Sound := by
    by_cases hq : q = r
    · rwa [hq, State.modRostrum_rostrum]
    · rw [State.modRostrum_rostrum_ne _ _ hq]
      exact hu q
  cases h
  case rostrum r f sound _ _ _ => exact hmod r s f hs (sound (hs r))
  case queued r atHead override lot _ _ hroom =>
    refine hmod r (s.modLot _ _) _ (by simpa using hs) ?_
    rw [State.rostrum_modLot_frame]
    refine (hs r).requeued ?_
    split <;> simp <;> omega
  case unqueued lot _ _ =>
    rw [State.rostrum_modLot_frame]
    unfold State.unqueue
    split
    · exact hs q
    · next r _ => exact hmod r s _ hs ((hs r).requeued ((List.length_filter_le _ _).trans (hs r).bounded.1))
  case offerStarted r _ _ =>
    by_cases hq : q = r
    · subst hq
      cases hqueue : (s.rostrum q).queue with
      | nil =>
        rw [State.startOffer_nil hqueue]
        exact hs q
      | cons key rest =>
        obtain ⟨f, hf⟩ := State.rostrum_startOffer hqueue
        rw [hf]
        exact ((hs q).offerHead s hqueue).showClock f
    · rw [State.rostrum_startOffer_ne _ hq]
      exact hs q
  case putBack r f sound _ _ _ =>
    by_cases hq : q = r
    · rw [hq, State.modRostrum_rostrum, State.rostrum_putBack]
      exact sound _ ((hs r).takes _)
    · rw [State.modRostrum_rostrum_ne _ _ hq, State.rostrum_putBack_ne _ hq]
      exact hs q
  case unsold r o f _ sound _ _ _ =>
    refine hmod r (s.modLot _ _) f (by simpa using hs) (sound _ ?_)
    rw [State.rostrum_modLot_frame]
    exact hs r
  case won r d quantity c v _ =>
    by_cases hq : q = r
    · subst hq
      obtain ⟨f, hf⟩ := State.rostrum_win s q c v
      rw [hf]
      exact ((hs q).won s q c).showClock f
    · rw [State.rostrum_win_ne _ hq]
      exact hs q
  case deskAssigned r d buyer _ _ _ _ =>
    rw [State.rostrum_modDeskCount]
    exact hmod r s _ hs (hs r)
  case deskReleased r d buyer _ =>
    rw [State.rostrum_modDeskCount]
    exact hmod r s _ hs (hs r)
  all_goals
    rw [State.rostrum_congr (s := s) (by simp) (by simp)]
    exact hs q

/-! ## Store, supply monitor and port -/

theorem Change.store_sound {s t : State} (h : Change s t) (hs : s.store.Sound) : t.store.Sound := by
  cases h
  case store f sound _ => exact sound hs
  case written w held _ => exact hs.complete held _
  all_goals simpa using hs

theorem Change.supply_sound {s t : State} (h : Change s t) (hs : s.supply.Sound) : t.supply.Sound := by
  cases h
  case supply f sound _ _ => exact sound hs
  all_goals simpa using hs

theorem Change.port_sound {s t : State} (h : Change s t) (hs : s.port.Sound) : t.port.Sound := by
  cases h
  case port f sound => exact sound hs
  all_goals simpa using hs

theorem Change.absent {s t : State} (h : Change s t) : t.supply.absent = s.supply.absent := by
  cases h
  case supply f _ absent _ => exact absent
  all_goals simp

end Sys2Proof.Machine
end

section
/-! PROOF. The blocks after the passing of a millisecond, RECORDS CLEAR, the loss of the main supply, the records at a power-on and
the end of a start; the invariants of the lanes, the rostra, the store, the supply monitor and the port. -/

namespace Sys2Proof.Machine

namespace State

/-! ## One millisecond (log 2) -/

theorem tick_lane (s : State) (i : Fin 8) : s.tick.lane i = (s.lane i).tick := by
  have hbays : ∀ u : State, (all4.foldl (fun s b => s.modBay b Bay.tick) u).lanes = u.lanes :=
    foldl_keeps (g := (·.lanes)) (by simp) all4
  have hlanes : s.tick.lanes = (all8.foldl (fun s i => s.modLane i Lane.tick) s).lanes := by simp [tick, hbays]
  rw [lane_congr hlanes, lane_foldl_modLane s (fun _ => Lane.tick)]

theorem tick_rostrum (s : State) (r : RostrumId) : s.tick.rostrum r = (s.rostrum r).tick := by
  cases r <;> simp [tick, all8, all4, rostrum, modRostrum]

theorem tick_bay (s : State) (b : Fin 4) : s.tick.bay b = (s.bay b).tick := by
  have hlanes : (all8.foldl (fun s i => s.modLane i Lane.tick) s).ice = s.ice := foldl_keeps (g := (·.ice)) (by simp) all8 s
  simp only [tick, bay_modSupply_frame]
  rw [bay_foldl_modBay _ (fun _ => Bay.tick), bay_congr (s := s) (by simp [hlanes])]

@[simp] theorem tick_frame (s : State) :
    s.tick.lotTable = s.lotTable ∧ s.tick.accountTable = s.accountTable ∧ s.tick.crates = s.crates ∧ s.tick.store = s.store ∧
      s.tick.port = s.port ∧ s.tick.freeCount = s.freeCount ∧ s.tick.pending = s.pending ∧ s.tick.supply = s.supply.tick ∧
      s.tick.ice.stock = s.ice.stock ∧ s.tick.ice.reservation = s.ice.reservation := by
  simp [tick, all8, all4]

end State

/-- Settles O2: a step on an empty queue is one millisecond, of which every block's part is known. -/
theorem emptyQueueLetsOneMillisecondPass : Obligations.EmptyQueueLetsOneMillisecondPass := by
  intro s h
  refine ⟨s.tick, by rw [step, h], s.tick_lane, s.tick_rostrum, s.tick_bay, ?_⟩
  simp [h]
  rfl

theorem Supply.Sound.tick {p : Supply} (h : p.Sound) : p.tick.Sound := by
  obtain ⟨hpersistence, hrecovery, habsent, hstarting⟩ := h
  refine ⟨by simpa [Supply.tick, tickTimer] using hpersistence, by simpa [Supply.tick, tickTimer] using hrecovery, fun h => ?_,
    hstarting⟩
  obtain ⟨hstate, hsuspend, hnone⟩ := habsent h
  exact ⟨hstate, by simp [Supply.tick, tickTimer, hsuspend], hnone⟩

namespace State

/-! ## RECORDS CLEAR (R168) -/

theorem clearRecords_lane (s : State) (i : Fin 8) : s.clearRecords.lane i = (s.lane i).clear := by
  have hbays : ∀ u : State, (all4.foldl (fun s b => s.modBay b Bay.clear) u).lanes = u.lanes :=
    foldl_keeps (g := (·.lanes)) (by simp) all4
  have hlanes : s.clearRecords.lanes = (all8.foldl (fun s i => s.modLane i Lane.clear) s).lanes := by simp [clearRecords, hbays]
  rw [lane_congr hlanes, lane_foldl_modLane s (fun _ => Lane.clear)]

theorem clearRecords_rostrum (s : State) (r : RostrumId) : s.clearRecords.rostrum r = (s.rostrum r).clear := by
  cases r <;> simp [clearRecords, all8, all4, rostrum, modRostrum]

theorem clearRecords_bay (s : State) (b : Fin 4) : s.clearRecords.bay b = (s.bay b).clear := by
  have hlanes : (all8.foldl (fun s i => s.modLane i Lane.clear) s).ice = s.ice := foldl_keeps (g := (·.ice)) (by simp) all8 s
  have hbays : s.clearRecords.bay b =
      (all4.foldl (fun s b => s.modBay b Bay.clear)
        (((all8.foldl (fun s i => s.modLane i Lane.clear) s).modRostrum .a Rostrum.clear).modRostrum .b Rostrum.clear)).bay b := rfl
  rw [hbays, bay_foldl_modBay _ (fun _ => Bay.clear), bay_congr (s := s) (by simp [hlanes])]

@[simp] theorem clearRecords_frame (s : State) :
    s.clearRecords.lotTable = LotTable.empty ∧ s.clearRecords.accountTable = AccountTable.empty ∧
      s.clearRecords.crates = CratePool.empty ∧ s.clearRecords.ice.stock = 0 ∧ s.clearRecords.ice.reservation = 0 ∧
      s.clearRecords.store = s.store ∧ s.clearRecords.supply = s.supply ∧ s.clearRecords.port = s.port ∧
      s.clearRecords.freeCount = s.freeCount ∧ s.clearRecords.pending = s.pending := by
  simp [clearRecords, all8, all4]

/-- With nothing in flight every rostrum and bay is IDLE and no weighing is pending (R168). -/
theorem inFlight_eq_false_iff (s : State) :
    s.inFlight = false ↔
      (∀ r, (s.rostrum r).state = .idle) ∧ (∀ b, (s.bay b).state = .idle) ∧ (∀ i, (s.lane i).weighing = none) ∧
        ∀ g, (s.gate g).session = none := by
  have hrostra : (∀ r, (s.rostrum r).state = .idle) ↔ s.rostrumA.state = .idle ∧ s.rostrumB.state = .idle :=
    ⟨fun h => ⟨h .a, h .b⟩, fun h r => by cases r <;> [exact h.1; exact h.2]⟩
  have hgates : ∀ g : Fin 2, g ∈ all2 := by decide
  rw [hrostra]
  simp [inFlight, mem_all8, Ledger.mem_all4, hgates, and_assoc]

/-! ## The loss of the main supply (R165) -/

theorem loseVolatile_lane (s : State) (i : Fin 8) : s.loseVolatile.lane i = (s.lane i).lose := by
  have hbays : ∀ u : State, (all4.foldl (fun s b => s.modBay b fun _ => Bay.fresh) u).lanes = u.lanes :=
    foldl_keeps (g := (·.lanes)) (by simp) all4
  have hlanes : s.loseVolatile.lanes = (all8.foldl (fun s i => s.modLane i Lane.lose) s).lanes := by simp [loseVolatile, hbays]
  rw [lane_congr hlanes, lane_foldl_modLane s (fun _ => Lane.lose)]

theorem loseVolatile_rostrum (s : State) (r : RostrumId) : s.loseVolatile.rostrum r = (s.rostrum r).lose := by
  cases r <;> simp [loseVolatile, all8, all4, rostrum, modRostrum]

theorem loseVolatile_bay (s : State) (b : Fin 4) : s.loseVolatile.bay b = Bay.fresh := by
  simp only [loseVolatile, bay_modSupply_frame, bay_modPort_frame, bay_modStore_frame, bay_setTotals_frame]
  rw [bay_foldl_modBay _ (fun _ _ => Bay.fresh)]

@[simp] theorem loseVolatile_blocks (s : State) :
    s.loseVolatile.accountTable = { s.accountTable with totals := none } ∧ s.loseVolatile.ice.stock = s.ice.stock ∧
      s.loseVolatile.ice.reservation = s.ice.reservation ∧ s.loseVolatile.store = s.store.lose ∧
      s.loseVolatile.supply = s.supply.lose ∧ s.loseVolatile.port = Port.start := by
  simp [loseVolatile, all8, all4]

/-! ## The retained records at a power-on (R165) -/

@[simp] theorem powered_frame (u : State) (cause : RestartCause) :
    (u.powered cause).lanes = u.lanes ∧ (u.powered cause).lotTable = u.lotTable ∧ (u.powered cause).rostrumA = u.rostrumA ∧
      (u.powered cause).rostrumB = u.rostrumB ∧ (u.powered cause).accountTable = u.accountTable ∧
      (u.powered cause).crates = u.crates ∧ (u.powered cause).ice = u.ice ∧ (u.powered cause).store = u.store ∧
      (u.powered cause).port = u.port ∧ (u.powered cause).freeCount = u.freeCount ∧ (u.powered cause).pending = u.pending :=
  ⟨rfl, rfl, rfl, rfl, rfl, rfl, rfl, rfl, rfl, rfl, rfl⟩

@[simp] theorem reconcileLots_frame (s : State) :
    s.reconcileLots.lanes = s.lanes ∧ s.reconcileLots.crates = s.crates ∧ s.reconcileLots.ice = s.ice ∧
      s.reconcileLots.store = s.store ∧ s.reconcileLots.supply = s.supply ∧ s.reconcileLots.port = s.port ∧
      s.reconcileLots.freeCount = s.freeCount ∧ s.reconcileLots.pending = s.pending := by
  have hkeeps {β : Type} (g : State → β) (hdrop : ∀ s l, g (dropPending s l) = g s) (hback : ∀ s l, g (putBackFound s l) = g s) :
      g s.reconcileLots = g s := (foldl_keeps hback s.lotTable.lots _).trans (foldl_keeps hdrop s.lotTable.lots s)
  exact ⟨hkeeps (·.lanes) (by simp) (by simp), hkeeps (·.crates) (by simp) (by simp), hkeeps (·.ice) (by simp) (by simp),
    hkeeps (·.store) (by simp) (by simp), hkeeps (·.supply) (by simp) (by simp), hkeeps (·.port) (by simp) (by simp),
    hkeeps (·.freeCount) (by simp) (by simp), hkeeps (·.pending) (by simp) (by simp)⟩

@[simp] theorem warmReconcile_frame (s : State) :
    s.warmReconcile.lanes = s.lanes ∧ s.warmReconcile.crates = s.crates ∧ s.warmReconcile.store = s.store ∧
      s.warmReconcile.port = s.port ∧ s.warmReconcile.freeCount = s.freeCount ∧ s.warmReconcile.pending = s.pending ∧
      s.warmReconcile.ice = { s.ice with reservation := 0 } := by
  simp [warmReconcile]

@[simp] theorem coldClear_frame (s : State) : s.coldClear.port = s.port ∧ s.coldClear.pending = s.pending := ⟨rfl, rfl⟩

theorem lane_replicate (s : State) {l : Lane} (h : s.lanes = Vector.replicate 8 l) (i : Fin 8) : s.lane i = l := by
  simp [lane, h]

theorem bay_replicate (s : State) {x : Bay} (h : s.ice.bays = Vector.replicate 4 x) (b : Fin 4) : s.bay b = x := by
  simp [bay, h]

@[simp] theorem lane_powered (u : State) (cause : RestartCause) (i : Fin 8) : (u.powered cause).lane i = u.lane i := rfl
@[simp] theorem bay_powered (u : State) (cause : RestartCause) (b : Fin 4) : (u.powered cause).bay b = u.bay b := rfl
@[simp] theorem rostrum_powered (u : State) (cause : RestartCause) (r : RostrumId) : (u.powered cause).rostrum r = u.rostrum r := by
  cases r <;> rfl

theorem coldClear_lane (s : State) (i : Fin 8) : s.coldClear.lane i = Lane.fresh false 2 1 5 := lane_replicate _ rfl i

theorem coldClear_rostrum (s : State) (r : RostrumId) : s.coldClear.rostrum r = Rostrum.fresh [] (Vector.replicate 96 none) := by
  cases r <;> rfl

theorem coldClear_bay (s : State) (b : Fin 4) : s.coldClear.bay b = Bay.fresh := bay_replicate _ rfl b

theorem warmReconcile_lane (s : State) (i : Fin 8) : s.warmReconcile.lane i = s.lane i := lane_congr (by simp) i

theorem warmReconcile_bay (s : State) (b : Fin 4) : s.warmReconcile.bay b = s.bay b := by simp [bay]

theorem rostrum_putBackFound (s : State) (lot : Lot) (r : RostrumId) :
    (s.putBackFound lot).rostrum r =
      if lot.state = .onClock ∧ lot.rostrum = some r then (s.rostrum r).takes (some lot.key) else s.rostrum r := by
  unfold putBackFound
  by_cases hs : lot.state = .onClock
  · rw [if_pos hs]
    cases hr : lot.rostrum with
    | none => simp
    | some q =>
      by_cases hq : r = q
      · subst hq
        simp [hs, rostrum_headInsert]
      · rw [rostrum_headInsert_ne _ hq, rostrum_modLot_frame, if_neg (by simpa [hs] using fun h => hq h.symm)]
  · rw [if_neg hs, if_neg (fun h => hs h.1)]

theorem warmReconcile_rostra_sound {s : State} (hs : ∀ r, (s.rostrum r).Sound) (r : RostrumId) : (s.warmReconcile.rostrum r).Sound := by
  have hdrop : (s.lotTable.lots.foldl dropPending s).rostrum r = s.rostrum r :=
    foldl_keeps (g := (·.rostrum r)) (fun s l => rostrum_congr (by simp) (by simp) r) _ _
  have hback : ∀ (ls : List Lot) (u : State), (u.rostrum r).Sound → ((ls.foldl putBackFound u).rostrum r).Sound := by
    intro ls
    induction ls with
    | nil => exact fun u hu => hu
    | cons l ls ih =>
      intro u hu
      refine ih _ ?_
      rw [rostrum_putBackFound]
      split
      · exact hu.takes _
      · exact hu
  rw [rostrum_congr (s := s.reconcileLots) (by simp [warmReconcile]) (by simp [warmReconcile])]
  exact hback _ _ (hdrop ▸ hs r)

end State

/-! ## Lanes and rostra -/

/-- Settles O3: no elementary change touches the queue, nor do RECORDS CLEAR, the loss of the main supply and a power-on. -/
theorem everyCommandCompletesAndKeepsTheQueue : Obligations.EveryCommandCompletesAndKeepsTheQueue := by
  intro c s
  refine ⟨_, exec_eq_run c s, ?_⟩
  exact exec_keeps (P := fun u => u.pending = s.pending) (fun _ _ h hs => h.queue.1.trans hs) (fun _ _ _ h => by simpa using h)
    (fun _ _ h => by simpa using h) (fun _ _ h => by simpa using h) (fun _ _ h => by simpa using h) (exec_eq_run c s) rfl

theorem exec_lanes_sound {c : Instr} {s t : State} (h : exec c s = .next t) (hs : ∀ i, (s.lane i).Sound) : ∀ i, (t.lane i).Sound := by
  refine exec_keeps (P := fun u => ∀ i, (u.lane i).Sound) (fun _ _ h => h.lanes_sound) (fun s _ hfree hs i => ?_) (fun s _ hs i => ?_)
    (fun s _ _ i => ?_) (fun s _ hs i => ?_) h hs
  · obtain ⟨-, -, hweighing, -⟩ := s.inFlight_eq_false_iff.mp hfree
    rw [State.clearRecords_lane]
    exact (hs i).clear (hweighing i)
  · rw [State.loseVolatile_lane]
    exact (hs i).lose
  · rw [State.lane_powered, State.coldClear_lane]
    exact Lane.sound_fresh _ (by omega) (by omega) (by omega) (by omega)
  · rw [State.lane_powered, State.warmReconcile_lane]
    exact hs i

theorem exec_rostra_sound {c : Instr} {s t : State} (h : exec c s = .next t) (hs : ∀ r, (s.rostrum r).Sound) :
    ∀ r, (t.rostrum r).Sound := by
  refine exec_keeps (P := fun u => ∀ r, (u.rostrum r).Sound) (fun _ _ h => h.rostra_sound) (fun s _ _ hs r => ?_) (fun s _ hs r => ?_)
    (fun s _ _ r => ?_) (fun s _ hs r => ?_) h hs
  · rw [State.clearRecords_rostrum]
    exact (hs r).clear
  · rw [State.loseVolatile_rostrum]
    exact (hs r).lose
  · rw [State.rostrum_powered, State.coldClear_rostrum]
    exact Rostrum.sound_fresh (by simp) _
  · rw [State.rostrum_powered]
    exact State.warmReconcile_rostra_sound hs r

/-- Settles O14: every elementary change keeps the lanes sound, and the rostra. -/
theorem stepKeepsTheLanesAndTheRostraSound : Obligations.StepKeepsTheLanesAndTheRostraSound := by
  intro s t h
  constructor
  · exact step_keeps (P := fun u => ∀ i, (u.lane i).Sound) (fun _ _ hs => hs) (fun s hs i => s.tick_lane i ▸ (hs i).tick)
      (fun _ _ _ h => exec_lanes_sound h) h
  · exact step_keeps (P := fun u => ∀ r, (u.rostrum r).Sound) (fun _ _ hs r => by cases r <;> [exact hs .a; exact hs .b])
      (fun s hs r => s.tick_rostrum r ▸ (hs r).tick) (fun _ _ _ h => exec_rostra_sound h) h

end Sys2Proof.Machine
end

section
/-! PROOF. The store, the supply monitor and the port stay sound, and the part without main supply stays dark; the state after the first power-up. -/

namespace Sys2Proof.Machine

/-! ## The store -/

theorem Store.Sound.lose {st : Store} (h : st.Sound) : st.lose.Sound := h.suspend

theorem StoreRecord.sound_torn (occurrence : Nat) (id : RecordId) : (tornRecord occurrence id).Sound id := fun h => by cases h

theorem Store.Sound.loseBuffer {st : Store} (h : st.Sound) (occurrence : Nat) : (st.loseBuffer occurrence).Sound := by
  unfold Store.loseBuffer
  split
  · exact h
  · refine ⟨fun id => ?_, fun b hb => by cases hb⟩
    rw [StoreCells.get_set]
    split
    · next hid => exact hid ▸ StoreRecord.sound_torn _ _
    · exact h.1 id

theorem exec_store_sound {c : Instr} {s t : State} (h : exec c s = .next t) (hs : s.store.Sound) : t.store.Sound := by
  refine exec_keeps (P := fun u => u.store.Sound) (fun _ _ h => h.store_sound) (fun s _ _ hs => ?_) (fun s _ hs => ?_)
    (fun s _ hs => ?_) (fun s _ hs => ?_) h hs
  · simpa using hs
  · simpa using hs.lose
  · exact hs.loseBuffer _
  · simpa using hs

/-! ## The supply monitor -/

theorem Supply.sound_lose (p : Supply) : p.lose.Sound := by simp [Supply.Sound, Supply.lose]

theorem Supply.timed_powered (p : Supply) (t : Timing) (cause : RestartCause) : (p.powered t cause).Timed := by
  simp [Timed, powered, restarted]

/-- A power-on leaves the monitor sound: with the reset line asserted the start waits, without it it ends (R165, R166). -/
theorem State.powersOn_supply_sound {s : State} (ha : s.supply.absent = true) : s.powersOn.supply.Sound := by
  have hpowered (u : State) (hu : u.supply = s.supply) (cause : RestartCause) :
      (if s.supply.resetLine then u.powered cause else (u.powered cause).finishStart).supply.Sound := by
    split
    · next hline =>
      obtain ⟨hpersistence, hrecovery⟩ := Supply.timed_powered u.supply u.store.timing cause
      refine ⟨hpersistence, hrecovery, fun h => absurd h (by simp [State.powered, Supply.powered]), fun _ => ⟨?_, rfl⟩⟩
      exact (congrArg Supply.resetLine hu).trans hline
    · rw [finishStart_supply]
      exact (Supply.timed_powered u.supply u.store.timing cause).started rfl _ _
  rw [powersOn_eq ha]
  dsimp only
  cases s.supply.latch
  · exact hpowered s.warmReconcile (by simp) _
  · exact hpowered s.coldClear rfl _

theorem exec_supply_sound {c : Instr} {s t : State} (h : exec c s = .next t) (hs : s.supply.Sound) : t.supply.Sound := by
  by_cases hc : c = .powerOn
  · subst hc
    rw [eq_run_of_exec h]
    show s.powersOn.supply.Sound
    cases ha : s.supply.absent with
    | false => simpa [State.powersOn, ha] using hs
    | true => exact State.powersOn_supply_sound ha
  · refine exec_keeps_of_ne_powerOn (P := fun u => u.supply.Sound) (fun _ _ h => h.supply_sound) (fun s _ _ hs => ?_) (fun s _ hs => ?_)
      hc h hs
    · simpa using hs
    · simpa using s.supply.sound_lose

/-! ## The port -/

theorem Port.sound_start : Port.start.Sound := by simp [Port.Sound, Port.start]

theorem exec_port_sound {c : Instr} {s t : State} (h : exec c s = .next t) (hs : s.port.Sound) : t.port.Sound := by
  refine exec_keeps (P := fun u => u.port.Sound) (fun _ _ h => h.port_sound) (fun s _ _ hs => ?_) (fun s _ _ => ?_)
    (fun s _ hs => ?_) (fun s _ hs => ?_) h hs
  · simpa using hs
  · simpa using Port.sound_start
  · simpa using hs
  · simpa using hs

/-! ## The part without main supply (R165) -/

namespace State

/-- The dark blocks do not speak of the supply monitor. -/
theorem Dark.modSupply {s : State} (h : s.Dark) (f : Supply → Supply) : (s.modSupply f).Dark :=
  ⟨h.lanes, fun r => by simpa using h.rostra r, h.bays, h.totals, h.store⟩

theorem Dark.withPending {s : State} (h : s.Dark) (q : List Instr) : State.Dark { s with pending := q } :=
  ⟨h.lanes, fun r => by cases r <;> [exact h.rostra .a; exact h.rostra .b], h.bays, h.totals, h.store⟩

theorem Dark.tick {s : State} (h : s.Dark) : s.tick.Dark where
  lanes i := by
    rw [tick_lane, h.lanes i]
    rfl
  rostra r := by
    rw [tick_rostrum, h.rostra r]
    rfl
  bays b := by
    rw [tick_bay, h.bays b]
    rfl
  totals := by simpa using h.totals
  store := by simpa using h.store

theorem dark_loseVolatile (s : State) : s.loseVolatile.Dark where
  lanes i := by
    rw [loseVolatile_lane]
    rfl
  rostra r := by
    rw [loseVolatile_rostrum]
    rfl
  bays b := s.loseVolatile_bay b
  totals := by simp
  store := by simp [Store.lose, Store.suspend]

end State

/-- A power-on brings the main supply back. -/
theorem State.powersOn_present (s : State) : s.powersOn.supply.absent = false := by
  cases ha : s.supply.absent with
  | false => simp [powersOn, ha]
  | true =>
    have hpowered (u : State) (cause : RestartCause) :
        (if s.supply.resetLine then u.powered cause else (u.powered cause).finishStart).supply.absent = false := by
      split
      · rfl
      · rw [finishStart_supply]
        simp [powered, Supply.powered]
    rw [powersOn_eq ha]
    dsimp only
    cases s.supply.latch
    · exact hpowered s.warmReconcile _
    · exact hpowered s.coldClear _

/-- With the main supply present, only its loss makes it absent. -/
theorem exec_present {c : Instr} {s t : State} (h : exec c s = .next t) (hc : c ≠ .supplyAbsent) (hs : s.supply.absent = false) :
    t.supply.absent = false := by
  by_cases ho : c = .powerOn
  · subst ho
    rw [eq_run_of_exec h]
    exact s.powersOn_present
  · by_cases hr : c = .recordsClear
    · subst hr
      rw [eq_run_of_exec h]
      show (request 0x79 recordsClear s).supply.absent = false
      unfold request recordsClear
      (repeat' split) <;> simp [hs]
    · exact (exec_changes hr hc ho h).keeps (P := fun u => u.supply.absent = false) (fun _ _ h hs => h.absent.trans hs) hs

/-- Without main supply a row of the monitor sets the latch or the pin alone, but for the power-on. -/
theorem supplyRow_dark {c : Instr} {f : State → State} (hm : meaning c = .supply f) (hc : c ≠ .powerOn) {s : State}
    (ha : s.supply.absent = true) (hs : s.Dark) : (f s).Dark := by
  have hidle : s.trading = false := Supply.trading_eq_false_iff.mpr (.inl ha)
  cases c <;> cases hm
  case powerOn => exact absurd rfl hc
  case supplyFall => simpa [State.supplyFalls, ha] using hs
  case supplyRise => simpa [State.supplyRises, ha] using hs
  case persistenceTimerExpiry => simpa [State.persistenceExpiry, ha] using hs
  case detectionSuspendEnd => simpa [State.suspendEnd, ha] using hs
  case recoveryRise => simpa [State.recoveryRises, ha] using hs
  case recoveryFall => simpa [State.recoveryFalls, ha] using hs
  case recoveryTimerExpiry => simpa [State.recoveryExpiry, ha] using hs
  case supplyAbsent => simpa [State.supplyLost, ha] using hs
  case backupLow => simpa [State.backupFalls, ha] using hs.modSupply _
  case resetLineAssert => simpa [State.resetAsserted, hidle] using hs.modSupply _
  case resetLineRelease => simpa [State.resetReleased, ha] using hs.modSupply _

/-- Without main supply a command leaves the part dark, or brings the main supply back. -/
theorem exec_dark {c : Instr} {s t : State} (h : exec c s = .next t) (hs : s.supply.absent = true → s.Dark)
    (ht : t.supply.absent = true) : t.Dark := by
  cases ha : s.supply.absent with
  | false =>
    have hc : c = .supplyAbsent := by
      by_contra hc
      exact absurd ((exec_present h hc ha).symm.trans ht) (by decide)
    subst hc
    rw [eq_run_of_exec h]
    show s.supplyLost.Dark
    rw [State.supplyLost, ha]
    exact s.dark_loseVolatile
  | true =>
    have hidle : s.trading = false := Supply.trading_eq_false_iff.mpr (.inl ha)
    have hrun := eq_run_of_exec h
    cases hm : meaning c with
    | request code owner => rw [hrun, hm, Meaning.run, request_idle hidle]; exact hs ha
    | event f => rw [hrun, hm, Meaning.run, event_idle hidle]; exact hs ha
    | supply f =>
      by_cases hc : c = .powerOn
      · subst hc
        have hpresent : t.supply.absent = false := hrun ▸ s.powersOn_present
        exact absurd (hpresent.symm.trans ht) (by decide)
      · rw [hrun, hm]
        exact supplyRow_dark hm hc ha (hs ha)

/-- Settles O16: every elementary change keeps the three blocks sound, and without main supply only the monitor acts. -/
theorem stepKeepsTheStoreTheSupplyAndThePortSound : Obligations.StepKeepsTheStoreTheSupplyAndThePortSound := by
  intro s t h
  refine ⟨?_, ?_, ?_, ?_⟩
  · exact step_keeps (P := fun u => u.store.Sound) (fun _ _ hs => hs) (fun s hs => by simpa using hs)
      (fun _ _ _ h => exec_store_sound h) h
  · exact step_keeps (P := fun u => u.supply.Sound) (fun _ _ hs => hs) (fun s hs => by simpa using hs.tick)
      (fun _ _ _ h => exec_supply_sound h) h
  · exact step_keeps (P := fun u => u.port.Sound) (fun _ _ hs => hs) (fun s hs => by simpa using hs)
      (fun _ _ _ h => exec_port_sound h) h
  · exact step_keeps (P := fun u => u.supply.absent = true → u.Dark) (fun _ q hs h => (hs h).withPending q)
      (fun s hs h => (hs (by simpa [Supply.tick] using h)).tick) (fun _ _ _ h => exec_dark h) h

/-! ## The first power-up -/

namespace State

theorem reset_lane (i : Fin 8) : State.reset.lane i = Lane.fresh false 2 1 5 := lane_replicate _ rfl i

theorem reset_rostrum (r : RostrumId) : State.reset.rostrum r = Rostrum.fresh [] (Vector.replicate 96 none) := by cases r <;> rfl

theorem reset_bay (b : Fin 4) : State.reset.bay b = Bay.fresh := bay_replicate _ rfl b

theorem reset_crateType (t : Fin 8) : State.reset.crateType t = { yard := 0, fleet := 0, strays := 0 } := by
  simp [crateType, reset, CratePool.empty]

theorem reset_gate (g : Fin 2) : State.reset.gate g = Gate.fresh := by simp [gate, reset, CratePool.empty]

/-- No record has been written. -/
theorem reset_cells_invalid (id : RecordId) : (State.reset.store.cells.get id).valid = false := by
  cases id <;> simp [reset, StoreCells.get, StoreCells.blank, StoreRecord.blank]

end State

theorem Rostrum.desk_fresh (queue : List Key) (d : Fin 96) : (Rostrum.fresh queue (Vector.replicate 96 none)).desk d = none := by
  simp [Rostrum.desk, Rostrum.fresh]

/-- Settles O8, field by field. -/
theorem resetIsTheFirstPowerUp : Obligations.ResetIsTheFirstPowerUp := by
  refine ⟨fun i => ?_, rfl, fun r => ?_, rfl, rfl, rfl, State.reset_crateType, State.reset_gate, rfl, rfl, fun b => ?_,
    State.reset_cells_invalid, rfl, rfl, rfl, rfl, rfl, rfl, rfl, rfl, rfl, rfl, rfl, rfl, rfl, rfl⟩
  · rw [State.reset_lane]
    exact ⟨rfl, rfl, rfl, rfl, rfl⟩
  · rw [State.reset_rostrum]
    exact ⟨rfl, rfl, rfl, Rostrum.desk_fresh []⟩
  · rw [State.reset_bay]
    exact ⟨rfl, rfl⟩

/-- Settles O9: at reset every table is empty. -/
theorem invariantsHoldAtReset : Obligations.InvariantsHoldAtReset := by
  have hlots : State.reset.lotTable.lots = [] := rfl
  have haccounts : State.reset.accountTable.accounts = [] := rfl
  have hbay (b : Fin 4) : (State.reset.bay b).order = none := by rw [State.reset_bay]; rfl
  have hlane (i : Fin 8) : (State.reset.lane i).weighing = none := by rw [State.reset_lane]; rfl
  have hoffer (r : RostrumId) : (State.reset.rostrum r).offer = none := by rw [State.reset_rostrum]; rfl
  have hqueue (r : RostrumId) : (State.reset.rostrum r).queue = [] := by rw [State.reset_rostrum]; rfl
  have hdesk (r : RostrumId) (d : Fin 96) : (State.reset.rostrum r).desk d = none := by
    rw [State.reset_rostrum]
    exact Rostrum.desk_fresh [] d
  have hholdings (t : Fin 8) : State.reset.holdingsOf t = 0 := rfl
  have hpresent : State.reset.supply.absent = false := rfl
  refine ⟨?_, ?_, ?_, ?_, ?_, ?_, fun i => ?_, fun r => ?_, ?_, ?_, ?_, Port.sound_start, ?_, ?_, ?_, ?_, fun h => ?_⟩
  · exact ⟨List.Pairwise.nil, by simp [haccounts], rfl, rfl⟩
  · show BitVec.ofInt 64 0 + 0 + 0 + 0 + 0 + 0 = (0 : Word64) - 0
    decide
  · simp [AccountTable.Floored, haccounts]
  · exact ⟨by simp [hlots], by decide, by decide, by decide, by simp [hlots]⟩
  · simp [LotTable.Ranged, hlots]
  · intro i h
    rw [State.reset_lane] at h
    simp [Lane.fresh] at h
  · rw [State.reset_lane]
    exact Lane.sound_fresh _ (by omega) (by omega) (by omega) (by omega)
  · rw [State.reset_rostrum]
    exact Rostrum.sound_fresh (by simp) _
  · refine ⟨fun b => ?_, fun _ => hbay, by simp [hbay], by decide, fun _ => ⟨by simp [haccounts], ?_⟩⟩
    · rw [State.reset_bay]
      exact Bay.Sound.fresh
    · simp only [State.stockReserved, hbay]
      rfl
  · refine ⟨fun id h => ?_, fun b hb => by cases hb⟩
    rw [State.reset_cells_invalid] at h
    cases h
  · simp [Supply.Sound, State.reset]
  · exact
      { keyed := ⟨List.Pairwise.nil, by simp [hlots], by simp [hlots]⟩, nodup := by simp [hqueue], queued := by simp [hqueue]
        inQueue := by simp [hlots], onClock := by simp [hoffer], offered := by simp [hlots], oneOnClock := by simp [hlots]
        pending := by simp [hlane], weighing := by simp [hlots], still := by simp [hoffer, hlane] }
  · exact { desks := by simp [haccounts], lots := by simp [haccounts], boats := by simp [hlots], buyers := by simp [hdesk] }
  · exact
      { conserved := fun t => by simp [State.Conserved, State.reset_crateType, hholdings], covered := by simp [haccounts]
        committed := by simp [haccounts], owned := by simp [hlots] }
  · exact { identity := by simp only [hholdings]; rfl, backed := by simp [hholdings] }
  · rw [hpresent] at h
    cases h

end Sys2Proof.Machine
end

section
/-! PROOF. The account records after each operation, and the account table in order with its count and sum. -/

namespace Sys2Proof.Machine

/-! ## A change of the record of one number -/

/-- A change of an account record, made of the record of one number alone. -/
def Account.onNumber (n : Nat) (f : Account → Account) (a : Account) : Account := if a.number = n then f a else a

namespace Account

theorem onNumber_self {n : Nat} {a : Account} (h : a.number = n) (f : Account → Account) : a.onNumber n f = f a := if_pos h

theorem onNumber_ne {n : Nat} {a : Account} (h : a.number ≠ n) (f : Account → Account) : a.onNumber n f = a := if_neg h

theorem onNumber_number (n : Nat) {f : Account → Account} (hf : ∀ a, (f a).number = a.number) (a : Account) :
    (a.onNumber n f).number = a.number := by
  unfold onNumber
  split
  · exact hf a
  · rfl

/-- A field that the change keeps. -/
theorem onNumber_field {β : Type} (g : Account → β) (n : Nat) {f : Account → Account} (hf : ∀ a, g (f a) = g a) (a : Account) :
    g (a.onNumber n f) = g a := by
  unfold onNumber
  split
  · exact hf a
  · rfl

theorem onNumber_onNumber (n : Nat) {f : Account → Account} (hf : ∀ a, (f a).number = a.number) (g : Account → Account) (a : Account) :
    (a.onNumber n f).onNumber n g = a.onNumber n fun a => g (f a) := by
  by_cases h : a.number = n
  · rw [onNumber_self h, onNumber_self ((hf a).trans h), onNumber_self h]
  · rw [onNumber_ne h, onNumber_ne h, onNumber_ne h]

end Account

/-! ## Tables in order of number -/

/-- The accounts stand in ascending order of number. -/
def AccountTable.Ordered (T : AccountTable) : Prop := T.accounts.Pairwise fun a b => a.number < b.number

theorem AccountTable.Tallied.ordered {T : AccountTable} (h : T.Tallied) : T.Ordered := h.1

namespace AccountTable

theorem Ordered.nodup {T : AccountTable} (h : T.Ordered) : (T.accounts.map (·.number)).Nodup :=
  (List.pairwise_map.mpr h).imp ne_of_lt

/-- No two accounts have the same number. -/
theorem Ordered.eq_of_number {T : AccountTable} (h : T.Ordered) {a b : Account} (ha : a ∈ T.accounts) (hb : b ∈ T.accounts)
    (hab : a.number = b.number) : a = b := List.inj_on_of_nodup_map h.nodup ha hb hab

/-- An account of an ordered table is the one found under its number. -/
theorem Ordered.find {s : State} (h : s.accountTable.Ordered) {a : Account} (ha : a ∈ s.accountTable.accounts) :
    s.account? a.number = some a := by
  cases hf : s.account? a.number with
  | none => exact absurd (List.find?_eq_none.mp hf a ha) (by simp)
  | some b => rw [h.eq_of_number (State.account?_mem hf) ha (State.account?_number hf)]

end AccountTable

/-- The sum of a figure over records of different numbers, after one of them has changed. -/
theorem sum_map_onNumber {M : Type} [AddCommMonoid M] {xs : List Account} (h : (xs.map (·.number)).Nodup) {a : Account} (ha : a ∈ xs)
    (φ : Account → M) (f : Account → Account) :
    ((xs.map (·.onNumber a.number f)).map φ).sum + φ a = (xs.map φ).sum + φ (f a) := by
  induction xs with
  | nil => cases ha
  | cons b bs ih =>
    obtain ⟨hb, hbs⟩ := List.nodup_cons.mp h
    rcases List.mem_cons.mp ha with rfl | hmem
    · have hrest : bs.map (·.onNumber a.number f) = bs := by
        refine (List.map_congr_left fun c hc => Account.onNumber_ne (fun heq => hb ?_) f).trans (List.map_id bs)
        exact List.mem_map.mpr ⟨c, hc, heq⟩
      simp only [List.map_cons, List.sum_cons, hrest, Account.onNumber_self]
      abel
    · have hne : b.number ≠ a.number := fun heq => hb (List.mem_map.mpr ⟨a, hmem, heq.symm⟩)
      simp only [List.map_cons, List.sum_cons, Account.onNumber_ne hne, add_assoc]
      rw [ih hbs hmem]

/-! ## The records after each operation -/

namespace State

/-- The account records. -/
abbrev accounts (s : State) : List Account := s.accountTable.accounts

theorem accounts_modAccount (s : State) (n : Nat) (f : Account → Account) :
    (s.modAccount n f).accounts = s.accounts.map (·.onNumber n f) := rfl

/-- A change of a record that does not exist changes nothing. -/
theorem map_onNumber_of_none {s : State} {n : Nat} (h : s.account? n = none) (f : Account → Account) :
    s.accounts.map (·.onNumber n f) = s.accounts := by
  refine (List.map_congr_left fun a ha => Account.onNumber_ne (fun heq => ?_) f).trans (List.map_id _)
  exact absurd (List.find?_eq_none.mp h a ha) (by simp [heq])

theorem accounts_post (s : State) (n : Nat) (d : Int) :
    (s.post n d).accounts = s.accounts.map (·.onNumber n fun a => { a with balance := a.balance + d }) := by
  unfold post
  cases h : s.account? n with
  | none => exact (map_onNumber_of_none h _).symm
  | some a => rfl

theorem accounts_debit (s : State) (n amount : Nat) :
    (s.debit n amount).accounts = s.accounts.map (·.onNumber n fun a => { a with balance := a.balance - amount }) :=
  accounts_post s n (-(amount : Int))

theorem accounts_credit (s : State) (n amount : Nat) :
    (s.credit n amount).accounts = s.accounts.map (·.onNumber n fun a => { a with balance := a.balance + amount }) :=
  accounts_post s n amount

theorem map_onNumber_onNumber (xs : List Account) (n : Nat) {f : Account → Account} (hf : ∀ a, (f a).number = a.number)
    (g : Account → Account) : (xs.map (·.onNumber n f)).map (·.onNumber n g) = xs.map (·.onNumber n fun a => g (f a)) := by
  rw [List.map_map]
  exact List.map_congr_left fun a _ => a.onNumber_onNumber n hf g

theorem accounts_release (s : State) (n r c : Nat) :
    (s.release n r c).accounts =
      s.accounts.map (·.onNumber n fun a => { a with reserved := a.reserved - r, balance := a.balance - c }) := by
  rw [release, accounts_post, accounts_modAccount, map_onNumber_onNumber]
  · rfl
  · exact fun _ => rfl

theorem accounts_modHolding (s : State) (n : Nat) (t : Fin 8) (f : Nat → Nat) :
    (s.modHolding n t f).accounts = s.accounts.map (·.onNumber n fun a => { a with holding := bump a.holding t f }) := rfl

theorem accounts_saleMove (s : State) (boat buyer : Nat) (t : Fin 8) (k : Nat) :
    (s.saleMove boat buyer t k).accounts =
      (s.accounts.map (·.onNumber boat fun a =>
        { a with holding := bump a.holding t (· - k), committed := bump a.committed t (· - k) })).map
        (·.onNumber buyer fun a => { a with holding := bump a.holding t (· + k) }) := rfl

/-- The crates of an ended weighing leave the committed count of its lot's boat (R32). -/
def uncommitted (s : State) (p : PendingWeighing) (a : Account) : Account :=
  match s.lot? p.key with
  | none => a
  | some lot => a.onNumber lot.boat fun a => { a with committed := bump a.committed lot.crateType (· - p.crates) }

theorem accounts_releaseWeighing (s : State) (p : PendingWeighing) :
    (s.releaseWeighing p.key p.crates).accounts = s.accounts.map (s.uncommitted p) := by
  unfold releaseWeighing uncommitted
  cases s.lot? p.key with
  | none => exact (List.map_id _).symm
  | some lot => rfl

theorem accounts_endWeighing {s : State} {i : Fin 8} {p : PendingWeighing} (hp : (s.lane i).weighing = some p) {result : WeighResult}
    (hr : result ≠ .taken) (gross : Option Int) (number : Option Nat) (ticket : Option TicketStatus) :
    (s.endWeighing i result gross number ticket).accounts = s.accounts.map (s.uncommitted p) := by
  simp only [endWeighing, hp, if_neg hr]
  exact s.accounts_releaseWeighing p

theorem accountTable_endWeighing_taken (s : State) (i : Fin 8) (gross : Option Int) (number : Option Nat)
    (ticket : Option TicketStatus) : (s.endWeighing i .taken gross number ticket).accountTable = s.accountTable := by
  unfold endWeighing
  split <;> rfl

theorem accounts_handIn (s : State) (lot : Lot) (i : Fin 8) (c : Nat) :
    (s.handIn lot i c).accounts =
      s.accounts.map (·.onNumber lot.boat fun a => { a with committed := bump a.committed lot.crateType (· + c) }) := rfl

theorem accounts_openedLot (s : State) (boat species : Nat) (t : Fin 8) :
    (s.openedLot boat species t).accounts = s.accounts.map (·.onNumber boat fun a => { a with liveLots := a.liveLots + 1 }) := rfl

/-- A boat's record when a lot of it retires (R28). -/
def retiredAt (lot : Lot) (a : Account) : Account :=
  { a with
    committed := if lot.state = .sold then a.committed else bump a.committed lot.crateType (· - lot.n), liveLots := a.liveLots - 1 }

theorem accounts_retire (s : State) (lot : Lot) :
    (s.retire lot).accounts = s.accounts.map (·.onNumber lot.boat (retiredAt lot)) := by
  simp only [retire]
  show ((if lot.state = .sold then s else s.uncommit lot.boat lot.crateType lot.n).modLiveLots lot.boat (· - 1)).accounts = _
  by_cases hs : lot.state = .sold
  · have hat : retiredAt lot = fun a => { a with liveLots := a.liveLots - 1 } := funext fun a => by simp [retiredAt, hs]
    rw [if_pos hs, hat]
    rfl
  · have hat : retiredAt lot =
        fun a => { a with committed := bump a.committed lot.crateType (· - lot.n), liveLots := a.liveLots - 1 } :=
      funext fun a => by simp [retiredAt, hs]
    rw [if_neg hs, hat, modLiveLots, accounts_modAccount, uncommit, accounts_modAccount, map_onNumber_onNumber]
    exact fun _ => rfl

theorem accounts_issueCrates (s : State) (n : Nat) (t : Fin 8) (k d : Nat) :
    (s.issueCrates n t k d).accounts =
      s.accounts.map (·.onNumber n fun a =>
        { a with holding := bump a.holding t (· + k), balance := a.balance - (k * d : Nat) }) := by
  show (((s.modCrateType t _).modHolding n t (· + k)).debit n (k * d)).accounts = _
  rw [accounts_debit, accounts_modHolding, map_onNumber_onNumber]
  · rfl
  · exact fun _ => rfl

theorem accounts_takeOrder (s : State) (b : Fin 4) (o : IceOrder) :
    (s.takeOrder b o).accounts = s.accounts.map (·.onNumber o.account fun a => { a with reserved := a.reserved + o.charge }) := rfl

theorem accounts_completeOrder {s : State} {b : Fin 4} {o : IceOrder} (ho : (s.bay b).order = some o) (code : IceCode) :
    (s.completeOrder b code).accounts =
      s.accounts.map (·.onNumber o.account fun a =>
        { a with
          reserved := a.reserved - o.charge
          balance := a.balance - (chargedKilograms o.q (s.bay b).delivered * o.price : Nat) }) := by
  simp only [completeOrder, ho]
  exact accounts_release s ..

theorem accounts_transferCrates (s : State) (giver taker : Nat) (t : Fin 8) (n d : Nat) :
    (s.transferCrates giver taker t n d).accounts =
      (((s.accounts.map (·.onNumber giver fun a => { a with holding := bump a.holding t (· - n) })).map
        (·.onNumber taker fun a => { a with holding := bump a.holding t (· + n) })).map
        (·.onNumber taker fun a => { a with balance := a.balance - (n * d : Nat) })).map
        (·.onNumber giver fun a => { a with balance := a.balance + (n * d : Nat) }) := by
  rw [transferCrates, accounts_credit, accounts_debit, accounts_modHolding, accounts_modHolding]

/-- The sold lot's buyer, boat and crates (R86, R87). -/
def soldAccounts (xs : List Account) (c : Candidate) (v : Valuation) : List Account :=
  (((xs.map (·.onNumber c.account.number fun a => { a with balance := a.balance - v.buyerTotal })).map
    (·.onNumber c.lot.boat fun a => { a with balance := a.balance + v.boatCredit })).map
    (·.onNumber c.lot.boat fun a =>
      { a with holding := bump a.holding c.lot.crateType (· - c.k), committed := bump a.committed c.lot.crateType (· - c.k) })).map
    (·.onNumber c.account.number fun a => { a with holding := bump a.holding c.lot.crateType (· + c.k) })

theorem accounts_postSale (s : State) (c : Candidate) (v : Valuation) : (s.postSale c v).accounts = soldAccounts s.accounts c v := by
  show (((s.debit c.account.number v.buyerTotal).post c.lot.boat v.boatCredit).saleMove c.lot.boat c.account.number c.lot.crateType
    c.k).accounts = _
  rw [accounts_saleMove, accounts_post, accounts_debit]
  rfl

theorem accountTable_win (s : State) (r : RostrumId) (c : Candidate) (v : Valuation) :
    (s.win r c v).accountTable =
      if c.isPart then ((s.postSale c v).modLiveLots c.lot.boat (· + 1)).accountTable else (s.postSale c v).accountTable := by
  simp only [win, enterShowing]
  cases c.isPart <;> simp [addRemainder, modLiveLots]

theorem accounts_win (s : State) (r : RostrumId) (c : Candidate) (v : Valuation) :
    (s.win r c v).accounts =
      (soldAccounts s.accounts c v).map (·.onNumber c.lot.boat fun a => { a with liveLots := a.liveLots + if c.isPart then 1 else 0 }) := by
  unfold accounts
  rw [accountTable_win]
  cases c.isPart with
  | true => exact congrArg _ (s.accounts_postSale c v)
  | false =>
    refine (s.accounts_postSale c v).trans ?_
    refine ((List.map_congr_left fun a _ => ?_).trans (List.map_id _)).symm
    unfold Account.onNumber
    split <;> rfl

/-- One type of a settlement, in the account's record (R126). -/
theorem accounts_settleType (w : Session) (a : Account) (s : State) (t : Fin 8) :
    (settleType w a s t).accounts =
      s.accounts.map (·.onNumber a.number fun x => { x with holding := bump x.holding t (· - w.credited a t) }) := rfl

/-- The holdings after a settlement (R126). -/
def settledHolding (w : Session) (a : Account) (ts : List (Fin 8)) (v : Vector Nat 8) : Vector Nat 8 :=
  ts.foldl (fun v t => bump v t (· - w.credited a t)) v

theorem accounts_foldl_settleType (w : Session) (a : Account) (ts : List (Fin 8)) (s : State) :
    (ts.foldl (settleType w a) s).accounts =
      s.accounts.map (·.onNumber a.number fun x => { x with holding := settledHolding w a ts x.holding }) := by
  induction ts generalizing s with
  | nil =>
    refine ((List.map_congr_left fun x _ => ?_).trans (List.map_id _)).symm
    unfold Account.onNumber
    split <;> rfl
  | cons t ts ih =>
    rw [List.foldl_cons, ih, accounts_settleType, map_onNumber_onNumber]
    · rfl
    · exact fun _ => rfl

theorem accounts_settle (s : State) (g : Fin 2) (w : Session) (a : Account) :
    (s.settle g w a).accounts =
      s.accounts.map (·.onNumber a.number fun x =>
        { x with holding := settledHolding w a all8 x.holding, balance := x.balance + s.closeDeposit w a }) := by
  show ((all8.foldl (settleType w a) s).credit a.number (s.closeDeposit w a)).accounts = _
  rw [accounts_credit, accounts_foldl_settleType, map_onNumber_onNumber]
  exact fun _ => rfl

end State

end Sys2Proof.Machine
end

section
/-! PROOF. Every step keeps the account table in order, with its record count and its balance sum (R95). -/

namespace Sys2Proof.Machine

theorem pairwise_insertAccount {new : Account} {as : List Account} (h : as.Pairwise fun a b => a.number < b.number)
    (hfresh : ∀ a ∈ as, a.number ≠ new.number) : (insertAccount new as).Pairwise fun a b => a.number < b.number := by
  induction as with
  | nil => simp [insertAccount]
  | cons b bs ih =>
    obtain ⟨hb, hbs⟩ := List.pairwise_cons.mp h
    unfold insertAccount
    split
    · next hlt =>
      refine List.pairwise_cons.mpr ⟨fun c hc => ?_, h⟩
      rcases List.mem_cons.mp hc with rfl | hc
      · exact hlt
      · exact hlt.trans (hb c hc)
    · next hge =>
      refine List.pairwise_cons.mpr ⟨fun c hc => ?_, ih hbs fun a ha => hfresh a (List.mem_cons_of_mem _ ha)⟩
      rcases mem_insertAccount.mp hc with rfl | hc
      · exact lt_of_le_of_ne (not_lt.mp hge) (hfresh b List.mem_cons_self)
      · exact hb c hc

theorem insertAccount_perm (new : Account) (as : List Account) : (insertAccount new as).Perm (new :: as) := by
  induction as with
  | nil => exact .refl _
  | cons b bs ih =>
    unfold insertAccount
    split
    · exact .refl _
    · exact (ih.cons b).trans (.swap new b bs)

/-- A table without the record of a number that stands in it. -/
theorem filter_number_perm {as : List Account} (h : (as.map (·.number)).Nodup) {a : Account} (ha : a ∈ as) :
    as.Perm (a :: as.filter fun b => b.number != a.number) := by
  induction as with
  | nil => cases ha
  | cons b bs ih =>
    obtain ⟨hb, hbs⟩ := List.nodup_cons.mp h
    rcases List.mem_cons.mp ha with rfl | hmem
    · have hrest : bs.filter (fun c => c.number != a.number) = bs :=
        List.filter_eq_self.mpr fun c hc => by simpa using fun heq => hb (List.mem_map.mpr ⟨c, hc, heq⟩)
      simp [hrest]
    · have hne : b.number ≠ a.number := fun heq => hb (List.mem_map.mpr ⟨a, hmem, heq.symm⟩)
      rw [List.filter_cons_of_pos (by simpa using hne)]
      exact ((ih hbs hmem).cons b).trans (.swap a b _)

namespace AccountTable

variable {T : AccountTable}

theorem Tallied.withHall (h : T.Tallied) (hall : HallCounters) (totals : Option TotalsCopy) : Tallied { T with hall, totals } := h

/-- Records that keep their numbers, with the balance sum that they give. -/
theorem Tallied.remap (h : T.Tallied) {g : Account → Account} (hnumber : ∀ a, (g a).number = a.number) {sum : Int}
    (hsum : sum = ((T.accounts.map g).map (·.balance)).sum) : Tallied { T with accounts := T.accounts.map g, balanceSum := sum } := by
  obtain ⟨hordered, hlength, hcount, -⟩ := h
  refine ⟨?_, by simpa using hlength, by simpa using hcount, hsum⟩
  exact List.pairwise_map.mpr (hordered.imp fun hlt => by rwa [hnumber, hnumber])

end AccountTable

namespace State

variable {s : State}

theorem modAccount_tallied (h : s.accountTable.Tallied) (n : Nat) {f : Account → Account} (hnumber : ∀ a, (f a).number = a.number)
    (hbalance : ∀ a, (f a).balance = a.balance) : (s.modAccount n f).accountTable.Tallied := by
  refine h.remap (Account.onNumber_number n hnumber) ?_
  rw [List.map_map, h.2.2.2]
  exact congrArg List.sum (List.map_congr_left fun a _ => (a.onNumber_field (·.balance) n hbalance).symm)

theorem post_tallied (h : s.accountTable.Tallied) (n : Nat) (d : Int) : (s.post n d).accountTable.Tallied := by
  unfold post
  cases ha : s.account? n with
  | none => exact h
  | some a =>
    refine h.remap (Account.onNumber_number n (f := fun a => { a with balance := a.balance + d }) fun _ => rfl) ?_
    have hsum := sum_map_onNumber h.ordered.nodup (account?_mem ha) (·.balance) fun a => { a with balance := a.balance + d }
    rw [account?_number ha] at hsum
    have hbalance := h.2.2.2
    show s.accountTable.balanceSum + d = _
    dsimp only at hsum
    linarith

theorem release_tallied (h : s.accountTable.Tallied) (n r c : Nat) : (s.release n r c).accountTable.Tallied := by
  unfold release
  refine post_tallied (modAccount_tallied h n ?_ ?_) n _ <;> exact fun _ => rfl

theorem debit_tallied (h : s.accountTable.Tallied) (n amount : Nat) : (s.debit n amount).accountTable.Tallied := post_tallied h n _

theorem credit_tallied (h : s.accountTable.Tallied) (n amount : Nat) : (s.credit n amount).accountTable.Tallied := post_tallied h n _

theorem modFloat_tallied (h : s.accountTable.Tallied) (d : Int) : (s.modFloat d).accountTable.Tallied := h

theorem addAccount_tallied (h : s.accountTable.Tallied) {a : Account} (hfresh : s.account? a.number = none) (hzero : a.balance = 0)
    (hroom : s.accountTable.accounts.length < 512) : (s.addAccount a).accountTable.Tallied := by
  obtain ⟨hordered, hlength, hcount, hsum⟩ := h
  have hperm := insertAccount_perm a s.accountTable.accounts
  refine ⟨pairwise_insertAccount hordered fun b hb => ?_, ?_, ?_, ?_⟩
  · simpa using List.find?_eq_none.mp hfresh b hb
  · simpa [hperm.length_eq] using hroom
  · simp [hperm.length_eq, hcount]
  · simp [(hperm.map (·.balance)).sum_eq, hzero, hsum]

theorem removeAccount_tallied (h : s.accountTable.Tallied) {a : Account} (ha : a ∈ s.accountTable.accounts) (hzero : a.balance = 0) :
    (s.removeAccount a.number).accountTable.Tallied := by
  have hperm := filter_number_perm h.ordered.nodup ha
  obtain ⟨hordered, hlength, hcount, hsum⟩ := h
  have hcount' := hperm.length_eq
  rw [List.length_cons] at hcount'
  refine ⟨hordered.filter _, ?_, ?_, ?_⟩
  · simp only [removeAccount_accountTable]; omega
  · simp only [removeAccount_accountTable]; omega
  · simp only [removeAccount_accountTable, hsum, (hperm.map (·.balance)).sum_eq, List.map_cons, List.sum_cons, hzero, zero_add]

theorem endWeighing_tallied (h : s.accountTable.Tallied) (i : Fin 8) (result : WeighResult) (gross : Option Int)
    (number : Option Nat) (ticket : Option TicketStatus) : (s.endWeighing i result gross number ticket).accountTable.Tallied := by
  unfold endWeighing
  split
  · exact h
  · simp only [modLane_accountTable]
    split
    · exact h
    · unfold releaseWeighing
      split
      · exact h
      · exact modAccount_tallied (s := s.modLot _ _) h _ (fun _ => rfl) fun _ => rfl

theorem retire_tallied (h : s.accountTable.Tallied) (lot : Lot) : (s.retire lot).accountTable.Tallied := by
  simp only [retire, removeLot_accountTable]
  refine modAccount_tallied ?_ _ (fun _ => rfl) fun _ => rfl
  split
  · exact h
  · exact modAccount_tallied h _ (fun _ => rfl) fun _ => rfl

theorem modHolding_tallied (h : s.accountTable.Tallied) (n : Nat) (t : Fin 8) (f : Nat → Nat) :
    (s.modHolding n t f).accountTable.Tallied := modAccount_tallied h n (fun _ => rfl) fun _ => rfl

theorem saleMove_tallied (h : s.accountTable.Tallied) (boat buyer : Nat) (ty : Fin 8) (k : Nat) :
    (s.saleMove boat buyer ty k).accountTable.Tallied := by
  unfold saleMove
  refine modHolding_tallied (modAccount_tallied h boat ?_ ?_) .. <;> exact fun _ => rfl

theorem postSale_tallied (h : s.accountTable.Tallied) (c : Candidate) (v : Valuation) : (s.postSale c v).accountTable.Tallied :=
  saleMove_tallied (post_tallied (debit_tallied h ..) ..) ..

theorem issueCrates_tallied (h : s.accountTable.Tallied) (n : Nat) (ty : Fin 8) (k d : Nat) :
    (s.issueCrates n ty k d).accountTable.Tallied := by
  unfold issueCrates
  exact modFloat_tallied (debit_tallied (modHolding_tallied (s := s.modCrateType _ _) h ..) ..) _

theorem transferCrates_tallied (h : s.accountTable.Tallied) (giver taker : Nat) (ty : Fin 8) (n d : Nat) :
    (s.transferCrates giver taker ty n d).accountTable.Tallied := by
  unfold transferCrates
  exact credit_tallied (debit_tallied (modHolding_tallied (modHolding_tallied h ..) ..) ..) ..

theorem win_tallied (h : s.accountTable.Tallied) (r : RostrumId) (c : Candidate) (v : Valuation) :
    (s.win r c v).accountTable.Tallied := by
  rw [accountTable_win]
  split
  · exact modAccount_tallied (postSale_tallied h c v) _ (fun _ => rfl) fun _ => rfl
  · exact postSale_tallied h c v

theorem foldl_settleType_tallied (h : s.accountTable.Tallied) (w : Session) (a : Account) (ts : List (Fin 8)) :
    (ts.foldl (settleType w a) s).accountTable.Tallied := by
  induction ts generalizing s with
  | nil => exact h
  | cons t ts ih => exact ih (modHolding_tallied (s := s.modCrateType _ _) h _ _ _)

theorem settle_tallied (h : s.accountTable.Tallied) (g : Fin 2) (w : Session) (a : Account) :
    (s.settle g w a).accountTable.Tallied := by
  simp only [settle, modGate_accountTable]
  exact modFloat_tallied (credit_tallied (foldl_settleType_tallied h w a all8) ..) _

end State

/-- An account that nothing holds (R102). -/
theorem State.closeReason_eq_none_iff (s : State) (a : Account) :
    s.closeReason a = none ↔
      a.balance = 0 ∧ a.reserved = 0 ∧ (∀ x ∈ a.holding.toList, x = 0) ∧ a.liveLots = 0 ∧ a.deskCount = 0 ∧
        s.iceOrdersOf a.number = 0 ∧ s.gateOf a.number = none := by
  have hholding : (a.holding.toList.any (· != 0)) = true ↔ ¬ ∀ x ∈ a.holding.toList, x = 0 := by
    rw [List.any_eq_true]
    push Not
    simp only [bne_iff_ne]
  have hgate : (s.gateOf a.number).isSome = true ↔ ¬ s.gateOf a.number = none := by
    rw [Option.isSome_iff_ne_none]
  simp only [closeReason, hholding, hgate]
  split_ifs <;> simp only [true_iff, false_iff] <;> tauto

theorem Change.tallied {s t : State} (h : Change s t) (hs : s.accountTable.Tallied) : t.accountTable.Tallied := by
  cases h
  case weighingEnded => exact State.endWeighing_tallied hs ..
  case weighingTaken => exact State.endWeighing_tallied (s := s.modLot _ _) hs ..
  case opened => exact State.modAccount_tallied (s := { s.addLot _ with lotTable := _ }) hs _ (fun _ => rfl) fun _ => rfl
  case handedIn => exact State.modAccount_tallied hs _ (fun _ => rfl) fun _ => rfl
  case retired => exact State.retire_tallied hs _
  case won => exact State.win_tallied hs ..
  case deskAssigned r d buyer _ _ _ _ =>
    exact State.modAccount_tallied (s := s.modRostrum r _) (by simpa using hs) _ (fun _ => rfl) fun _ => rfl
  case deskReleased r d buyer _ =>
    exact State.modAccount_tallied (s := s.modRostrum r _) (by simpa using hs) _ (fun _ => rfl) fun _ => rfl
  case accountSet => exact State.modAccount_tallied hs _ (fun _ => rfl) fun _ => rfl
  case accountAdded hfresh hroom => exact State.addAccount_tallied hs hfresh rfl hroom
  case accountClosed a hfound hunheld =>
    exact State.removeAccount_tallied hs (State.account?_mem hfound) ((s.closeReason_eq_none_iff a).mp hunheld).1
  case posted => exact State.post_tallied hs ..
  case issued => exact State.issueCrates_tallied hs ..
  case settled g w a _ => exact State.settle_tallied hs g w a
  case transferred => exact State.transferCrates_tallied hs ..
  case orderTaken => exact State.modAccount_tallied hs _ (fun _ => rfl) fun _ => rfl
  case orderCompleted b code =>
    unfold State.completeOrder
    split
    · exact hs
    · exact State.release_tallied hs ..
  case hall => exact hs.withHall _ _
  case totals => exact hs.withHall _ _
  all_goals simpa using hs

theorem AccountTable.tallied_empty : AccountTable.empty.Tallied := ⟨.nil, by simp [empty], rfl, rfl⟩

namespace State

theorem foldl_tallied {α : Type} {f : State → α → State} (h : ∀ s x, s.accountTable.Tallied → (f s x).accountTable.Tallied)
    (xs : List α) {s : State} (hs : s.accountTable.Tallied) : (xs.foldl f s).accountTable.Tallied := by
  induction xs generalizing s with
  | nil => exact hs
  | cons x xs ih => exact ih (h s x hs)

theorem warmReconcile_tallied {s : State} (hs : s.accountTable.Tallied) : s.warmReconcile.accountTable.Tallied := by
  have hdrop : (s.lotTable.lots.foldl dropPending s).accountTable.Tallied := by
    refine foldl_tallied (fun s lot hs => ?_) _ hs
    unfold dropPending
    split
    · exact hs
    · exact modAccount_tallied (s := s.modLot _ _) hs _ (fun _ => rfl) fun _ => rfl
  have hback : s.reconcileLots.accountTable = (s.lotTable.lots.foldl dropPending s).accountTable :=
    foldl_keeps (g := (·.accountTable)) (by simp) s.lotTable.lots _
  have hlots : s.reconcileLots.accountTable.Tallied := hback ▸ hdrop
  refine hlots.remap (g := fun a => { a with reserved := 0 }) (fun _ => rfl) ?_
  rw [List.map_map, hlots.2.2.2]
  rfl

end State

theorem exec_tallied {c : Instr} {s t : State} (h : exec c s = .next t) (hs : s.accountTable.Tallied) : t.accountTable.Tallied := by
  refine exec_keeps (P := fun u => u.accountTable.Tallied) (fun _ _ h => h.tallied) (fun s _ _ _ => ?_) (fun s _ hs => ?_)
    (fun s _ _ => ?_) (fun s _ hs => ?_) h hs
  · simpa using AccountTable.tallied_empty
  · simpa using hs.withHall _ none
  · exact AccountTable.tallied_empty
  · simpa using State.warmReconcile_tallied hs

/-- Settles O10: every elementary change keeps the table tallied. -/
theorem stepKeepsTheAccountsTallied : Obligations.StepKeepsTheAccountsTallied := by
  intro s t hs h
  exact step_keeps (P := fun u => u.accountTable.Tallied) (fun _ _ hs => hs) (fun s hs => by simpa using hs)
    (fun _ _ _ h => exec_tallied h) h hs

end Sys2Proof.Machine
end

section
/-! PROOF. Every step keeps the ice books (R108, R134, R138). -/

namespace Sys2Proof.Machine

/-! ## Numbers, kinds and reservations of the accounts -/

/-- What the ice bays and the lot table ask of an account record: its number, its kind, its reserved. -/
def Account.head (a : Account) : Nat × AccountKind × Nat := (a.number, a.kind, a.reserved)

/-- What a claim reserves of an account. -/
def chargeOn (n : Nat) (claim : Option (Nat × Nat × Nat)) : Nat := (claim.map fun c => if c.1 = n then c.2.1 else 0).getD 0

namespace State

/-- The heads of all account records. -/
def heads (s : State) : List (Nat × AccountKind × Nat) := s.accounts.map Account.head

theorem heads_congr {s t : State} (h : t.accountTable = s.accountTable) : t.heads = s.heads := by rw [heads, accounts, h, heads, accounts]

theorem modAccount_heads (s : State) (n : Nat) {f : Account → Account} (hf : ∀ a, (f a).head = a.head) :
    (s.modAccount n f).heads = s.heads := by
  rw [heads, accounts_modAccount, List.map_map]
  exact List.map_congr_left fun a _ => a.onNumber_field Account.head n hf

@[simp] theorem post_heads (s : State) (n : Nat) (d : Int) : (s.post n d).heads = s.heads := by
  rw [heads, accounts_post, List.map_map]
  refine List.map_congr_left fun a _ => a.onNumber_field Account.head n ?_
  exact fun _ => rfl

@[simp] theorem debit_heads (s : State) (n amount : Nat) : (s.debit n amount).heads = s.heads := post_heads ..
@[simp] theorem credit_heads (s : State) (n amount : Nat) : (s.credit n amount).heads = s.heads := post_heads ..
@[simp] theorem commit_heads (s : State) (n : Nat) (t : Fin 8) (c : Nat) : (s.commit n t c).heads = s.heads :=
  s.modAccount_heads n fun _ => rfl
@[simp] theorem uncommit_heads (s : State) (n : Nat) (t : Fin 8) (c : Nat) : (s.uncommit n t c).heads = s.heads :=
  s.modAccount_heads n fun _ => rfl
@[simp] theorem modLiveLots_heads (s : State) (n : Nat) (f : Nat → Nat) : (s.modLiveLots n f).heads = s.heads :=
  s.modAccount_heads n fun _ => rfl
@[simp] theorem modDeskCount_heads (s : State) (n : Nat) (f : Nat → Nat) : (s.modDeskCount n f).heads = s.heads :=
  s.modAccount_heads n fun _ => rfl
@[simp] theorem modHolding_heads (s : State) (n : Nat) (t : Fin 8) (f : Nat → Nat) : (s.modHolding n t f).heads = s.heads :=
  s.modAccount_heads n fun _ => rfl
@[simp] theorem modHall_heads (s : State) (f : HallCounters → HallCounters) : (s.modHall f).heads = s.heads := rfl
@[simp] theorem setTotals_heads (s : State) (c : Option TotalsCopy) : (s.setTotals c).heads = s.heads := rfl
@[simp] theorem modFloat_heads (s : State) (d : Int) : (s.modFloat d).heads = s.heads := rfl
@[simp] theorem modLot_heads (s : State) (key : Key) (f : Lot → Lot) : (s.modLot key f).heads = s.heads := rfl
@[simp] theorem addLot_heads (s : State) (l : Lot) : (s.addLot l).heads = s.heads := rfl
@[simp] theorem removeLot_heads (s : State) (key : Key) : (s.removeLot key).heads = s.heads := rfl
@[simp] theorem modLane_heads (s : State) (i : Fin 8) (f : Lane → Lane) : (s.modLane i f).heads = s.heads := rfl
@[simp] theorem modCrateType_heads (s : State) (t : Fin 8) (f : CrateType → CrateType) : (s.modCrateType t f).heads = s.heads := rfl
@[simp] theorem modGate_heads (s : State) (g : Fin 2) (f : Gate → Gate) : (s.modGate g f).heads = s.heads := rfl

@[simp] theorem modRostrum_heads (s : State) (r : RostrumId) (f : Rostrum → Rostrum) : (s.modRostrum r f).heads = s.heads :=
  heads_congr (by simp)

@[simp] theorem saleMove_heads (s : State) (boat buyer : Nat) (t : Fin 8) (k : Nat) : (s.saleMove boat buyer t k).heads = s.heads := by
  rw [saleMove, modHolding_heads]
  exact s.modAccount_heads boat fun _ => rfl

@[simp] theorem releaseWeighing_heads (s : State) (key : Key) (c : Nat) : (s.releaseWeighing key c).heads = s.heads := by
  unfold releaseWeighing
  split <;> simp

@[simp] theorem endWeighing_heads (s : State) (i : Fin 8) (result : WeighResult) (gross : Option Int) (number : Option Nat)
    (ticket : Option TicketStatus) : (s.endWeighing i result gross number ticket).heads = s.heads := by
  unfold endWeighing
  split
  · rfl
  · rw [modLane_heads]
    split <;> simp

@[simp] theorem handIn_heads (s : State) (lot : Lot) (i : Fin 8) (c : Nat) : (s.handIn lot i c).heads = s.heads := by simp [handIn]

@[simp] theorem openedLot_heads (s : State) (boat species : Nat) (t : Fin 8) : (s.openedLot boat species t).heads = s.heads := by
  simp only [openedLot, modLiveLots_heads]
  rfl

@[simp] theorem retire_heads (s : State) (lot : Lot) : (s.retire lot).heads = s.heads := by
  simp only [retire, removeLot_heads, modLiveLots_heads]
  split <;> simp

@[simp] theorem postSale_heads (s : State) (c : Candidate) (v : Valuation) : (s.postSale c v).heads = s.heads := by simp [postSale]

@[simp] theorem win_heads (s : State) (r : RostrumId) (c : Candidate) (v : Valuation) : (s.win r c v).heads = s.heads := by
  have htable := s.accountTable_win r c v
  split at htable <;> rw [heads_congr htable] <;> simp

@[simp] theorem issueCrates_heads (s : State) (n : Nat) (t : Fin 8) (k d : Nat) : (s.issueCrates n t k d).heads = s.heads := by
  simp [issueCrates]

@[simp] theorem transferCrates_heads (s : State) (giver taker : Nat) (t : Fin 8) (n d : Nat) :
    (s.transferCrates giver taker t n d).heads = s.heads := by
  simp [transferCrates]

@[simp] theorem settle_heads (s : State) (g : Fin 2) (w : Session) (a : Account) : (s.settle g w a).heads = s.heads := by
  have htypes : ∀ (ts : List (Fin 8)) (u : State), (ts.foldl (settleType w a) u).heads = u.heads :=
    foldl_keeps (g := heads) (by simp [settleType])
  simp [settle, htypes]

/-- An account exists when a record has its number. -/
theorem account?_isSome_iff (s : State) (n : Nat) : (s.account? n).isSome = true ↔ ∃ a ∈ s.accounts, a.number = n := by
  simp [account?, accounts]

theorem account?_isSome_heads (s : State) (n : Nat) : (s.account? n).isSome = true ↔ ∃ h ∈ s.heads, h.1 = n := by
  simp [account?_isSome_iff, heads, Account.head]

/-! ## Claims -/

/-- What a bay's order has reserved, and for whom. -/
def claim (s : State) (b : Fin 4) : Option (Nat × Nat × Nat) := (s.bay b).order.map (·.claim)

theorem chargesOf_eq (s : State) (n : Nat) : s.chargesOf n = (all4.map fun b => chargeOn n (s.claim b)).sum := by
  unfold chargesOf
  refine congrArg List.sum (List.map_congr_left fun b _ => ?_)
  cases ho : (s.bay b).order <;> simp [claim, chargeOn, IceOrder.claim, ho]

theorem stockReserved_eq (s : State) : s.stockReserved = (all4.map fun b => ((s.claim b).map (·.2.2)).getD 0).sum := by
  unfold stockReserved
  refine congrArg List.sum (List.map_congr_left fun b _ => ?_)
  cases ho : (s.bay b).order <;> simp [claim, IceOrder.claim, ho]

/-- A sum over the four bays when one bay's term changes. -/
theorem sum_all4_update (x y : Fin 4 → Nat) (b : Fin 4) (v : Nat) (h : ∀ c, y c = if c = b then v else x c) :
    (all4.map y).sum + x b = (all4.map x).sum + v := by
  match b with
  | 0 | 1 | 2 | 3 => simp [all4, h]; omega

theorem claim_eq_none_iff (s : State) (b : Fin 4) : s.claim b = none ↔ (s.bay b).order = none := by simp [claim]

/-- An account on which no order is in flight is charged nothing. -/
theorem chargesOf_eq_zero {s : State} {n : Nat} (h : ∀ b, ∀ o ∈ (s.bay b).order, o.account ≠ n) : s.chargesOf n = 0 := by
  refine List.sum_eq_zero fun x hx => ?_
  obtain ⟨b, -, rfl⟩ := List.mem_map.mp hx
  cases ho : (s.bay b).order with
  | none => rfl
  | some o => simp [h b o ho]

/-- The books of a part whose claims, accounts' reservations and bunker reservation are as before. -/
theorem IceBooks.congr {s t : State} (h : s.IceBooks) (sound : ∀ b, (t.bay b).Sound) (claim : ∀ b, t.claim b = s.claim b)
    (trading : t.trading = false → s.trading = false ∨ s.Quiet) (absent : t.supply.absent = s.supply.absent)
    (heads : t.heads = s.heads) (stock : t.ice.stock ≤ 2000000000) (reservation : t.ice.reservation = s.ice.reservation) :
    t.IceBooks := by
  obtain ⟨-, hidle, hnamed, -, hbooks⟩ := h
  refine ⟨sound, fun ht b => ?_, fun b o ho => ?_, stock, fun ha => ?_⟩
  · rw [← claim_eq_none_iff, claim, claim_eq_none_iff]
    rcases trading ht with ht | hquiet
    · exact hidle ht b
    · exact hquiet.orders b
  · have hclaim : s.claim b = some o.claim := by rw [← claim, State.claim, show (t.bay b).order = some o from ho]; rfl
    obtain ⟨o', ho', heq⟩ := Option.map_eq_some_iff.mp hclaim
    have haccount : o'.account = o.account := congrArg Prod.fst heq
    have hsome := hnamed b o' ho'
    rw [account?_isSome_heads, haccount] at hsome
    rwa [account?_isSome_heads, heads]
  · obtain ⟨hreserved, hreservation⟩ := hbooks (absent ▸ ha)
    constructor
    · intro a hmem
      have hhead : a.head ∈ s.heads := heads ▸ List.mem_map_of_mem hmem
      obtain ⟨a', hmem', heq⟩ := List.mem_map.mp hhead
      have hnumber : a'.number = a.number := congrArg Prod.fst heq
      have hres : a'.reserved = a.reserved := congrArg (·.2.2) heq
      rw [← hres, hreserved a' hmem', hnumber, chargesOf_eq, chargesOf_eq]
      simp only [claim]
    · rw [reservation, hreservation, stockReserved_eq, stockReserved_eq]
      simp only [claim]

theorem claim_congr {s t : State} (h : t.ice = s.ice) (b : Fin 4) : t.claim b = s.claim b := by rw [claim, bay_congr h, claim]

/-- The books of a part whose ice unit, supply monitor and heads are as before. -/
theorem IceBooks.congr_ice {s t : State} (h : s.IceBooks) (ice : t.ice = s.ice) (supply : t.supply = s.supply)
    (heads : t.heads = s.heads) : t.IceBooks :=
  h.congr (fun b => bay_congr ice b ▸ h.1 b) (claim_congr ice) (fun ht => .inl (by rwa [trading, supply] at ht))
    (by rw [supply]) heads (ice ▸ h.2.2.2.1) (by rw [ice])

/-! ## An order taken, an order completed -/

theorem claim_modBay (s : State) (b c : Fin 4) (f : Bay → Bay) :
    (s.modBay b f).claim c = if c = b then (f (s.bay b)).order.map (·.claim) else s.claim c := by
  simp only [claim, bay_modBay]
  split <;> rfl

/-- One bay's claim changes: so do the sums over the bays. -/
theorem chargesOf_update {s t : State} {b : Fin 4} {v : Option (Nat × Nat × Nat)}
    (h : ∀ c, t.claim c = if c = b then v else s.claim c) (n : Nat) :
    t.chargesOf n + chargeOn n (s.claim b) = s.chargesOf n + chargeOn n v := by
  rw [chargesOf_eq, chargesOf_eq]
  exact sum_all4_update (fun c => chargeOn n (s.claim c)) _ b _ fun c => by rw [h]; split <;> rfl

theorem stockReserved_update {s t : State} {b : Fin 4} {v : Option (Nat × Nat × Nat)}
    (h : ∀ c, t.claim c = if c = b then v else s.claim c) :
    t.stockReserved + ((s.claim b).map (·.2.2)).getD 0 = s.stockReserved + (v.map (·.2.2)).getD 0 := by
  rw [stockReserved_eq, stockReserved_eq]
  exact sum_all4_update (fun c => ((s.claim c).map (·.2.2)).getD 0) (fun c => ((t.claim c).map (·.2.2)).getD 0) b _ fun c => by
    rw [h]; split <;> rfl

theorem takeOrder_iceBooks {s : State} (h : s.IceBooks) (b : Fin 4) {a : Account} {q price weight : Nat} (ht : s.trading = true)
    (hidle : (s.bay b).state = .idle) (ha : s.account? a.number = some a) (hq : 1 ≤ q) (hq' : q ≤ 5000) :
    (s.takeOrder b (IceOrder.taken a.number q price weight)).IceBooks := by
  obtain ⟨hsound, -, hnamed, hstock, hbooks⟩ := h
  have hnone : (s.bay b).order = none := by simpa using (hsound b).1.mpr hidle
  let o := IceOrder.taken a.number q price weight
  have hbay (c : Fin 4) : (s.takeOrder b o).bay c = if c = b then (s.bay b).dispense o s.store.timing.pulse else s.bay c := by
    simp only [takeOrder, bay_modBay]
    rfl
  have hclaim (c : Fin 4) : (s.takeOrder b o).claim c = if c = b then some o.claim else s.claim c := by
    simp only [claim, hbay]
    split <;> rfl
  have hempty : s.claim b = none := (claim_eq_none_iff s b).mpr hnone
  have hexists (n : Nat) : ((s.takeOrder b o).account? n).isSome = (s.account? n).isSome := by
    refine account?_modAccount_isSome s o.account n _ ?_
    exact fun _ => rfl
  refine ⟨fun c => ?_, fun hf => ?_, fun c x hx => ?_, hstock, fun habsent => ⟨fun y hy => ?_, ?_⟩⟩
  · rw [hbay]
    split
    · exact Bay.Sound.dispense _ hq hq' ..
    · exact hsound c
  · exact absurd (ht.symm.trans hf) (by decide)
  · rw [hexists]
    rw [hbay] at hx
    split at hx
    · cases hx
      exact Option.isSome_iff_exists.mpr ⟨a, ha⟩
    · exact hnamed c x hx
  · obtain ⟨hreserved, -⟩ := hbooks habsent
    have hy' : y ∈ (s.takeOrder b o).accounts := hy
    rw [accounts_takeOrder] at hy'
    obtain ⟨x, hx, rfl⟩ := List.mem_map.mp hy'
    have hcharges := chargesOf_update hclaim x.number
    rw [hempty, ← hreserved x hx] at hcharges
    by_cases hn : x.number = o.account
    · simpa [Account.onNumber_self hn, chargeOn, IceOrder.claim, hn] using hcharges.symm
    · simpa [Account.onNumber_ne hn, chargeOn, IceOrder.claim, Ne.symm hn] using hcharges.symm
  · have hsum := stockReserved_update hclaim
    rw [hempty, ← (hbooks habsent).2] at hsum
    exact hsum.symm

theorem completeOrder_iceBooks {s : State} (h : s.IceBooks) (b : Fin 4) (code : IceCode) : (s.completeOrder b code).IceBooks := by
  cases ho : (s.bay b).order with
  | none => rwa [completeOrder_none ho]
  | some o =>
    obtain ⟨hsound, hidle, hnamed, hstock, hbooks⟩ := h
    have hclaim (c : Fin 4) : (s.completeOrder b code).claim c = if c = b then none else s.claim c := by
      simp only [claim, completeOrder_orders]
      split <;> rfl
    have hice : (s.completeOrder b code).ice.stock = s.ice.stock - (s.bay b).delivered ∧
        (s.completeOrder b code).ice.reservation = s.ice.reservation - o.stock := by
      simp only [completeOrder, ho]
      simp
    have hexists (n : Nat) : ((s.completeOrder b code).account? n).isSome = true ↔ (s.account? n).isSome = true := by
      rw [account?_isSome_iff, account?_isSome_iff, accounts_completeOrder ho]
      simp only [List.mem_map, exists_exists_and_eq_and]
      refine exists_congr fun a => and_congr_right fun _ => ?_
      rw [Account.onNumber_field (·.number)]
      exact fun _ => rfl
    have hheld : s.claim b = some o.claim := by rw [claim, ho]; rfl
    refine ⟨fun c => ?_, fun hf c => ?_, fun c x hx => ?_, ?_, fun habsent => ?_⟩
    · rw [bay_completeOrder, ho]
      split
      · exact Bay.Sound.complete ..
      · exact hsound c
    · rw [completeOrder_orders]
      split
      · rfl
      · exact hidle (by simpa [trading] using hf) c
    · rw [completeOrder_orders] at hx
      split at hx
      · cases hx
      · exact (hexists _).mpr (hnamed c x hx)
    · omega
    · obtain ⟨hreserved, hreservation⟩ := hbooks (by simpa using habsent)
      constructor
      · intro y hy
        have hy' : y ∈ (s.completeOrder b code).accounts := hy
        rw [accounts_completeOrder ho] at hy'
        obtain ⟨x, hx, rfl⟩ := List.mem_map.mp hy'
        have hcharges := chargesOf_update hclaim x.number
        rw [hheld, ← hreserved x hx] at hcharges
        by_cases hn : x.number = o.account
        · simp only [Account.onNumber_self hn]
          simp [chargeOn, IceOrder.claim, hn] at hcharges ⊢
          omega
        · simpa [Account.onNumber_ne hn, chargeOn, IceOrder.claim, Ne.symm hn] using hcharges.symm
      · have hsum := stockReserved_update hclaim
        rw [hheld, ← hreservation] at hsum
        simp [IceOrder.claim] at hsum
        omega

end State

theorem Change.iceBooks {s t : State} (h : Change s t) (hs : s.IceBooks) : t.IceBooks := by
  cases h
  case supply f _ absent still => exact hs.congr hs.1 (fun _ => rfl) still absent rfl hs.2.2.2.1 rfl
  case bay b f sound order =>
    have hbay (c : Fin 4) : ((s.modBay b f).bay c).Sound := by
      rw [State.bay_modBay]
      split
      · exact sound (hs.1 b)
      · exact hs.1 c
    refine hs.congr hbay (fun c => ?_) (fun ht => .inl ht) rfl rfl hs.2.2.2.1 rfl
    rw [State.claim_modBay]
    split
    · next hc =>
      subst hc
      rcases order with horder | ⟨ht, hnone⟩
      · exact horder
      · rw [hnone, (State.claim_eq_none_iff s c).mpr (hs.2.1 ht c)]
        rfl
    · rfl
  case orderTaken b a q price weight ht hidle hfound hleast hmost => exact State.takeOrder_iceBooks hs b ht hidle hfound hleast hmost
  case orderCompleted b code => exact State.completeOrder_iceBooks hs b code
  case restocked grams =>
    exact hs.congr hs.1 (fun _ => rfl) .inl rfl rfl (by simp [Config.maxBunker]) rfl
  case accountAdded number kind limit cls fresh room =>
    obtain ⟨hsound, hidle, hnamed, hstock, hbooks⟩ := hs
    have hexists (n : Nat) (h : (s.account? n).isSome = true) :
        ((s.addAccount (Account.opened number kind limit cls)).account? n).isSome = true := by
      rw [State.account?_isSome_iff] at h ⊢
      obtain ⟨a, ha, hn⟩ := h
      exact ⟨a, mem_insertAccount.mpr (.inr ha), hn⟩
    refine ⟨hsound, hidle, fun b o ho => hexists _ (hnamed b o ho), hstock, fun habsent => ⟨fun a ha => ?_, (hbooks habsent).2⟩⟩
    rcases mem_insertAccount.mp ha with rfl | ha
    · refine (State.chargesOf_eq_zero (s := s) (n := number) fun b o ho heq => ?_).symm
      have hsome := hnamed b o ho
      rw [heq, fresh] at hsome
      cases hsome
    · exact (hbooks habsent).1 a ha
  case accountClosed a found unheld =>
    obtain ⟨hsound, hidle, hnamed, hstock, hbooks⟩ := hs
    have hfree (b : Fin 4) (o : IceOrder) (ho : (s.bay b).order = some o) : o.account ≠ a.number := by
      obtain ⟨-, -, -, -, -, hnone, -⟩ := (s.closeReason_eq_none_iff a).mp unheld
      simp only [State.iceOrdersOf, List.length_eq_zero_iff, List.filter_eq_nil_iff] at hnone
      simpa [ho] using hnone b (Ledger.mem_all4 b)
    refine ⟨hsound, hidle, fun b o ho => ?_, hstock, fun habsent => ⟨fun x hx => ?_, (hbooks habsent).2⟩⟩
    · have hsome := hnamed b o ho
      rw [State.account?_isSome_iff] at hsome ⊢
      obtain ⟨x, hx, hn⟩ := hsome
      exact ⟨x, List.mem_filter.mpr ⟨hx, by simpa [hn] using hfree b o ho⟩, hn⟩
    · exact (hbooks habsent).1 x (List.mem_of_mem_filter hx)
  case weighingEnded => exact hs.congr_ice (by simp) (by simp) (by simp)
  case weighingTaken => exact hs.congr_ice (by simp) (by simp) (by simp)
  case opened => exact hs.congr_ice (by simp) (by simp) (by simp)
  case handedIn => exact hs.congr_ice (by simp) (by simp) (by simp)
  case retired => exact hs.congr_ice (by simp) (by simp) (by simp)
  case won => exact hs.congr_ice (by simp) (by simp) (by simp)
  case deskAssigned => exact hs.congr_ice (by simp) (by simp) (by simp)
  case deskReleased => exact hs.congr_ice (by simp) (by simp) (by simp)
  case accountSet n limit cls state => exact hs.congr_ice rfl rfl (s.modAccount_heads n fun _ => rfl)
  case posted => exact hs.congr_ice (by simp) (by simp) (by simp)
  case hall => exact hs.congr_ice rfl rfl rfl
  case totals => exact hs.congr_ice rfl rfl rfl
  case issued => exact hs.congr_ice (by simp) (by simp) (by simp)
  case settled => exact hs.congr_ice (by simp) (by simp) (by simp)
  case transferred => exact hs.congr_ice (by simp) (by simp) (by simp)
  all_goals exact hs.congr_ice (by simp) (by simp) (State.heads_congr (by simp))

theorem exec_iceBooks {c : Instr} {s t : State} (h : exec c s = .next t) (hs : s.IceBooks) : t.IceBooks := by
  have hempty {u : State} (hbays : ∀ b, (u.bay b).Sound) (horders : ∀ b, (u.bay b).order = none) (hstock : u.ice.stock = 0)
      (hreservation : u.ice.reservation = 0) (haccounts : u.accounts = []) : u.IceBooks := by
    refine ⟨hbays, fun _ => horders, fun b o ho => ?_, by omega, fun _ => ⟨fun a ha => ?_, ?_⟩⟩
    · rw [horders] at ho
      cases ho
    · rw [show u.accountTable.accounts = [] from haccounts] at ha
      cases ha
    · simp [hreservation, State.stockReserved, horders]
  refine exec_keeps (P := State.IceBooks) (fun _ _ h => h.iceBooks) (fun s _ hfree hs => ?_) (fun s _ hs => ?_) (fun s _ _ => ?_)
    (fun s ha hs => ?_) h hs
  · obtain ⟨-, hidle, -, -⟩ := s.inFlight_eq_false_iff.mp hfree
    refine hempty (fun b => ?_) (fun b => ?_) (by simp) (by simp) (by simp [State.accounts, AccountTable.empty])
    · rw [State.clearRecords_bay]
      exact (hs.1 b).clear
    · rw [State.clearRecords_bay]
      exact Option.isNone_iff_eq_none.mp ((hs.1 b).1.mpr (hidle b))
  · refine ⟨fun b => ?_, fun _ b => ?_, fun b o ho => ?_, by simpa using hs.2.2.2.1, fun ha => ?_⟩
    · rw [State.loseVolatile_bay]
      exact Bay.Sound.fresh
    · rw [State.loseVolatile_bay]
      rfl
    · rw [State.loseVolatile_bay] at ho
      cases ho
    · simp [Supply.lose] at ha
  · refine hempty (fun b => ?_) (fun b => ?_) rfl rfl rfl
    · rw [State.bay_powered, State.coldClear_bay]
      exact Bay.Sound.fresh
    · rw [State.bay_powered, State.coldClear_bay]
      rfl
  · have horders (b : Fin 4) : (s.bay b).order = none := hs.2.1 (Supply.trading_eq_false_iff.mpr (.inl ha)) b
    have hbay (b : Fin 4) : (s.warmReconcile.powered .powerOnWarm).bay b = s.bay b := by
      rw [State.bay_powered, State.warmReconcile_bay]
    refine ⟨fun b => hbay b ▸ hs.1 b, fun _ b => hbay b ▸ horders b, fun b o ho => ?_, by simpa using hs.2.2.2.1,
      fun _ => ⟨fun a ha => ?_, ?_⟩⟩
    · rw [hbay, horders] at ho
      cases ho
    · have hzero : a.reserved = 0 := by
        obtain ⟨b, -, rfl⟩ := List.mem_map.mp ha
        rfl
      rw [hzero, State.chargesOf_eq_zero]
      intro b o ho
      rw [hbay, horders] at ho
      cases ho
    · simp [State.stockReserved, hbay, horders]

/-- One millisecond leaves the claims of the bays. -/
theorem State.tick_iceBooks {s : State} (hs : s.IceBooks) : s.tick.IceBooks := by
  refine hs.congr (fun b => s.tick_bay b ▸ (hs.1 b).tick) (fun b => ?_) (fun ht => .inl ?_) (by simp [Supply.tick])
    (heads_congr (by simp)) (by simpa using hs.2.2.2.1) (by simp)
  · rw [claim, tick_bay]
    rfl
  · simpa [trading, Supply.tick, Supply.trading, Supply.inHold] using ht

/-- Settles O15: every elementary change keeps the books. -/
theorem stepKeepsTheIceBooks : Obligations.StepKeepsTheIceBooks := by
  intro s t hs h
  exact step_keeps (P := State.IceBooks) (fun _ _ hs => hs) (fun _ hs => State.tick_iceBooks hs) (fun _ _ _ h => exec_iceBooks h) h hs

end Sys2Proof.Machine
end

section
/-! PROOF. The weigh lanes (chapter 1): settings, zero, frames, silence, the stability timer and a stable weighing. -/

namespace Sys2Proof.Machine

/-- A change of a lane that keeps its record changes nothing. -/
theorem State.modLane_of_fixed {s : State} {i : Fin 8} {f : Lane → Lane} (h : f (s.lane i) = s.lane i) : s.modLane i f = s := by
  unfold State.lane at h
  rw [State.modLane, h]
  simp

/-! ## LANE SET (R15) -/

/-- Operands of LANE SET in their ranges. -/
theorem laneSet_of_ranges {lane enable k band m : Nat} {i : Fin 8} (hi : unitIndex? 8 lane = some i) (henable : enable ≤ 1)
    (hk : k ≤ 4) (hband : band ≤ 3) (hm : 2 ≤ m) (hm' : m ≤ 15) (s : State) :
    laneSet lane enable k band m s = laneSetOn i (enable == 1) k band m s := by
  have hin : ¬ (1 < enable ∨ 4 < k ∨ 3 < band ∨ m < 2 ∨ 15 < m) := by omega
  simp only [laneSet, hi, if_neg hin]

/-- A lane in use that is disabled: a pending weighing ends LANE_OFF first. -/
theorem laneSetOn_disable {s : State} {i : Fin 8} (h : (s.lane i).state ≠ .off) (k band m : Nat) :
    laneSetOn i false k band m s =
      accept ((s.failWeighing i .laneOff).modLane i fun l => (l.withSettings false k band m).enterOff) := by
  cases hs : (s.lane i).state with
  | off => exact absurd hs h
  | settling | active | fault => simp only [laneSetOn, hs]

/-- A lane in SETTLING or ACTIVE that stays enabled. -/
theorem laneSetOn_settle {s : State} {i : Fin 8} (h : (s.lane i).state = .settling ∨ (s.lane i).state = .active) (k band m : Nat) :
    laneSetOn i true k band m s = laneResettle i k band m s := by
  rcases h with h | h <;> simp only [laneSetOn, h]

/-- Settles O19, row by row of R15. -/
theorem laneSetActsAsR15 : Obligations.LaneSetActsAsR15 := by
  intro lane k band m i s ht hi hk hband hm hm'
  have hset (enable : Nat) (henable : enable ≤ 1) := laneSet_of_ranges hi henable hk hband hm hm' s
  have hinUse (h : (s.lane i).state = .settling ∨ (s.lane i).state = .active ∨ (s.lane i).state = .fault) :
      (s.lane i).state ≠ .off := by
    rcases h with h | h | h <;> simp [h]
  have hsame (h : ¬ ((s.lane i).k ≠ k ∨ (s.lane i).band ≠ band ∨ (s.lane i).m ≠ m)) :
      (s.lane i).k = k ∧ (s.lane i).band = band ∧ (s.lane i).m = m := by
    omega
  refine ⟨fun cal hoff hcal => ?_, fun hoff hcal => ?_, fun hoff => ?_, fun huse hnone => ?_, fun p lot huse hp hlot => ?_,
    fun hlive hp hdiffer => ?_, fun hlive hnone hdiffer => ?_, fun hfault => ?_, fun huse hen hdiffer => ?_⟩
  · refine exec_judged rfl ht ?_
    rw [hset 1 le_rfl]
    simp only [laneSetOn, hoff, hcal, BEq.rfl]
    rfl
  · refine exec_judged rfl ht ?_
    rw [hset 1 le_rfl]
    simp only [laneSetOn, hoff, hcal, BEq.rfl]
    rfl
  · refine exec_judged rfl ht ?_
    rw [hset 0 (Nat.zero_le 1)]
    simp only [laneSetOn, hoff]
    rfl
  · refine exec_judged rfl ht ?_
    rw [hset 0 (Nat.zero_le 1)]
    refine (laneSetOn_disable (hinUse huse) k band m).trans ?_
    rw [State.failWeighing_none hnone]
    rfl
  · refine exec_judged rfl ht ?_
    rw [hset 0 (Nat.zero_le 1)]
    refine (laneSetOn_disable (hinUse huse) k band m).trans ?_
    rw [State.failWeighing, State.endWeighing_ended hp hlot (by decide), State.weighingEnded, State.modLane_modLane]
    rfl
  · refine exec_judged rfl ht ?_
    rw [hset 1 le_rfl]
    refine (laneSetOn_settle hlive k band m).trans ?_
    rw [laneResettle, if_neg (by omega), if_pos hp]
    rfl
  · refine exec_judged rfl ht ?_
    rw [hset 1 le_rfl]
    refine (laneSetOn_settle hlive k band m).trans ?_
    rw [laneResettle, if_neg (by omega), if_neg (by simp [hnone])]
    rfl
  · refine exec_judged rfl ht ?_
    rw [hset 1 le_rfl]
    simp only [laneSetOn, hfault, BEq.rfl]
    rfl
  · refine exec_judged rfl ht ?_
    rw [hset 1 le_rfl]
    obtain ⟨h1, h2, h3⟩ := hsame hdiffer
    by_cases hf : (s.lane i).state = .fault
    · simp only [laneSetOn, hf, BEq.rfl]
      rw [State.modLane_of_fixed]
      · rfl
      · simp only [Lane.withSettings, ← hen, ← h1, ← h2, ← h3]
    · refine (laneSetOn_settle (by tauto) k band m).trans ?_
      rw [laneResettle, if_pos ⟨h1, h2, h3⟩]
      rfl

/-! ## LANE ZERO (R14) -/

/-- Settles O20: none of R14's refusals applies. -/
theorem laneZeroSetsZ : Obligations.LaneZeroSetsZ := by
  intro lane i r s ht hi hoff hnone hstable hr hmax
  refine exec_judged rfl ht ?_
  simp only [laneZero, hi, if_neg hoff, hnone, hstable, hr, if_neg (Nat.not_lt.mpr hmax)]
  rfl

/-! ## Good frames at a lane in SETTLING or ACTIVE (R1, R6 to R13) -/

/-- A good frame restarts the silence timer and ends the bad run; an overrange one does no more than R7, any other is a sample. -/
theorem State.goodSample_live {s : State} {i : Fin 8} (h : (s.lane i).state = .settling ∨ (s.lane i).state = .active)
    (overFlag : Bool) (count : Int) :
    s.goodSample i overFlag count =
      if overFlag then s.modLane i fun l => { l with badRun := 0, silence := some Config.silenceTime }.overrangeFrame
      else (s.modLane i fun l => { l with badRun := 0, silence := some Config.silenceTime }).acceptSample i count := by
  rcases h with h | h <;> simp only [goodSample, h, modLane_modLane]

/-- Zero tracking needs a stable lane (R13). -/
theorem Lane.trackZero_of_unstable {l : Lane} (h : l.stable = false) (cal : LaneCal) : l.trackZero cal = l := by
  unfold trackZero
  cases l.reading <;> simp [h]

/-- A sample that completes no pending weighing: the new value, and zero tracking. -/
theorem State.acceptSample_idle {s : State} {i : Fin 8} {count : Int}
    (h : (s.lane i).weighing = none ∨ (((s.lane i).accept count).newValue (s.store.laneCal i)).stable = false) :
    s.acceptSample i count =
      s.modLane i fun l => ((l.accept count).newValue (s.store.laneCal i)).trackZero (s.store.laneCal i) := by
  by_cases hw : (s.lane i).weighing = none
  · simp only [acceptSample, hw, Option.isSome_none, Bool.false_eq_true, if_false, modLane_modLane]
  · have hunstable := h.resolve_left hw
    simp only [acceptSample, Option.isSome_iff_ne_none.mpr hw, if_true, lane_modLane_self, hunstable, Bool.false_eq_true, if_false]
    exact modLane_congr (Lane.trackZero_of_unstable hunstable _).symm

/-- A power of two up to 16 that the samples present reach and its double does not, or 16 (R8). -/
theorem windowPower_eq {p n : Nat} (hp : p ∈ [1, 2, 4, 8, 16]) (hle : p ≤ n) (hlt : n < 2 * p ∨ p = 16) : windowPower n = p := by
  simp only [List.mem_cons, List.not_mem_nil, or_false] at hp
  unfold windowPower
  rcases hp with rfl | rfl | rfl | rfl | rfl <;> split_ifs <;> omega

/-- The filtered value of a window whose largest power of two is `p` (R8). -/
theorem filteredOf_eq {p : Nat} {w : List Int} (h : windowPower w.length = p) :
    filteredOf w = ((lastN p w).sum + (p / 2 : Nat)) / (p : Int) := by
  subst h
  rfl

/-- A sample enters a lane in SETTLING or ACTIVE: the 32nd of a settling makes it ACTIVE (R6). -/
theorem Lane.accept_live {l : Lane} (h : l.state = .settling ∨ l.state = .active) (count : Int) :
    l.accept count =
      { l with
        window := lastN (2 ^ l.k) (l.window ++ [count])
        samples := if l.state = .settling then l.samples + 1 else l.samples
        state :=
          if l.state = .settling ∧ (if l.state = .settling then l.samples + 1 else l.samples) < 32 then .settling else .active } := by
  rcases h with h | h
  · simp only [accept, h, if_true, true_and, ← Nat.not_lt, ite_not]
  · simp [accept, h]

/-- The value of a sample with zero tracking: Z follows F within half a division, as far as Max/50 (R12, R13). -/
theorem Lane.trackZero_newValue (l : Lane) (cal : LaneCal) :
    let f := filteredOf l.window
    let g := gramsOf cal (f - l.zero)
    let h := lastN l.m (l.history ++ [g])
    let still :=
      l.state == .active && h.length == l.m && !overloadAt cal g && !underloadAt cal g &&
        decide (spread h ≤ (bandDivisions l.band * cal.e : Nat))
    let offset := gramsOf cal (f - cal.zero)
    (l.newValue cal).trackZero cal =
      { l with
        reading := some { filtered := f, gram := g, legal := legalOf cal g }
        overload := overloadAt cal g, underload := underloadAt cal g, history := h, stable := still
        zero := if still ∧ 2 * g.natAbs ≤ cal.e ∧ 50 * offset.natAbs ≤ cal.max then f else l.zero
        tracking :=
          if still ∧ 2 * g.natAbs ≤ cal.e ∧ 50 * offset.natAbs ≤ cal.max then offset else gramsOf cal (l.zero - cal.zero)
        zeroLimit := l.zeroLimit || (still && decide (2 * g.natAbs ≤ cal.e) && decide (cal.max < 50 * offset.natAbs)) } := by
  intro f g h still offset
  have hvalue :
      l.newValue cal =
        { l with
          reading := some { filtered := f, gram := g, legal := legalOf cal g }
          tracking := gramsOf cal (l.zero - cal.zero)
          overload := overloadAt cal g, underload := underloadAt cal g, history := h, stable := still } := rfl
  rw [hvalue, trackZero]
  generalize still = still
  cases still with
  | false => simp
  | true =>
    by_cases hnear : 2 * g.natAbs ≤ cal.e
    · by_cases hmax : 50 * (gramsOf cal (f - cal.zero)).natAbs ≤ cal.max
      · simp [hnear, hmax, offset]
      · simp [hnear, hmax, Nat.lt_of_not_le hmax, offset]
    · simp [hnear]

/-- Settles O21: the sample's value by its chapters' formulas. -/
theorem goodSampleWeighs : Obligations.GoodSampleWeighs := by
  intro i status count s l ht hparity hlive
  have hexec : exec (.sampleFrame i status count) s = .next (s.goodSample i (overrange status) count.toInt) := by
    rw [exec_event rfl ht, hparity, if_pos rfl]
  rw [State.goodSample_live hlive] at hexec
  refine ⟨fun hover => ?_, fun p => ?_⟩
  · rw [hexec, overrange, hover, if_pos rfl]
    rfl
  · extract_lets cal samples state w f g h heavy light still offset
    intro hover hidle hp hle hlt
    rw [hexec, overrange, hover, if_neg Bool.false_ne_true]
    have hwindow : windowPower w.length = p := windowPower_eq hp hle hlt
    have hf : filteredOf (lastN (2 ^ l.k) (l.window ++ [count.toInt])) = f := filteredOf_eq hwindow
    have hvalue := Lane.trackZero_newValue ({ l with badRun := 0, silence := some Config.silenceTime }.accept count.toInt) cal
    rw [Lane.accept_live (l := { l with badRun := 0, silence := some Config.silenceTime }) hlive count.toInt] at hvalue
    simp only [hf] at hvalue
    have hstable :
        (({ l with badRun := 0, silence := some Config.silenceTime }.accept count.toInt).newValue cal).stable = still := by
      rw [Lane.accept_live (l := { l with badRun := 0, silence := some Config.silenceTime }) hlive count.toInt]
      simp only [Lane.newValue, Lane.readingOf, Lane.isStable, hf]
      rfl
    have hsample :
        (s.modLane i fun l => { l with badRun := 0, silence := some Config.silenceTime }).acceptSample i count.toInt =
          s.modLane i fun l =>
            (({ l with badRun := 0, silence := some Config.silenceTime }.accept count.toInt).newValue cal).trackZero cal := by
      rw [State.acceptSample_idle, State.modLane_modLane]
      · rfl
      · rw [State.lane_modLane_self]
        exact hidle.imp id fun h => hstable.trans h
    rw [hsample]
    refine congrArg Host.Outcome.next (State.modLane_congr ?_)
    rw [Lane.accept_live (l := { s.lane i with badRun := 0, silence := some Config.silenceTime }) hlive count.toInt]
    exact hvalue

/-! ## Bad frames and silence (R1 to R5, R178) -/

/-- A lane without a pending weighing enters FAULT at once. -/
theorem State.laneFault_of_none {s : State} {i : Fin 8} (h : (s.lane i).weighing = none) (cause : FaultCause) :
    s.laneFault i cause = s.modLane i fun l => l.enterFault cause := by
  rw [laneFault, failWeighing_none h]

/-- A lane with a pending weighing enters FAULT after the weighing has ended. -/
theorem State.laneFault_of_some {s : State} {i : Fin 8} {p : PendingWeighing} {lot : Lot} (h : (s.lane i).weighing = some p)
    (hl : s.lot? p.key = some lot) (cause : FaultCause) :
    s.laneFault i cause = (s.weighingEnded i p lot .laneFault none).modLane i fun l => l.enterFault cause := by
  rw [laneFault, failWeighing, endWeighing_ended h hl (by decide)]

/-- The bad frame that does not reach the eighth in a row, or does. -/
theorem State.badSample_live {s : State} {i : Fin 8} (h : (s.lane i).state = .settling ∨ (s.lane i).state = .active) :
    s.badSample i =
      if 8 ≤ countUp 8 (s.lane i).badRun then (s.modLane i fun l => { l with badRun := countUp 8 l.badRun }).laneFault i .parity
      else s.modLane i fun l => { l with badRun := countUp 8 l.badRun } := by
  rcases h with h | h <;> simp only [badSample, h, lane_modLane_self]

/-- The expiry of a silence timer that has run out, in SETTLING or ACTIVE (R2). -/
theorem State.silenceExpiry_live {s : State} {i : Fin 8} (h : (s.lane i).state = .settling ∨ (s.lane i).state = .active)
    (hs : (s.lane i).silence = some 0) :
    s.silenceExpiry i = (s.laneFault i .silent).modLane i fun l => { l with silence := some Config.silenceTime } := by
  rcases h with h | h <;> simp [silenceExpiry, h, hs]

/-- A change of the lane's own record commutes with the end of its weighing. -/
theorem State.weighingEnded_modLane (s : State) (i : Fin 8) (p : PendingWeighing) (lot : Lot) (result : WeighResult)
    (gross : Option Int) (f : Lane → Lane) :
    (s.modLane i f).weighingEnded i p lot result gross =
      ((s.modLot p.key fun x => { x with pending := none }).modAccount lot.boat fun a =>
          { a with committed := a.committed.set lot.crateType (a.committed[lot.crateType] - p.crates) }).modLane i fun l =>
        { f l with
          weighing := none, attention := true, last := some { result, gross, key := p.key, number := none, ticket := none } } :=
  modLane_modLane ((s.modLot p.key fun x => { x with pending := none }).modAccount lot.boat fun a =>
    { a with committed := a.committed.set lot.crateType (a.committed[lot.crateType] - p.crates) }) i f _

/-- Settles O22, by the lane's state. -/
theorem badFramesAndSilenceLeadToFault : Obligations.BadFramesAndSilenceLeadToFault := by
  intro i status count s ht
  extract_lets l live fault faults
  refine ⟨fun c hc => ?_, fun hparity => ?_, fun hsilence => ?_, fun hsilence => ⟨fun hlive => ?_, fun hfault => ?_⟩⟩
  · have hexec : exec c s = .next (s.badSample i) := by
      rcases hc with rfl | ⟨rfl, hparity⟩
      · exact exec_event (c := .malformedLineFrame (.lane i)) rfl ht
      · rw [exec_event rfl ht, hparity, if_neg Bool.false_ne_true]
    refine ⟨fun (hoff : (s.lane i).state = .off) => ?_, fun hlive (hlt : (s.lane i).badRun < 7) => ?_,
      fun hlive (hle : 7 ≤ (s.lane i).badRun) => ?_, fun (hfault : (s.lane i).state = .fault) => ?_⟩
    · rw [hexec]
      simp only [State.badSample, hoff]
    · rw [hexec, State.badSample_live hlive, if_neg (by unfold countUp; omega)]
      refine congrArg Host.Outcome.next (State.modLane_congr ?_)
      simp only [countUp, Nat.min_eq_left (show (s.lane i).badRun + 1 ≤ 8 by omega)]
    · have hrun : countUp 8 (s.lane i).badRun = 8 := by unfold countUp; omega
      rw [State.badSample_live hlive, if_pos (by omega)] at hexec
      refine ⟨fun (hnone : (s.lane i).weighing = none) => ?_, fun p lot (hp : (s.lane i).weighing = some p) hl => ?_⟩
      · rw [hexec, State.laneFault_of_none (by simpa using hnone), State.modLane_modLane]
        refine congrArg Host.Outcome.next (State.modLane_congr ?_)
        simp only [hrun]
        rfl
      · rw [hexec, State.laneFault_of_some (by simpa using hp) (by simpa using hl), State.weighingEnded_modLane,
          State.weighingEnded, State.modLane_modLane, State.modLane_modLane]
        refine congrArg Host.Outcome.next (State.modLane_congr ?_)
        simp only [State.lane_modAccount_frame, State.lane_modLot_frame, hrun]
        rfl
    · rw [hexec]
      simp only [State.badSample, hfault]
      rfl
  · have hexec : exec (.sampleFrame i status count) s = .next (s.goodSample i (overrange status) count.toInt) := by
      rw [exec_event rfl ht, hparity, if_pos rfl]
    refine ⟨fun (hoff : (s.lane i).state = .off) => ?_, fun (hfault : (s.lane i).state = .fault) (hlt : (s.lane i).goodRun < 15) => ?_,
      fun (hfault : (s.lane i).state = .fault) (hle : 15 ≤ (s.lane i).goodRun) => ?_⟩
    · rw [hexec]
      simp only [State.goodSample, hoff]
    · rw [hexec]
      simp only [State.goodSample, hfault, State.modLane_modLane]
      refine congrArg Host.Outcome.next (State.modLane_congr ?_)
      rw [Lane.recover, if_neg (by simp only; omega)]
    · rw [hexec]
      simp only [State.goodSample, hfault, State.modLane_modLane]
      refine congrArg Host.Outcome.next (State.modLane_congr ?_)
      rw [Lane.recover, if_pos (by simp only; omega)]
      rfl
  · rw [exec_event rfl ht, State.silenceExpiry, (runOut_eq_false_iff _).mpr hsilence, Bool.not_false, if_pos rfl]
  · have hexec : exec (.silenceTimerExpiry i) s = .next _ := exec_event rfl ht
    rw [State.silenceExpiry_live hlive hsilence] at hexec
    refine ⟨fun (hnone : (s.lane i).weighing = none) => ?_, fun p lot (hp : (s.lane i).weighing = some p) hl => ?_⟩
    · rw [hexec, State.laneFault_of_none hnone, State.modLane_modLane]
      rfl
    · rw [hexec, State.laneFault_of_some hp hl, State.modLane_modLane]
      rfl
  · rw [exec_event rfl ht, State.silenceExpiry, (runOut_iff _).mpr hsilence, Bool.not_true, if_neg Bool.false_ne_true]
    have hfault' : (s.lane i).state = .fault := hfault
    simp only [hfault']

/-! ## The stability timer (R18) -/

/-- Settles O23: a timer that has not run out does nothing, one that has ends the weighing. -/
theorem stabilityExpiryEndsTheWeighing : Obligations.StabilityExpiryEndsTheWeighing := by
  refine ⟨fun i s ht hrunning => ?_, fun i p lot s ht hp htimer hl => ?_⟩
  · have hrun : runOut ((s.lane i).weighing.map (·.timer)) = false := by
      rw [runOut_eq_false_iff]
      intro hzero
      obtain ⟨p, hp, htimer⟩ := Option.map_eq_some_iff.mp hzero
      exact hrunning p hp htimer
    rw [exec_event rfl ht, State.stabilityExpiry, hrun, Bool.not_false, if_pos rfl]
  · have hrun : runOut ((s.lane i).weighing.map (·.timer)) = true := by simp [hp, htimer]
    rw [exec_event rfl ht, State.stabilityExpiry, hrun, Bool.not_true, if_neg Bool.false_ne_true, State.failWeighing,
      State.endWeighing_ended hp hl (by split <;> decide)]
    refine congrArg Host.Outcome.next (State.modLane_congr ?_)
    simp only [State.lane_modAccount_frame, State.lane_modLot_frame]
    rfl

/-! ## A stable weighing (R17, R31) -/

/-- The sample of a lane with a pending weighing that its value makes stable. -/
theorem State.acceptSample_held {s : State} {i : Fin 8} {count : Int} {r : Reading} (hw : (s.lane i).weighing.isSome = true)
    (hstable : (((s.lane i).accept count).newValue (s.store.laneCal i)).stable = true)
    (hr : (((s.lane i).accept count).newValue (s.store.laneCal i)).reading = some r) :
    s.acceptSample i count =
      (s.modLane i fun l => (l.accept count).newValue (s.store.laneCal i)).completeWeighing i r.legal := by
  simp only [acceptSample, hw, if_true, lane_modLane_self, hstable, hr, Option.map_some, Option.getD_some]

theorem Lane.newValue_accept_weighing (l : Lane) (count : Int) (cal : LaneCal) :
    ((l.accept count).newValue cal).weighing = l.weighing := by
  unfold accept
  split <;> rfl

theorem Lane.newValue_accept_tickets (l : Lane) (count : Int) (cal : LaneCal) :
    ((l.accept count).newValue cal).tickets = l.tickets := by
  unfold accept
  split <;> rfl

/-- Changes of a lane and of a lot commute. -/
theorem State.modLot_modLane (s : State) (i : Fin 8) (f : Lane → Lane) (key : Key) (g : Lot → Lot) :
    (s.modLane i f).modLot key g = (s.modLot key g).modLane i f := rfl

/-- A taken weighing leaves the lane with its result (R19). -/
theorem State.endWeighing_taken {s : State} {i : Fin 8} {p : PendingWeighing} (hp : (s.lane i).weighing = some p)
    (gross : Option Int) (number : Option Nat) (ticket : Option TicketStatus) :
    s.endWeighing i .taken gross number ticket =
      s.modLane i fun l =>
        { l with weighing := none, last := some { result := .taken, gross, key := p.key, number, ticket }, attention := true } := by
  simp only [endWeighing, hp, if_true]

/-- Settles O24: the sample's value stands before the weighing completes. -/
theorem stableWeighingCompletes : Obligations.StableWeighingCompletes := by
  intro i status count p lot r s
  extract_lets cal src l' room
  intro ht hactive hp hparity hover hl hstable hr
  have hweighing : l'.weighing = some p :=
    (Lane.newValue_accept_weighing { s.lane i with badRun := 0, silence := some 250 } count.toInt cal).trans hp
  have htickets : l'.tickets = (s.lane i).tickets :=
    Lane.newValue_accept_tickets { s.lane i with badRun := 0, silence := some 250 } count.toInt cal
  have hexec : exec (.sampleFrame i status count) s = .next ((s.modLane i fun _ => l').completeWeighing i r.legal) := by
    rw [exec_event rfl ht, hparity, if_pos rfl, State.goodSample_live (.inr hactive), overrange, hover, if_neg Bool.false_ne_true,
      State.acceptSample_held (r := r), State.modLane_modLane]
    · exact congrArg (fun u : State => Host.Outcome.next (u.completeWeighing i r.legal)) 
        (State.modLane_congr (g := fun _ => l') rfl)
    · simp [hp]
    · rw [State.lane_modLane_self]
      exact hstable
    · rw [State.lane_modLane_self]
      exact hr
  have hend (result : WeighResult) (h : result ≠ .taken) (gross : Option Int) :
      (s.modLane i fun _ => l').endWeighing i result gross none none =
        (s.modLane i fun _ => l').weighingEnded i p lot result gross :=
    State.endWeighing_ended (by simpa using hweighing) (by simpa using hl) h gross
  have hgross : ((s.lot? p.key).bind (·.gross)).getD 0 = lot.gross.getD 0 := by rw [hl, Option.bind_some]
  refine ⟨fun hunder => ?_, fun hmin hlimit => ?_, fun hmin hmax => ?_⟩
  · rw [hexec, ← hend _ (by decide)]
    simp only [State.completeWeighing, State.lane_modLane_self, hweighing]
    exact congrArg _ (if_pos hunder)
  · rw [hexec, ← hend _ (by decide)]
    simp only [State.completeWeighing, State.lane_modLane_self, hweighing]
    refine congrArg _ ((if_neg (not_lt.mpr hmin)).trans (if_pos ?_))
    simpa [hgross] using hlimit
  · rw [hexec]
    simp only [State.completeWeighing, State.lane_modLane_self, hweighing]
    refine congrArg _ ((if_neg (not_lt.mpr hmin)).trans ((if_neg ?_).trans ?_))
    · simpa [hgross] using hmax
    · have hl' : (s.modLane i fun _ => l').lot? p.key = some lot := hl
      have htaken (ticket : TicketStatus) :=
        State.endWeighing_taken (s := (s.modLane i fun _ => l').modLot p.key fun x =>
            x.enter { lane := unitNumber i, gross := r.legal.toNat, crates := p.crates } cal.e)
          (i := i) (p := p) (by simpa using hweighing) (some r.legal) (some (lot.weighings.length + 1)) (some ticket)
      by_cases hroom : room
      · have hfull : decide (Config.maxTickets ≤ (s.lane i).tickets.length) = false := decide_eq_false (not_le.mpr hroom)
        simp only [hl', Option.map_some, Option.getD_some, htickets, hfull, Bool.false_eq_true, if_false, if_pos hroom]
        refine (congrArg (fun u : State => u.modLane i _) (htaken .queued)).trans ?_
        rw [State.modLane_modLane, State.modLot_modLane, State.modLane_modLane, ← htickets]
        exact State.modLane_congr rfl
      · have hfull : decide (Config.maxTickets ≤ (s.lane i).tickets.length) = true := decide_eq_true (not_lt.mp hroom)
        simp only [hl', Option.map_some, Option.getD_some, htickets, hfull, if_true, if_neg hroom]
        refine (htaken .dropped).trans ?_
        rw [State.modLot_modLane, State.modLane_modLane, ← htickets]
        exact State.modLane_congr rfl

end Sys2Proof.Machine
end

section
/-! PROOF. The lots (chapter 2): numbering, opening, weighing, closing, queueing and retiring. -/

namespace Sys2Proof.Machine

/-! ## The search of OPEN LOT (R25) -/

/-- Part 0 of a number lives among the lots. -/
def NumberTaken (lots : List Lot) (number : Nat) : Prop := ∃ l ∈ lots, l.key = { number, part := 0 }

theorem any_key_iff_numberTaken (lots : List Lot) (number : Nat) :
    lots.any (fun l => l.key == { number, part := 0 }) = true ↔ NumberTaken lots number := by
  simp [NumberTaken]

theorem nextNumber_pos (c : Nat) : 1 ≤ nextNumber c := by unfold nextNumber; split <;> omega
theorem nextNumber_le (c : Nat) : nextNumber c ≤ 9999 := by unfold nextNumber; split <;> omega

/-- The candidates from a counter in its range run through 1 to 9,999. -/
theorem nextNumber_iterate {c : Nat} (hc : 1 ≤ c) (hc' : c ≤ 9999) (j : Nat) : nextNumber^[j] c = (c - 1 + j) % 9999 + 1 := by
  induction j with
  | zero => rw [Function.iterate_zero_apply]; omega
  | succ j ih =>
    rw [Function.iterate_succ_apply', ih]
    unfold nextNumber
    split <;> omega

/-- The first 9,999 candidates differ, whatever the counter. -/
theorem nextNumber_iterate_inj {c i j : Nat} (hij : i < j) (hj : j < 9999) : nextNumber^[i] c ≠ nextNumber^[j] c := by
  by_cases hc : 1 ≤ c ∧ c ≤ 9999
  · rw [nextNumber_iterate hc.1 hc.2, nextNumber_iterate hc.1 hc.2]
    omega
  · have hsucc (k : Nat) : nextNumber^[k + 1] c = (nextNumber c - 1 + k) % 9999 + 1 := by
      rw [Function.iterate_succ_apply, nextNumber_iterate (nextNumber_pos c) (nextNumber_le c)]
    have hpos := nextNumber_pos c
    have hle := nextNumber_le c
    obtain ⟨j, rfl⟩ : ∃ k, j = k + 1 := ⟨j - 1, by omega⟩
    cases i with
    | zero => rw [Function.iterate_zero_apply, hsucc]; omega
    | succ i => rw [hsucc, hsucc]; omega

/-- Fewer than 1,024 lots do not take 1,024 candidates. -/
theorem exists_candidate_free {lots : List Lot} (h : lots.length < 1024) (c : Nat) :
    ∃ j < 1024, ¬ NumberTaken lots (nextNumber^[j] c) := by
  by_contra hall
  push Not at hall
  let keys : List Key := (List.range 1024).map fun j => { number := nextNumber^[j] c, part := 0 }
  have hnodup : keys.Nodup := by
    refine List.Nodup.map_on (fun i hi j hj hkey => ?_) List.nodup_range
    rw [List.mem_range] at hi hj
    have hnumber := congrArg Key.number hkey
    rcases lt_trichotomy i j with hlt | rfl | hlt
    · exact absurd hnumber (nextNumber_iterate_inj hlt (by omega))
    · rfl
    · exact absurd hnumber.symm (nextNumber_iterate_inj hlt (by omega))
  have hsub : keys ⊆ lots.map (·.key) := by
    intro k hk
    obtain ⟨j, hj, rfl⟩ := List.mem_map.mp hk
    obtain ⟨l, hl, hkey⟩ := hall j (List.mem_range.mp hj)
    exact List.mem_map.mpr ⟨l, hl, hkey⟩
  have hlen := (List.subperm_of_subset hnodup hsub).length_le
  rw [List.length_map, List.length_map, List.length_range] at hlen
  omega

/-- The search ends at the first candidate whose part 0 does not live; the counter advances past it. -/
theorem searchNumber_eq {lots : List Lot} {k : Nat} :
    ∀ {fuel c : Nat} {w : Bool}, k ≤ fuel → (∀ j < k, NumberTaken lots (nextNumber^[j] c)) →
      ¬ NumberTaken lots (nextNumber^[k] c) →
        searchNumber lots fuel c w =
          (nextNumber^[k] c, nextNumber^[k + 1] c, w || decide (∃ j ≤ k, 9999 ≤ nextNumber^[j] c)) := by
  induction k with
  | zero =>
    intro fuel c w _ _ hfree
    cases fuel with
    | zero => simp [searchNumber]
    | succ fuel =>
      rw [searchNumber, if_neg (by rwa [any_key_iff_numberTaken])]
      simp
  | succ k ih =>
    intro fuel c w hfuel htaken hfree
    obtain ⟨fuel, rfl⟩ : ∃ n, fuel = n + 1 := ⟨fuel - 1, by omega⟩
    have hwrap :
        (∃ j ≤ k + 1, 9999 ≤ nextNumber^[j] c) ↔ 9999 ≤ c ∨ ∃ j ≤ k, 9999 ≤ nextNumber^[j] (nextNumber c) := by
      constructor
      · rintro ⟨_ | j, hj, h⟩
        · exact .inl h
        · exact .inr ⟨j, by omega, h⟩
      · rintro (h | ⟨j, hj, h⟩)
        · exact ⟨0, by omega, h⟩
        · exact ⟨j + 1, by omega, h⟩
    have hfirst : NumberTaken lots c := htaken 0 (by omega)
    rw [searchNumber, if_pos ((any_key_iff_numberTaken ..).mpr hfirst),
      ih (by omega) (fun j hj => htaken (j + 1) (by omega)) hfree]
    simp only [hwrap, Bool.decide_or, Bool.or_assoc, Function.iterate_succ_apply]

/-- With room in the table the search finds a number whose part 0 does not live. -/
theorem searchNumber_free {lots : List Lot} (h : lots.length < 1024) (c : Nat) (w : Bool) :
    ¬ NumberTaken lots (searchNumber lots Config.maxLots c w).1 := by
  classical
  have hex := exists_candidate_free h c
  have hfind := Nat.find_spec hex
  have heq := searchNumber_eq (lots := lots) (k := Nat.find hex) (fuel := Config.maxLots) (c := c) (w := w)
    (le_of_lt hfind.1)
    (fun j hj => by
      have hmin := Nat.find_min hex hj
      by_contra hfree
      exact hmin ⟨lt_trans hj hfind.1, hfree⟩)
    hfind.2
  rw [heq]
  exact hfind.2

/-- Settles O25: the candidates are the counter's number and those after it. -/
theorem openLotTakesTheNextNumber : Obligations.OpenLotTakesTheNextNumber := by
  intro boat species crateType skipped sp ct a s
  extract_lets number lot u
  intro ht hsp hct hboat hboat' ha hkind hstate hspecies htare hdeposit hroom hcounter hcounter' htaken hfree
  have hnumber (j : Nat) : nextNumber^[j] s.lotTable.counter = number j := nextNumber_iterate hcounter hcounter' j
  have hskipped : skipped < 1024 := by
    obtain ⟨j, hj, hjfree⟩ := exists_candidate_free hroom s.lotTable.counter
    by_contra hge
    exact hjfree (by rw [hnumber]; exact htaken j (by omega))
  have hwrap : (∃ j ≤ skipped, 9999 ≤ number j) ↔ 9999 ≤ s.lotTable.counter + skipped := by
    constructor
    · rintro ⟨j, hj, hle⟩
      have hle' : 9999 ≤ (s.lotTable.counter - 1 + j) % 9999 + 1 := hle
      omega
    · intro hle
      exact ⟨9999 - s.lotTable.counter, by omega, show 9999 ≤ (s.lotTable.counter - 1 + _) % 9999 + 1 by omega⟩
  have hsearch :
      searchNumber s.lotTable.lots Config.maxLots s.lotTable.counter s.lotTable.dayWrap =
        (number skipped, number (skipped + 1), s.lotTable.dayWrap || decide (9999 ≤ s.lotTable.counter + skipped)) := by
    rw [searchNumber_eq (le_of_lt hskipped) (fun j hj => by rw [hnumber]; exact htaken j hj)
      (by rw [hnumber]; rintro ⟨l, hl, hkey⟩; exact hfree l hl hkey)]
    simp only [hnumber, hwrap]
  have hboatOk : accountNumberOk boat = true := decide_eq_true ⟨hboat, hboat'⟩
  refine exec_judged rfl ht ?_
  simp only [openLot, hsp, hct, hboatOk, ha, hkind, hstate, hsearch, Option.isNone_eq_false_iff.mpr hspecies,
    Option.isNone_eq_false_iff.mpr htare, Option.isNone_eq_false_iff.mpr hdeposit, reduceCtorEq, Bool.not_true, Bool.or_false,
    Bool.false_eq_true, if_false, if_neg (Nat.not_le.mpr hroom)]
  rfl

/-! ## Requests that name a lot -/

/-- A key in its ranges that a lot has. -/
theorem onLot_of_lot {number part : Nat} {lot : Lot} {s : State} (hnumber : 1 ≤ number) (hnumber' : number ≤ 9999)
    (hpart : part ≤ 7) (hl : s.lot? { number, part } = some lot) (f : Lot → State → State × Reply) :
    onLot number part f s = f lot s := by
  have hkey : keyOk number part = true := decide_eq_true ⟨hnumber, hnumber', hpart⟩
  simp only [onLot, hkey, hl, Bool.not_true, Bool.false_eq_true, if_false]

/-- Settles O26: none of R29's refusals applies. -/
theorem takeWeighingCommitsAndHandsIn : Obligations.TakeWeighingCommitsAndHandsIn := by
  intro number part lane c i lot a s ht hn hn' hp hi hc hc' hl hstate hpending hnone hactive hroom hsum hdivision ha hfree
  have hdivision' : lot.division.getD (s.store.laneCal i).e = (s.store.laneCal i).e := by
    rcases hdivision with h | h <;> rw [h] <;> rfl
  have hfree' : ¬ ((s.account? lot.boat).map (·.free lot.crateType)).getD 0 < c := by
    rw [ha]
    exact Nat.not_lt.mpr hfree
  have hwant : ¬ (c < 1 ∨ 99 < c) := by omega
  refine exec_judged rfl ht ?_
  simp only [takeWeighing, hi, if_neg hwant]
  rw [onLot_of_lot hn hn' hp hl]
  simp only [takeWeighingOn, hstate, hpending, hnone, hactive, Option.isSome_none, ne_eq, not_true_eq_false, Bool.false_eq_true,
    if_false, if_neg (Nat.not_le.mpr hroom), if_neg (Nat.not_lt.mpr hsum), hdivision', if_neg hfree']
  rw [State.handIn, State.lot?_key hl]
  rfl

/-- Settles O27: the valuation of R34 from the records that the species and the crate type name. -/
theorem closeLotValuesTheLot : Obligations.CloseLotValuesTheLot := by
  intro number part t g e sp snap lot s ht hn hn' hp hl hstate hpending hweighings hgross hdivision hsp hsnap htare
  extract_lets tare rest allowance net data
  have hvaluation : s.valuation lot = ({ tare, allowance, net }, snap) := by
    simp only [State.valuation, hsp, Option.bind_some, hsnap, htare, hgross, hdivision, Option.getD_some]
    rfl
  have hjudged :
      onLot number part closeLotOn s =
        if net < 20 * (e : Int) then (s, { code := .underMinimum, data })
        else
          accept
            (s.modLot { number, part } fun l =>
              { l with state := .ready, deductions := some { tare, allowance }, net := some net, snapshot := some snap })
            data := by
    rw [onLot_of_lot hn hn' hp hl]
    simp only [closeLotOn, hstate, hpending, hvaluation, hdivision, Option.isSome_none, ne_eq, not_true_eq_false,
      Bool.false_eq_true, if_false, List.isEmpty_iff, if_neg hweighings, Option.getD_some, State.lot?_key hl]
    rfl
  rw [exec_request rfl ht, hjudged]
  split <;> rfl

/-- Settles O28: a lot retires whether it is cancelled, returned or retired. -/
theorem retirementsRemoveTheLot : Obligations.RetirementsRemoveTheLot := by
  intro number part lot s ht hn hn' hp hl
  extract_lets uncommitted gone
  have hkey : lot.key = { number, part } := State.lot?_key hl
  have hunsold (h : lot.state ≠ .sold) : s.retire lot = gone uncommitted := by
    rw [State.retire, if_neg h, hkey]
    rfl
  refine ⟨fun hstate hpending => ?_, fun hstate => ?_, fun hstate hlast => ?_⟩
  · refine exec_judged rfl ht ?_
    rw [onLot_of_lot hn hn' hp hl, cancelLotOn, if_neg (not_not.mpr hstate), hpending, hunsold (by simp [hstate])]
    rfl
  · have hwaiting : lot.isWaiting = true := by rcases hstate with h | h <;> simp [Lot.isWaiting, h]
    refine exec_judged rfl ht ?_
    rw [onLot_of_lot hn hn' hp hl, returnLotOn, hwaiting, hunsold (by rcases hstate with h | h <;> simp [h])]
    rfl
  · have hfamily : ¬ (lot.key.part = 0 ∧ s.familyLives lot.key = true) := by
      rw [hkey]
      rintro ⟨hpart, hlives⟩
      obtain ⟨l, hl', hsame⟩ := List.any_eq_true.mp hlives
      rw [Bool.and_eq_true, beq_iff_eq, bne_iff_ne] at hsame
      obtain ⟨hnumber, hne⟩ := hsame
      have hzero := hlast.resolve_left (not_not.mpr hpart) l hl' hnumber
      exact hne (by rw [← hpart] at hzero; cases hk : l.key; simp_all)
    refine exec_judged rfl ht ?_
    rw [onLot_of_lot hn hn' hp hl, retireLotOn, if_neg (not_not.mpr hstate), if_neg hfamily, State.retire, if_pos hstate, hkey]
    rfl

/-! ## DAY CLOSE (R26, R131) -/

/-- Settles O30: a change of every crate type and of both gates changes each once. -/
theorem dayCloseStartsADay : Obligations.DayCloseStartsADay := by
  intro s ht
  refine ⟨fun ha hb => ?_, fun hbusy => ?_⟩
  · have hidle : (s.rostrumA.state != .idle || s.rostrumB.state != .idle) = false := by simp [ha, hb]
    let day := (s.lotTable.day + 1) % 256
    let s1 : State := { s with lotTable := { s.lotTable with counter := 1, day, dayWrap := false } }
    let s2 := all8.foldl (fun s t => s.modCrateType t fun c => { c with strays := 0 }) s1
    let s3 := all2.foldl (fun s g => s.modGate g fun x => { x with refused := 0 }) s2
    refine ⟨s3, exec_judged rfl ht ?_, ?_, fun t => ?_, fun g => ?_, ?_⟩
    · rw [dayClose, hidle]
      rfl
    · rfl
    · exact State.crateType_foldl_modCrateType s1 (fun _ c => { c with strays := 0 }) t
    · exact State.gate_foldl_modGate s2 (fun _ x => { x with refused := 0 }) g
    · rfl
  · refine exec_judged rfl ht ?_
    have hbusy' : (s.rostrumA.state != .idle || s.rostrumB.state != .idle) = true := by simpa using hbusy
    rw [dayClose, hbusy']
    rfl

end Sys2Proof.Machine
end

section
/-! PROOF. The sale clocks (chapter 3): queueing, offers, price steps, ROSTRUM HOLD, RESUME and STOP, and the desks. -/

namespace Sys2Proof.Machine

/-! ## The clock frame of a rostrum's change -/

/-- Changes of a rostrum and of a lot commute. -/
theorem State.modLot_modRostrum (s : State) (r : RostrumId) (f : Rostrum → Rostrum) (key : Key) (g : Lot → Lot) :
    (s.modRostrum r f).modLot key g = (s.modLot key g).modRostrum r f := by cases r <;> rfl

/-- A change of a rostrum that forms a clock frame is one change. -/
theorem State.formClock_modRostrum (s : State) (r : RostrumId) (f : Rostrum → Rostrum) :
    (s.modRostrum r f).formClock r = s.modRostrum r fun x => (f x).showClock ((s.modRostrum r f).clockFrame r) := by
  rw [formClock, modRostrum_modRostrum]

/-- The clock frame with a lot on the clock. -/
theorem State.clockFrame_offer {s : State} {r : RostrumId} {o : Offer} {lot : Lot} (ho : (s.rostrum r).offer = some o)
    (hl : s.lot? o.key = some lot) (hst : (s.rostrum r).state ≠ .showing) :
    s.clockFrame r =
      { state := (s.rostrum r).state, lot := some (o.key, lot.n), price := some (o.price, o.j), result := none } := by
  simp only [clockFrame, ho, hl, Option.map_some, Option.getD_some, if_neg hst]

/-- The clock frame without a lot on the clock. -/
theorem State.clockFrame_none {s : State} {r : RostrumId} (ho : (s.rostrum r).offer = none) :
    s.clockFrame r =
      { state := (s.rostrum r).state, lot := none, price := none
        result := if (s.rostrum r).state = .showing then (s.rostrum r).last else none } := by
  simp only [clockFrame, ho, Option.map_none]

theorem Lot.start_of_snapshot {lot : Lot} {snap : Snapshot} (h : lot.snapshot = some snap) :
    lot.start = lot.override.getD (lot.restartPrice.getD snap.start) := by
  rw [Lot.start, h]
  rfl

/-- A rostrum on which an offer has started (R51), its clock frame formed. -/
def Rostrum.offered (x : Rostrum) (key : Key) (rest : List Key) (n price : Nat) (snap : Snapshot) : Rostrum :=
  Rostrum.showClock
    { x with
      state := .running, queue := rest, offer := some { key, price, j := 0 }, stepTimer := some snap.interval, showTimer := none }
    { state := .running, lot := some (key, n), price := some (price, 0), result := none }

/-- The start of an offer on a lot with a snapshot (R51). -/
theorem State.startOffer_offered {s : State} {r : RostrumId} {key : Key} {rest : List Key} {lot : Lot} {snap : Snapshot}
    (hq : (s.rostrum r).queue = key :: rest) (hl : s.lot? key = some lot) (hsnap : lot.snapshot = some snap) :
    s.startOffer r =
      (s.modLot key fun l => { l with state := .onClock }).modRostrum r fun x => x.offered key rest lot.n lot.start snap := by
  have hlot : (s.modLot key fun l => { l with state := .onClock }).lot? key = some { lot with state := .onClock } := by
    rw [lot?_modLot s key key (fun l => { l with state := .onClock }) fun _ => rfl, hl, Option.map_some, if_pos (lot?_key hl)]
  rw [startOffer_cons hq, formClock_modRostrum, clockFrame_offer (o := { key, price := lot.start, j := 0 })
    (lot := { lot with state := .onClock })]
  · refine modRostrum_congr ?_
    simp only [offerHead, hl, hsnap, Option.bind_some, Option.map_some, Option.getD_some, modRostrum_rostrum]
    rfl
  · simp only [modRostrum_rostrum, offerHead, hl, Option.map_some, Option.getD_some]
  · rw [lot?_modRostrum_frame]
    exact hlot
  · simp only [modRostrum_rostrum, offerHead, ne_eq, reduceCtorEq, not_false_eq_true]

/-! ## QUEUE LOT and UNQUEUE LOT (R37 to R39) -/

theorem rostrum?_code (r : RostrumId) : rostrum? (if r = .a then 0 else 1) = some r := by cases r <;> rfl

theorem overrideBad_eq_false {lot : Lot} {snap : Snapshot} (h : lot.snapshot = some snap) {override : Nat}
    (ho : override = 0 ∨ snap.withdrawal ≤ override ∧ override ≤ 99999) : overrideBad lot override = false := by
  refine decide_eq_false ?_
  simp only [h, Option.map_some, Option.getD_some, Config.maxPrice]
  omega

/-- An offer that starts on a queue as it was just set. -/
theorem State.startOffer_setQueue {s : State} {r : RostrumId} {head : Key} {rest : List Key} {lot : Lot} {snap : Snapshot}
    (hl : s.lot? head = some lot) (hsnap : lot.snapshot = some snap) :
    (s.modRostrum r fun x => { x with queue := head :: rest }).startOffer r =
      (s.modLot head fun l => { l with state := .onClock }).modRostrum r fun x => x.offered head rest lot.n lot.start snap := by
  rw [startOffer_offered (key := head) (rest := rest) (lot := lot) (by simp) (by simpa using hl) hsnap, modLot_modRostrum,
    modRostrum_modRostrum]
  rfl

/-- The lot of a QUEUE LOT request that is taken (R37). -/
def State.enqueued (s : State) (key : Key) (r : RostrumId) (override : Nat) : State :=
  s.modLot key fun l => { l with override := if override = 0 then none else some override, rostrum := some r, state := .queued }

theorem State.lot?_enqueued_self {s : State} {key : Key} {lot : Lot} (hl : s.lot? key = some lot) (r : RostrumId)
    (override : Nat) :
    (s.enqueued key r override).lot? key =
      some { lot with override := if override = 0 then none else some override, rostrum := some r, state := .queued } := by
  unfold enqueued
  rw [lot?_modLot s key key (fun l =>
    { l with override := if override = 0 then none else some override, rostrum := some r, state := .queued }) fun _ => rfl,
    hl, Option.map_some, if_pos (lot?_key hl)]

theorem State.lot?_enqueued_ne {s : State} {key other : Key} {lot : Lot} (hl : s.lot? other = some lot) (hne : other ≠ key)
    (r : RostrumId) (override : Nat) : (s.enqueued key r override).lot? other = some lot := by
  unfold enqueued
  rw [lot?_modLot s key other (fun l =>
    { l with override := if override = 0 then none else some override, rostrum := some r, state := .queued }) fun _ => rfl,
    hl, Option.map_some, if_neg (by rw [lot?_key hl]; exact hne)]

/-- QUEUE LOT past its refusals. -/
theorem queueLotOn_taken {s : State} {r : RostrumId} {atHead : Bool} {override : Nat} {lot : Lot} {snap : Snapshot}
    (hwaiting : lot.state = .ready ∨ lot.state = .unsold) (hsnap : lot.snapshot = some snap)
    (ho : override = 0 ∨ snap.withdrawal ≤ override ∧ override ≤ 99999) (hroom : (s.rostrum r).queue.length < 128) :
    queueLotOn r atHead override lot s =
      let queue := (s.rostrum r).queue
      let entered := (s.enqueued lot.key r override).modRostrum r fun x =>
        { x with queue := if atHead then lot.key :: queue else queue ++ [lot.key] }
      accept (if (s.rostrum r).state = .waiting then entered.startOffer r else entered) := by
  have hisWaiting : lot.isWaiting = true := by rcases hwaiting with h | h <;> simp [Lot.isWaiting, h]
  have hset :
      ((s.enqueued lot.key r override).modRostrum r fun x =>
          { x with queue := if atHead then lot.key :: x.queue else x.queue ++ [lot.key] }) =
        (s.enqueued lot.key r override).modRostrum r fun x =>
          { x with queue := if atHead then lot.key :: (s.rostrum r).queue else (s.rostrum r).queue ++ [lot.key] } := by
    refine State.modRostrum_congr ?_
    rw [State.enqueued, State.rostrum_modLot_frame]
  simp only [queueLotOn, hisWaiting, overrideBad_eq_false hsnap ho, Bool.not_true, Bool.false_eq_true, if_false,
    if_neg (Nat.not_le.mpr hroom)]
  refine (apply_ite accept _ _ _).symm.trans ?_
  exact congrArg (fun u : State => accept (if (s.rostrum r).state = .waiting then u.startOffer r else u)) hset

/-- Settles O29. -/
theorem queueAndUnqueueMoveTheLot : Obligations.QueueAndUnqueueMoveTheLot := by
  intro number part override r snap lot s ht hn hn' hp hl
  extract_lets key rn queue entered queued offered own
  refine ⟨fun hwaiting hsnap ho hroom => ?_, fun hstate hr => ?_⟩
  · have hjudge (position : Nat) (hposition : position ≤ 1) :
        queueLot number part rn position override s = queueLotOn r (position == 0) override lot s := by
      simp only [queueLot, rn, rostrum?_code, if_neg (Nat.not_lt.mpr hposition), onLot_of_lot hn hn' hp hl]
    have hkey : lot.key = key := State.lot?_key hl
    have hself := State.lot?_enqueued_self hl r override
    have hstart :
        Lot.start { lot with override := if override = 0 then none else some override, rostrum := some r, state := .queued } =
          own := by
      rw [Lot.start, hsnap]
      by_cases hzero : override = 0 <;> simp [own, hzero]
    have hoffered (q : List Key) :
        ((s.enqueued key r override).modRostrum r fun x => { x with queue := key :: q }).startOffer r =
          offered key q lot.n own snap := by
      rw [State.startOffer_setQueue hself hsnap, hstart]
      rfl
    refine ⟨fun hrunning => ⟨exec_judged rfl ht ?_, exec_judged rfl ht ?_⟩, fun hstate => ⟨exec_judged rfl ht ?_,
      fun hempty => exec_judged rfl ht ?_, fun head rest first sn hqueue hne hfirst hsn => exec_judged rfl ht ?_⟩⟩
    · rw [hjudge 0 (Nat.zero_le 1), queueLotOn_taken hwaiting hsnap ho hroom, hkey]
      simp only [if_neg hrunning]
      rfl
    · rw [hjudge 1 le_rfl, queueLotOn_taken hwaiting hsnap ho hroom, hkey]
      simp only [if_neg hrunning]
      rfl
    · rw [hjudge 0 (Nat.zero_le 1), queueLotOn_taken hwaiting hsnap ho hroom, hkey]
      simp only [if_pos hstate, BEq.rfl, if_true]
      rw [hoffered queue]
      rfl
    · rw [hjudge 1 le_rfl, queueLotOn_taken hwaiting hsnap ho hroom, hkey]
      have hnil : (s.rostrum r).queue ++ [key] = [key] := by rw [show (s.rostrum r).queue = [] from hempty, List.nil_append]
      simp only [if_pos hstate, show ((1 : Nat) == 0) = false from rfl, Bool.false_eq_true, if_false, hnil]
      rw [hoffered []]
      rfl
    · rw [hjudge 1 le_rfl, queueLotOn_taken hwaiting hsnap ho hroom, hkey]
      have hcons : (s.rostrum r).queue ++ [key] = head :: (rest ++ [key]) := by
        rw [show (s.rostrum r).queue = head :: rest from hqueue, List.cons_append]
      simp only [if_pos hstate, show ((1 : Nat) == 0) = false from rfl, Bool.false_eq_true, if_false, hcons]
      rw [State.startOffer_setQueue (State.lot?_enqueued_ne hfirst hne r override) hsn, Lot.start_of_snapshot hsn]
      rfl
  · refine exec_judged rfl ht ?_
    rw [onLot_of_lot hn hn' hp hl, unqueueLotOn, if_neg (not_not.mpr hstate)]
    simp only [State.unqueue, hr, State.lot?_key hl]
    rfl

/-! ## Starting, showing, waiting (R51, R54, R55) -/

/-- WAITING with no lot on the clock. -/
theorem State.enterWaiting_eq {s : State} {r : RostrumId} (h : (s.rostrum r).offer = none) :
    s.enterWaiting r =
      s.modRostrum r fun x =>
        Rostrum.showClock { x with state := .waiting, showTimer := none }
          { state := .waiting, lot := none, price := none, result := none } := by
  rw [enterWaiting, formClock_modRostrum, clockFrame_none (by simpa using h)]
  simp

/-- SHOWING after a lot end. -/
theorem State.enterShowing_shown (s : State) (r : RostrumId) :
    s.enterShowing r =
      s.modRostrum r fun x =>
        Rostrum.showClock
          { x with state := .showing, offer := none, stepTimer := none, showTimer := some s.store.timing.showTime }
          { state := .showing, lot := none, price := none, result := (s.rostrum r).last } := by
  rw [enterShowing, formClock_modRostrum, clockFrame_none (by simp)]
  simp

/-- Settles O31. -/
theorem offersStartOnTheQueueHead : Obligations.OffersStartOnTheQueueHead := by
  intro r s ht
  have hjudge (f : RostrumId → State → State × Reply) : onRostrum (if r = .a then 0 else 1) f s = f r s := by
    rw [onRostrum, rostrum?_code]
  refine ⟨fun key rest lot snap hq hl hsnap => ?_, fun hrunning => ?_, fun hq ho => ⟨fun hidle => ?_, fun hout => ?_⟩⟩
  · have hoffer := State.startOffer_offered hq hl hsnap
    rw [Lot.start_of_snapshot hsnap] at hoffer
    have hempty : (s.rostrum r).queue.isEmpty = false := by rw [hq]; rfl
    refine ⟨fun hidle => exec_judged rfl ht ?_, fun hout => ?_⟩
    · rw [hjudge]
      simp only [rostrumStart, hidle, hempty, Bool.false_eq_true, if_false]
      rw [hoffer]
      rfl
    · rw [exec_event rfl ht, State.showExpiry]
      simp only [(runOut_iff _).mpr hout, hempty, Bool.not_true, Bool.false_eq_true, if_false]
      rw [hoffer]
      rfl
  · rw [exec_event rfl ht, State.showExpiry]
    simp only [(runOut_eq_false_iff _).mpr hrunning, Bool.not_false, if_true]
  · refine exec_judged rfl ht ?_
    rw [hjudge]
    simp only [rostrumStart, hidle, hq, List.isEmpty_nil, if_true, State.enterWaiting_eq ho]
    rfl
  · rw [exec_event rfl ht, State.showExpiry]
    simp only [(runOut_iff _).mpr hout, hq, List.isEmpty_nil, Bool.not_true, Bool.false_eq_true, if_false, if_true,
      State.enterWaiting_eq ho]

/-! ## Price steps (R53, R71) -/

/-- Settles O32. -/
theorem stepExpiryLowersThePrice : Obligations.StepExpiryLowersThePrice := by
  refine ⟨fun r s ht hrunning => ?_, fun r o lot snap s ht hstate hout ho hl hsnap => ?_⟩
  · rw [exec_event rfl ht, State.stepExpiry]
    simp only [(runOut_eq_false_iff _).mpr hrunning, Bool.not_false, if_true]
  · have hexec : exec (.stepTimerExpiry r) s = .next (s.stepExpiry r) :=
      exec_event (c := .stepTimerExpiry r) rfl ht
    simp only [State.stepExpiry, (runOut_iff _).mpr hout, ho, hl, hsnap, Option.bind_some, Bool.not_true, Bool.false_eq_true,
      if_false] at hexec
    refine ⟨fun hstep => ?_, fun hlast => ?_⟩
    · rw [hexec, if_pos hstep, State.formClock_modRostrum,
        State.clockFrame_offer (o := { o with price := o.price - snap.step, j := o.j + 1 }) (lot := lot)]
      · simp [hstate]
      · simp
      · simpa using hl
      · simp [hstate]
    · rw [hexec, if_neg (Nat.not_le.mpr hlast), State.enterShowing_shown, State.modRostrum_modRostrum]
      simp [Rostrum.lotEnd]

/-! ## ROSTRUM HOLD, RESUME and STOP (R56 to R58) -/

/-- IDLE with its clock frame. -/
theorem State.formClock_toIdle (s : State) (r : RostrumId) :
    (s.modRostrum r Rostrum.toIdle).formClock r =
      s.modRostrum r fun x => Rostrum.showClock x.toIdle { state := .idle, lot := none, price := none, result := none } := by
  rw [formClock_modRostrum, clockFrame_none (by simp [Rostrum.toIdle])]
  simp [Rostrum.toIdle]

/-- Settles O33. -/
theorem holdResumeAndStop : Obligations.HoldResumeAndStop := by
  intro r s ht
  extract_lets rn idle
  have hjudge (f : RostrumId → State → State × Reply) : onRostrum rn f s = f r s := by
    rw [onRostrum, rostrum?_code]
  refine ⟨fun hheld => ?_, fun hrunning => ?_, fun hstate => ?_, fun o lot snap ho hl hsnap => ⟨fun hrunning => ?_, fun hheld => ?_,
    fun hstate => ?_⟩⟩
  · refine exec_judged rfl ht ?_
    rw [hjudge]
    simp only [rostrumHold, hheld]
    rfl
  · refine exec_judged rfl ht ?_
    rw [hjudge]
    simp only [rostrumResume, hrunning]
    rfl
  · refine exec_judged rfl ht ?_
    rw [hjudge]
    rcases hstate with h | h
    · simp only [rostrumStop, h, State.formClock_toIdle]
      rfl
    · simp only [rostrumStop, h, State.formClock_toIdle]
      rfl
  · refine exec_judged rfl ht ?_
    rw [hjudge]
    simp only [rostrumHold, hrunning]
    rw [State.formClock_modRostrum, State.clockFrame_offer (o := o) (lot := lot) (by simpa using ho) (by simpa using hl) (by simp)]
    simp only [State.modRostrum_rostrum]
    rfl
  · refine exec_judged rfl ht ?_
    rw [hjudge]
    have hinterval : s.currentInterval r = snap.interval := by simp [State.currentInterval, ho, hl, hsnap]
    simp only [rostrumResume, hheld]
    rw [State.formClock_modRostrum, State.clockFrame_offer (o := o) (lot := lot) (by simpa using ho) (by simpa using hl) (by simp),
      hinterval]
    simp only [State.modRostrum_rostrum]
    rfl
  · refine exec_judged rfl ht ?_
    rw [hjudge]
    have hstop : rostrumStop r s = accept (((s.stopOffer r).modRostrum r Rostrum.toIdle).formClock r) := by
      rcases hstate with h | h <;> simp only [rostrumStop, h]
    rw [hstop, State.formClock_toIdle, State.stopOffer]
    simp only [ho, State.putBack_takes ho, State.modRostrum_modRostrum]
    rfl

/-! ## Desks (R59, R60) -/

/-- Settles O34. -/
theorem desksAreAssignedAndReleased : Obligations.DesksAreAssignedAndReleased := by
  intro r desk d s ht hd
  refine ⟨fun buyer a hb hb' ha hkind hstate hfree => ?_, fun buyer hdesk => ?_⟩
  · have hok : accountNumberOk buyer = true := decide_eq_true ⟨hb, hb'⟩
    refine exec_judged rfl ht ?_
    simp only [deskAssign, rostrum?_code, hd, hok, ha, hkind, hstate, hfree, reduceCtorEq, Bool.not_true, Bool.false_eq_true,
      if_false]
    rfl
  · refine exec_judged rfl ht ?_
    simp only [deskRelease, rostrum?_code, hd, hdesk]
    rfl

end Sys2Proof.Machine
end

section
/-! PROOF. The press and its booking (chapters 3 and 4): the part net, the charges, winning presses and losing ones, and the frames that
leave the lines. -/

namespace Sys2Proof.Machine

/-! ## Part nets and charges (R79, R81) -/

theorem partNet_mul_le (net n k e : Nat) : partNet net k n e * n ≤ net * k :=
  calc net * k / (n * e) * e * n
    _ = net * k / (n * e) * (n * e) := by ring
    _ ≤ net * k := Nat.div_mul_le_self ..

theorem partNet_le {net n k e : Nat} (hn : 0 < n) (hk : k ≤ n) : partNet net k n e ≤ net :=
  Nat.le_of_mul_le_mul_right ((partNet_mul_le net n k e).trans (Nat.mul_le_mul_left net hk)) hn

theorem dvd_partNet (net n k e : Nat) : e ∣ partNet net k n e := Dvd.intro_left _ rfl

/-- Settles O35: the part net is the floor of its share, in divisions. -/
theorem partNetIsR79 : Obligations.PartNetIsR79 := by
  intro net n k e _ _ hk
  refine ⟨rfl, partNet_mul_le net n k e, dvd_partNet net n k e, Nat.add_sub_cancel' (partNet_le (by omega) hk.le),
    fun hdvd => Nat.dvd_sub hdvd (dvd_partNet net n k e), ?_, fun lot hnet hn he => ?_⟩
  · rw [Nat.mul_sub, Nat.sub_mul]
    exact Nat.sub_le_sub_left (partNet_mul_le net n k e) (net * n)
  · simp [soldNet, hnet, hn, he, hk]

theorem perMil_zero (m : Nat) : perMil m 0 = 0 := by simp [perMil]

/-- Commission and levy at their largest rates are no more than the amount (R81). -/
theorem charges_le (m : Nat) {commission levy : Nat} (hc : commission ≤ 80) (hl : levy ≤ 50) :
    perMil m commission + perMil m levy ≤ m := by
  have hc' := perMil_le_perMil (le_refl m) hc
  have hl' := perMil_le_perMil (le_refl m) hl
  unfold perMil at hc' hl' ⊢
  omega

/-- Settles O37: every charge is formed from the amount alone. -/
theorem chargesAreR81 : Obligations.ChargesAreR81 := by
  intro net price k commission levy fee deposit
  refine ⟨rfl, rfl, rfl, ?_, ?_, ?_, fun hc hl => charges_le _ hc hl⟩
  · rintro rfl
    exact perMil_zero _
  · rintro rfl
    exact perMil_zero _
  · rintro rfl
    exact perMil_zero _

/-! ## What a booking makes of the accounts (R86, R87, R112) -/

/-- One account's record after a booking: the buyer pays and takes the crates, the boat is credited and gives them up. -/
def Candidate.posted (c : Candidate) (v : Valuation) (a : Account) : Account :=
  ((((a.onNumber c.account.number fun a => { a with balance := a.balance - v.buyerTotal }).onNumber c.lot.boat
    fun a => { a with balance := a.balance + v.boatCredit }).onNumber c.lot.boat fun a =>
      { a with
        holding := bump a.holding c.lot.crateType (· - c.k), committed := bump a.committed c.lot.crateType (· - c.k) }).onNumber
    c.account.number fun a => { a with holding := bump a.holding c.lot.crateType (· + c.k) }).onNumber c.lot.boat
    fun a => { a with liveLots := a.liveLots + if c.isPart then 1 else 0 }

theorem State.accounts_win_posted (s : State) (r : RostrumId) (c : Candidate) (v : Valuation) :
    (s.win r c v).accounts = s.accounts.map (c.posted v) := by
  rw [accounts_win, soldAccounts]
  simp only [List.map_map]
  rfl

theorem Candidate.posted_number (c : Candidate) (v : Valuation) (a : Account) : (c.posted v a).number = a.number := by
  unfold posted
  rw [Account.onNumber_number, Account.onNumber_number, Account.onNumber_number, Account.onNumber_number, Account.onNumber_number]
  all_goals exact fun _ => rfl

/-- An account found after a booking. -/
theorem State.account?_win (s : State) (r : RostrumId) (c : Candidate) (v : Valuation) (m : Nat) :
    (s.win r c v).account? m = (s.account? m).map (c.posted v) := by
  show (s.win r c v).accounts.find? _ = _
  rw [accounts_win_posted, List.find?_map]
  refine congrArg _ (congrArg (fun p => List.find? p _) (funext fun a => ?_))
  simp only [Function.comp_apply, c.posted_number]

theorem Candidate.posted_buyer {c : Candidate} (v : Valuation) {a : Account} (ha : a.number = c.account.number)
    (hne : c.lot.boat ≠ c.account.number) :
    c.posted v a =
      { a with
        balance := a.balance - v.buyerTotal
        holding := a.holding.set c.lot.crateType (a.holding[c.lot.crateType] + c.k) } := by
  simp [posted, Account.onNumber, ha, hne.symm, bump]

theorem Candidate.posted_boat {c : Candidate} (v : Valuation) {a : Account} (ha : a.number = c.lot.boat)
    (hne : c.lot.boat ≠ c.account.number) :
    c.posted v a =
      { a with
        balance := a.balance + v.boatCredit
        holding := a.holding.set c.lot.crateType (a.holding[c.lot.crateType] - c.k)
        committed := a.committed.set c.lot.crateType (a.committed[c.lot.crateType] - c.k)
        liveLots := a.liveLots + if c.isPart then 1 else 0 } := by
  simp [posted, Account.onNumber, ha, hne, bump]

theorem Candidate.posted_other {c : Candidate} (v : Valuation) {a : Account} (hbuyer : a.number ≠ c.account.number)
    (hboat : a.number ≠ c.lot.boat) : c.posted v a = a := by
  simp [posted, Account.onNumber, hbuyer, hboat]

/-! ## What a winning press leaves (R67 to R71) -/

/-- A state that differs in the trade's blocks alone. -/
theorem State.eq_of_trade {s t : State} (hlanes : t.lanes = s.lanes) (hcrates : t.crates = s.crates) (hice : t.ice = s.ice)
    (hstore : t.store = s.store) (hsupply : t.supply = s.supply) (hport : t.port = s.port) (hfree : t.freeCount = s.freeCount)
    (hpending : t.pending = s.pending) :
    t =
      { s with
        accountTable := t.accountTable, lotTable := t.lotTable, rostrumA := t.rostrumA, rostrumB := t.rostrumB } := by
  rw [← hlanes, ← hcrates, ← hice, ← hstore, ← hsupply, ← hport, ← hfree, ← hpending]

theorem State.win_eq_trade (s : State) (r : RostrumId) (c : Candidate) (v : Valuation) :
    s.win r c v =
      { s with
        accountTable := (s.win r c v).accountTable, lotTable := (s.win r c v).lotTable
        rostrumA := (s.win r c v).rostrumA, rostrumB := (s.win r c v).rostrumB } := by
  obtain ⟨hlanes, hcrates, hice, hstore, hsupply, hport, hfree, hpending⟩ := s.win_frame r c v
  exact eq_of_trade hlanes hcrates hice hstore hsupply hport hfree hpending

/-- The rostrum of a winning press shows the lot end (R54, R67, R71). -/
theorem State.rostrum_win_shown (s : State) (r : RostrumId) (c : Candidate) (v : Valuation) :
    (s.win r c v).rostrum r =
      (s.wonRostrum (s.rostrum r) r c).showClock
        { state := .showing, lot := none, price := none, result := (s.wonRostrum (s.rostrum r) r c).last } := by
  have hstore : (if c.isPart then (s.postSale c v).addRemainder r c else s.postSale c v).store = s.store := by
    split <;> simp
  have hstore' (u : State) (f : Rostrum → Rostrum) : (u.modRostrum r f).store = u.store := by simp
  simp only [win]
  rw [enterShowing_shown, modRostrum_rostrum, modRostrum_rostrum, rostrum_remainder, if_pos rfl, hstore', hstore]
  rfl

/-- A posting on an account that exists, in the whole table. -/
theorem State.accountTable_post {s : State} {n : Nat} (h : (s.account? n).isSome = true) (d : Int) :
    (s.post n d).accountTable =
      { s.accountTable with
        accounts := (s.post n d).accountTable.accounts, balanceSum := s.accountTable.balanceSum + d } := by
  obtain ⟨a, ha⟩ := Option.isSome_iff_exists.mp h
  simp only [post, ha]
  rfl

/-- The account table of a booking: the postings, the sum, the hall counters. -/
theorem State.accountTable_win_posted {s : State} {c : Candidate} {v : Valuation}
    (hbuyer : (s.account? c.account.number).isSome = true) (hboat : (s.account? c.lot.boat).isSome = true) (r : RostrumId) :
    (s.win r c v).accountTable =
      { s.accountTable with
        accounts := (s.win r c v).accountTable.accounts
        balanceSum := s.accountTable.balanceSum - v.buyerTotal + v.boatCredit, hall := s.accountTable.hall.book v } := by
  have hdebit := accountTable_post hbuyer (-(v.buyerTotal : Int))
  have hcredit := accountTable_post (s := s.debit c.account.number v.buyerTotal) (n := c.lot.boat)
    (by rw [debit, account?_post, Option.isSome_map]; exact hboat) v.boatCredit
  rw [debit] at hcredit
  have hsale :
      (s.postSale c v).accountTable =
        { s.accountTable with
          accounts := (s.postSale c v).accountTable.accounts
          balanceSum := s.accountTable.balanceSum - v.buyerTotal + v.boatCredit, hall := s.accountTable.hall.book v } := by
    simp only [postSale, saleMove, modHolding, modLot_accountTable, modHall_accountTable, modAccount_accountTable, debit]
    rw [hcredit, hdebit]
    rfl
  rw [accountTable_win]
  split
  · rw [modLiveLots, modAccount_accountTable, hsale]
  · exact hsale

/-- The lots after the clock has placed one at the head of a queue: a displaced tail is READY without a rostrum (R42, R50). -/
theorem State.lotTable_headInsert (s : State) (r : RostrumId) (key : Key) :
    (s.headInsert r key).lotTable =
      { s.lotTable with
        lots := s.lotTable.lots.map fun l =>
          if some l.key = (s.rostrum r).displaces (some key) then { l with state := .ready, rostrum := none } else l } := by
  by_cases hroom : (s.rostrum r).queue.length < 128
  · have hnone : (s.rostrum r).displaces (some key) = none := if_neg fun h => absurd h.2 (Nat.not_le.mpr hroom)
    simp only [headInsert, Config.maxQueue, if_pos hroom, hnone, reduceCtorEq, if_false, List.map_id']
    cases r <;> rfl
  · have hfull : (s.rostrum r).displaces (some key) = (s.rostrum r).queue.getLast? := if_pos ⟨rfl, Nat.not_lt.mp hroom⟩
    cases hlast : (s.rostrum r).queue.getLast? with
    | none =>
      rw [List.getLast?_eq_none_iff] at hlast
      simp [hlast] at hroom
    | some tail =>
      simp only [headInsert, Config.maxQueue, if_neg hroom, hlast, hfull, Option.some_inj]
      cases r <;> rfl

theorem State.lotTable_postSale (s : State) (c : Candidate) (v : Valuation) :
    (s.postSale c v).lotTable =
      { s.lotTable with
        lots := s.lotTable.lots.map fun l => if l.key = c.lot.key then { l with state := .sold, sale := some (c.sale v) } else l } := by
  simp [postSale, saleMove, modHolding, debit]

/-- The lots after a press for the whole lot. -/
theorem State.lotTable_win_whole {s : State} {c : Candidate} (h : c.isPart = false) (r : RostrumId) (v : Valuation) :
    (s.win r c v).lotTable = (s.postSale c v).lotTable := by
  simp [win, h]

/-- The lots after a press for a part: the remainder enters the table and the queue (R44, R90). -/
theorem State.lotTable_win_part {s : State} {c : Candidate} (h : c.isPart = true) (r : RostrumId) (v : Valuation) :
    (s.win r c v).lotTable =
      { s.lotTable with
        lots := (insertLot (c.remainder r) (s.postSale c v).lotTable.lots).map fun l =>
          if some l.key = (s.rostrum r).displaces (some (c.remainder r).key) then { l with state := .ready, rostrum := none }
          else l } := by
  have hrostrum : (((s.postSale c v).addLot (c.remainder r)).modLiveLots c.lot.boat (· + 1)).rostrum r = s.rostrum r := by
    rw [modLiveLots, rostrum_modAccount_frame, rostrum_addLot_frame, rostrum_postSale]
  simp only [win, h, if_true, enterShowing_frame, modRostrum_lotTable, addRemainder, lotTable_headInsert, hrostrum]
  simp only [modLiveLots, modAccount_lotTable, addLot_lotTable, lotTable_postSale]

/-! ## The judgement of a press (R61 to R66, R85) -/

theorem unitNumber_of_unitIndex? {n number : Nat} {i : Fin n} (h : unitIndex? n number = some i) : unitNumber i = number := by
  unfold unitIndex? at h
  split at h
  · next hin =>
    cases h
    exact Nat.sub_add_cancel hin.1
  · cases h

/-- The candidate of a press for `k` crates of the lot on the clock (R66). -/
def candidateOf (lot : Lot) (account boat : Account) (price k desk : Nat) : Candidate :=
  { lot, account, boat, price, k, net := soldNet lot k, desk }

/-- A press whose desk is assigned, while an offer runs: what is left to judge. -/
theorem State.judgePress_offer {s : State} {r : RostrumId} {d : Fin 96} {buyer : Account} {o : Offer} {lot : Lot}
    (hdesk : (s.rostrum r).desk d = some buyer.number) (hbuyer : s.account? buyer.number = some buyer)
    (ho : (s.rostrum r).offer = some o) (hl : s.lot? o.key = some lot) (quantity : Nat) :
    s.judgePress r d quantity =
      if buyer.state ≠ .opened then .error .suspended
      else
        let k := if quantity = 0 then lot.n else quantity
        if lot.n < k then .error .quantity
        else
          match (if k < lot.n then s.partCheck lot k else none), s.account? lot.boat with
          | some a, _ => .error a
          | none, none => .error .notRunning
          | none, some boat =>
            (s.book (candidateOf lot buyer boat o.price k (unitNumber d))).map fun v =>
              (candidateOf lot buyer boat o.price k (unitNumber d), v) := by
  simp only [judgePress, hdesk, hbuyer, ho, hl]
  rfl

/-- A press that passes R63's checks is the booking unit's to judge. -/
theorem State.judgePress_candidate {s : State} {r : RostrumId} {d : Fin 96} {buyer boat : Account} {o : Offer} {lot : Lot}
    (hdesk : (s.rostrum r).desk d = some buyer.number) (hbuyer : s.account? buyer.number = some buyer)
    (hopen : buyer.state = .opened) (ho : (s.rostrum r).offer = some o) (hl : s.lot? o.key = some lot)
    (hboat : s.account? lot.boat = some boat) {quantity k : Nat} (hk : k = if quantity = 0 then lot.n else quantity)
    (hle : k ≤ lot.n) (hpart : k < lot.n → s.partCheck lot k = none) :
    s.judgePress r d quantity =
      (s.book (candidateOf lot buyer boat o.price k (unitNumber d))).map fun v =>
        (candidateOf lot buyer boat o.price k (unitNumber d), v) := by
  have hcheck : (if k < lot.n then s.partCheck lot k else none) = none := by
    split
    · next h => exact hpart h
    · rfl
  simp only [judgePress_offer hdesk hbuyer ho hl, if_neg (not_not.mpr hopen), ← hk, if_neg (Nat.not_lt.mpr hle), hcheck, hboat]

/-- The booking unit's judgement, with the records it reads (R78, R85). -/
theorem State.book_eq {s : State} {c : Candidate} {tariff : Tariff} {snap : Snapshot} {deposit : Nat}
    (htariff : s.store.tariff? = some tariff) (hsnap : c.lot.snapshot = some snap)
    (hdeposit : s.store.deposit? c.lot.crateType = some deposit) :
    s.book c =
      let v := Machine.valuate c.net c.price c.k (tariff.commissionOf c.boat.cls) snap.levy (tariff.feeOf c.account.cls) deposit
      if c.account.available < (v.buyerTotal : Int) then .error .credit
      else if 2000000000 < c.boat.balance + v.boatCredit then .error .range
      else .ok v := by
  simp only [book, htariff, State.valuate, hsnap, Option.map_some, Option.getD_some, Store.deposit, hdeposit]

/-- A press frame with its check byte is judged by the rostrum's state. -/
theorem State.pressArrival_press {s : State} {r : RostrumId} {desk quantity : Byte} {d : Fin 96}
    (hd : unitIndex? 96 desk.toNat = some d) :
    s.pressArrival r desk quantity (crc8 [desk, quantity]) = s.press r d quantity.toNat := by
  simp only [pressArrival, hd, if_true]

/-- A press that wins. -/
theorem State.press_won {s : State} {r : RostrumId} {d : Fin 96} {quantity : Nat} {c : Candidate} {v : Valuation}
    (hrunning : (s.rostrum r).state = .running) (hjudge : s.judgePress r d quantity = .ok (c, v)) :
    s.press r d quantity = s.win r c v := by
  simp only [press, hrunning, hjudge]

/-- A press that one of the checks refuses. -/
theorem State.press_lost {s : State} {r : RostrumId} {d : Fin 96} {quantity : Nat} {a : PressAnswer}
    (hrunning : (s.rostrum r).state = .running) (hjudge : s.judgePress r d quantity = .error a) :
    s.press r d quantity = s.answerPress r (unitNumber d) a := by
  simp only [press, hrunning, hjudge]

/-! ## Winning presses (R67, R86 to R90) -/

/-- A press frame that wins leaves the booking. -/
theorem exec_press_won {s : State} {r : RostrumId} {desk quantity : Byte} {d : Fin 96} {c : Candidate} {v : Valuation}
    (ht : s.trading = true) (hd : unitIndex? 96 desk.toNat = some d) (hrunning : (s.rostrum r).state = .running)
    (hjudge : s.judgePress r d quantity.toNat = .ok (c, v)) :
    exec (.pressFrame r desk quantity (crc8 [desk, quantity])) s = .next (s.win r c v) := by
  rw [exec_event rfl ht, State.pressArrival_press hd, State.press_won hrunning hjudge]

/-- The accounts after a booking: the buyer's, the boat's, every other one. -/
theorem State.account?_win_candidate {s : State} {c : Candidate} (hbuyer : s.account? c.account.number = some c.account)
    (hboat : s.account? c.lot.boat = some c.boat) (hne : c.lot.boat ≠ c.account.number) (r : RostrumId) (v : Valuation) :
    (s.win r c v).account? c.account.number =
        some
          { c.account with
            balance := c.account.balance - v.buyerTotal
            holding := c.account.holding.set c.lot.crateType (c.account.holding[c.lot.crateType] + c.k) } ∧
      (s.win r c v).account? c.lot.boat =
        some
          { c.boat with
            balance := c.boat.balance + v.boatCredit
            holding := c.boat.holding.set c.lot.crateType (c.boat.holding[c.lot.crateType] - c.k)
            committed := c.boat.committed.set c.lot.crateType (c.boat.committed[c.lot.crateType] - c.k)
            liveLots := c.boat.liveLots + if c.isPart then 1 else 0 } ∧
      ∀ m, m ≠ c.account.number → m ≠ c.lot.boat → (s.win r c v).account? m = s.account? m := by
  refine ⟨?_, ?_, fun m hm hm' => ?_⟩
  · rw [account?_win, hbuyer, Option.map_some, Candidate.posted_buyer v rfl hne]
  · rw [account?_win, hboat, Option.map_some, Candidate.posted_boat v (account?_number hboat) hne]
  · rw [account?_win]
    cases ha : s.account? m with
    | none => rfl
    | some a =>
      have hnumber := account?_number ha
      rw [Option.map_some, Candidate.posted_other v (hnumber ▸ hm) (hnumber ▸ hm')]

/-- Settles O38: the candidate for all crates of the lot is booked, and leaves no remainder. -/
theorem wholeLotPressIsBooked : Obligations.WholeLotPressIsBooked := by
  intro r desk quantity d o lot buyer boat snap tariff net deposit s v total credit ht hd hrunning hdesk hbuyer hopen ho hl
    hquantity hboat hne hnet hsnap htariff hdeposit hcredit hbalance
  let c : Candidate := candidateOf lot buyer boat o.price lot.n (unitNumber d)
  have hk : lot.n = if quantity.toNat = 0 then lot.n else quantity.toNat := by split <;> omega
  have hsold : soldNet lot lot.n = net := by simp [soldNet, hnet]
  have hbook : s.book c = .ok v := by
    rw [State.book_eq htariff hsnap hdeposit]
    simp only [c, candidateOf, hsold]
    exact (if_neg (not_lt.mpr hcredit)).trans (if_neg (not_lt.mpr hbalance))
  have hjudge : s.judgePress r d quantity.toNat = .ok (c, v) := by
    rw [State.judgePress_candidate hdesk hbuyer hopen ho hl hboat hk le_rfl fun h => absurd h (lt_irrefl _), hbook]
    rfl
  have hwhole : c.isPart = false := decide_eq_false (lt_irrefl _)
  have hkey : lot.key = o.key := State.lot?_key hl
  have hdeskNo : unitNumber d = desk.toNat := unitNumber_of_unitIndex? hd
  obtain ⟨hpaid, hcredited, hothers⟩ := State.account?_win_candidate (c := c) hbuyer hboat hne r v
  rw [hwhole] at hcredited
  refine ⟨s.win r c v, exec_press_won ht hd hrunning hjudge, hpaid, hcredited, hothers, ?_, ?_, ?_,
    fun q hq => s.rostrum_win_ne hq c v, s.win_eq_trade r c v⟩
  · exact State.accountTable_win_posted (c := c) (by simp [c, candidateOf, hbuyer]) (by simp [c, candidateOf, hboat]) r
  · rw [State.lotTable_win_whole hwhole, State.lotTable_postSale]
    simp only [c, candidateOf, Candidate.sale, hkey, hsold]
    rfl
  · rw [State.rostrum_win_shown, State.wonRostrum, Candidate.left, hwhole]
    simp only [c, candidateOf, hkey, hdeskNo]
    rfl

/-- Settles O39: the candidate for `k` crates is booked, and its remainder goes back to the queue. -/
theorem partPressQueuesTheRemainder : Obligations.PartPressQueuesTheRemainder := by
  intro r desk quantity d o lot buyer boat snap tariff net deposit e s k sold v total credit ht hd hrunning hdesk hbuyer hopen ho hl
    hpos hlt hnet he hpart hsold hrest hroom hboat hne hsnap htariff hdeposit hcredit hbalance key remainder displaced ended
  let c : Candidate := candidateOf lot buyer boat o.price k (unitNumber d)
  have hkey : lot.key = o.key := State.lot?_key hl
  have hk : k = if quantity.toNat = 0 then lot.n else quantity.toNat := (if_neg (by omega)).symm
  have hnetOf : soldNet lot k = sold := by
    simp only [soldNet, hnet, he, Option.getD_some, Int.toNat_natCast, if_pos hlt]
    rfl
  have hcheck : s.partCheck lot k = none := by
    have hsmall : ¬ (partNet net k lot.n e < 20 * e ∨ net - partNet net k lot.n e < 20 * e) :=
      not_or.mpr ⟨Nat.not_lt.mpr hsold, Nat.not_lt.mpr hrest⟩
    simp only [State.partCheck, hnet, he, Option.getD_some, Int.toNat_natCast, hkey, if_neg hpart, if_neg hsmall,
      Config.maxLots, if_neg (Nat.not_le.mpr hroom)]
  have hbook : s.book c = .ok v := by
    rw [State.book_eq htariff hsnap hdeposit]
    simp only [c, candidateOf, hnetOf]
    exact (if_neg (not_lt.mpr hcredit)).trans (if_neg (not_lt.mpr hbalance))
  have hjudge : s.judgePress r d quantity.toNat = .ok (c, v) := by
    rw [State.judgePress_candidate hdesk hbuyer hopen ho hl hboat hk hlt.le fun _ => hcheck, hbook]
    rfl
  have hisPart : c.isPart = true := decide_eq_true hlt
  have hdeskNo : unitNumber d = desk.toNat := unitNumber_of_unitIndex? hd
  have hremainder : c.remainder r = remainder := by
    simp only [Candidate.remainder, c, candidateOf, hkey, hnetOf, hnet, he, hsnap, Lot.restartAt, Lot.start_of_snapshot hsnap,
      Option.getD_some]
    rfl
  obtain ⟨hpaid, hcredited, hothers⟩ := State.account?_win_candidate (c := c) hbuyer hboat hne r v
  rw [hisPart] at hcredited
  refine ⟨s.win r c v, exec_press_won ht hd hrunning hjudge, hpaid, hcredited, hothers, ?_, ?_, ?_,
    fun q hq => s.rostrum_win_ne hq c v, s.win_eq_trade r c v⟩
  · exact State.accountTable_win_posted (c := c) (by simp [c, candidateOf, hbuyer]) (by simp [c, candidateOf, hboat]) r
  · rw [State.lotTable_win_part hisPart, State.lotTable_postSale, hremainder]
    simp only [c, candidateOf, Candidate.sale, hkey, hnetOf]
    rfl
  · rw [State.rostrum_win_shown, State.wonRostrum, Candidate.left, hisPart, hremainder]
    simp only [c, candidateOf, hkey, hdeskNo]
    rfl

/-! ## Presses that do not win (R61 to R66) -/

/-- The part-sale checks over the figures of the lot (R65). -/
theorem State.partCheck_eq {s : State} {lot : Lot} {net e : Nat} (hnet : lot.net = some (net : Int)) (he : lot.division = some e)
    (k : Nat) :
    s.partCheck lot k =
      if lot.key.part = 7 then some .partLimit
      else if partNet net k lot.n e < 20 * e ∨ net - partNet net k lot.n e < 20 * e then some .partTooSmall
      else if 1024 ≤ s.lotTable.lots.length then some .tableFull
      else none := by
  simp only [partCheck, hnet, he, Option.getD_some, Int.toNat_natCast]

/-- A press for a part that R65 refuses. -/
theorem State.judgePress_part {s : State} {r : RostrumId} {d : Fin 96} {buyer : Account} {o : Offer} {lot : Lot} {quantity : Nat}
    {a : PressAnswer} (hdesk : (s.rostrum r).desk d = some buyer.number) (hbuyer : s.account? buyer.number = some buyer)
    (hopen : buyer.state = .opened) (ho : (s.rostrum r).offer = some o) (hl : s.lot? o.key = some lot) (hpos : 0 < quantity)
    (hlt : quantity < lot.n) (hcheck : s.partCheck lot quantity = some a) : s.judgePress r d quantity = .error a := by
  simp only [judgePress_offer hdesk hbuyer ho hl, if_neg (not_not.mpr hopen), if_neg hpos.ne', if_neg (Nat.not_lt.mpr hlt.le),
    if_pos hlt, hcheck]

/-- The crates that a press wants: all of the lot for a quantity of 0 (R63). -/
def pressCrates (lot : Lot) (quantity : Nat) : Nat := if quantity = 0 then lot.n else quantity

theorem pressCrates_le {lot : Lot} {quantity : Nat} (h : quantity ≤ lot.n) : pressCrates lot quantity ≤ lot.n := by
  unfold pressCrates
  split <;> omega

theorem pressCrates_of_part {lot : Lot} {quantity : Nat} (h : 0 < quantity ∧ quantity < lot.n) : pressCrates lot quantity = quantity :=
  if_neg h.1.ne'

/-- A press leaves a remainder when it names some but not all crates. -/
theorem pressCrates_lt_iff {lot : Lot} {quantity : Nat} (h : quantity ≤ lot.n) :
    pressCrates lot quantity < lot.n ↔ 0 < quantity ∧ quantity < lot.n := by
  unfold pressCrates
  split <;> omega

/-- The net that a press sells (R66). -/
theorem soldNet_pressCrates {lot : Lot} {net e quantity : Nat} (hnet : lot.net = some (net : Int)) (he : lot.division = some e)
    (h : quantity ≤ lot.n) :
    soldNet lot (pressCrates lot quantity) = if 0 < quantity ∧ quantity < lot.n then partNet net quantity lot.n e else net := by
  simp only [soldNet, hnet, he, Option.getD_some, Int.toNat_natCast, pressCrates_lt_iff h]
  split
  · next hpart => rw [pressCrates_of_part hpart]
  · rfl

/-- Settles O40, in the order of the checks. -/
theorem losingPressesAreAnswered : Obligations.LosingPressesAreAnswered := by
  intro r desk quantity check s ht answered rejected
  refine ⟨exec_event (c := .malformedLineFrame (.rostrum r)) rfl ht, fun hform => ?_, ?_⟩
  · rw [exec_event rfl ht, State.pressArrival]
    cases hd : unitIndex? 96 desk.toNat with
    | none => rfl
    | some d =>
      have hdesk := unitNumber_of_unitIndex? hd
      have hbad : check ≠ crc8 [desk, quantity] := by
        refine hform.resolve_right fun hrange => ?_
        have := d.isLt
        unfold unitNumber at hdesk
        omega
      simp only [if_neg hbad]
      rfl
  · intro d hd hcheck answeredBy
    subst hcheck
    have hdeskNo : unitNumber d = desk.toNat := unitNumber_of_unitIndex? hd
    have hpress : exec (.pressFrame r desk quantity (crc8 [desk, quantity])) s = .next (s.press r d quantity.toNat) := by
      rw [exec_event rfl ht, State.pressArrival_press hd]
    have hjudged (hrunning : (s.rostrum r).state = .running) {a : PressAnswer}
        (hjudge : s.judgePress r d quantity.toNat = .error a) : answeredBy a := by
      show exec _ s = _
      rw [hpress, State.press_lost hrunning hjudge, hdeskNo]
      rfl
    refine ⟨fun hstate => ?_, fun hshowing => ?_, fun hrunning hdesk => hjudged hrunning ?_,
      fun buyer o lot hrunning hdesk hbuyer ho hl => ⟨fun hsuspended => hjudged hrunning ?_,
        fun hopen hmany => hjudged hrunning ?_, ?_⟩⟩
    · refine hpress.trans ?_
      rcases hstate with h | h | h <;> simp only [State.press, h, hdeskNo] <;> rfl
    · refine hpress.trans ?_
      simp only [State.press, hshowing, hdeskNo]
      rfl
    · simp only [State.judgePress, hdesk]
    · simp only [State.judgePress_offer hdesk hbuyer ho hl, hsuspended, ne_eq, reduceCtorEq, not_false_eq_true, if_true]
    · have hpos : quantity.toNat ≠ 0 := by omega
      simp only [State.judgePress_offer hdesk hbuyer ho hl, if_neg (not_not.mpr hopen), if_neg hpos, if_pos hmany]
    · intro boat net e hopen hle hboat hnet he part sold small
      have hkey : lot.key = o.key := State.lot?_key hl
      have hsold (hpart : part) : sold = partNet net quantity.toNat lot.n e := if_pos hpart
      have hpartCheck := State.partCheck_eq (s := s) hnet he quantity.toNat
      rw [hkey] at hpartCheck
      refine ⟨fun hpart hlast => ?_, fun hpart hlast hsmall => ?_, fun hpart hlast hlarge hfull => ?_, fun hpasses => ?_⟩
      · refine hjudged hrunning (State.judgePress_part hdesk hbuyer hopen ho hl hpart.1 hpart.2 ?_)
        rw [hpartCheck, if_pos hlast]
      · refine hjudged hrunning (State.judgePress_part hdesk hbuyer hopen ho hl hpart.1 hpart.2 ?_)
        rw [hpartCheck, if_neg hlast, ← hsold hpart, if_pos hsmall]
      · refine hjudged hrunning (State.judgePress_part hdesk hbuyer hopen ho hl hpart.1 hpart.2 ?_)
        rw [hpartCheck, if_neg hlast, ← hsold hpart, if_neg hlarge, if_pos hfull]
      · have hnone (hk : pressCrates lot quantity.toNat < lot.n) : s.partCheck lot (pressCrates lot quantity.toNat) = none := by
          have hpart := (pressCrates_lt_iff hle).mp hk
          obtain ⟨hlast, hlarge, hroom⟩ := hpasses hpart
          rw [pressCrates_of_part hpart, hpartCheck, if_neg hlast, ← hsold hpart, if_neg hlarge, if_neg (Nat.not_le.mpr hroom)]
        have hsoldNet : soldNet lot (pressCrates lot quantity.toNat) = sold := soldNet_pressCrates hnet he hle
        have hbooked := State.judgePress_candidate hdesk hbuyer hopen ho hl hboat (quantity := quantity.toNat)
          (k := pressCrates lot quantity.toNat) rfl (pressCrates_le hle) hnone
        refine ⟨fun hinvalid => hjudged hrunning ?_, ?_⟩
        · rw [hbooked, State.book, hinvalid]
          rfl
        · intro tariff snap deposit htariff hsnap hdeposit _ v total credit
          have hbook := State.book_eq (c := candidateOf lot buyer boat o.price (pressCrates lot quantity.toNat) (unitNumber d))
            htariff hsnap hdeposit
          simp only [candidateOf, hsoldNet] at hbook
          refine ⟨fun hcredit => hjudged hrunning ?_, fun hcredit hbalance => hjudged hrunning ?_⟩
          · rw [hbooked, candidateOf, hsoldNet, hbook]
            exact congrArg _ (if_pos hcredit)
          · rw [hbooked, candidateOf, hsoldNet, hbook]
            exact congrArg _ ((if_neg (not_lt.mpr hcredit)).trans (if_pos hbalance))

/-! ## The lines (R20, R72, R73) -/

/-- A new clock frame takes the place of the one that waits. -/
theorem putClock_replaces (f old : ClockFrame) (after : List OutFrame) {before : List OutFrame}
    (h : ∀ y ∈ before, y.isAnswer = true) : putClock f (before ++ .clock old :: after) = before ++ .clock f :: after := by
  induction before with
  | nil => rfl
  | cons y ys ih =>
    cases y with
    | clock g => cases h (.clock g) List.mem_cons_self
    | answer a => exact congrArg (.answer a :: ·) (ih fun z hz => h z (List.mem_cons_of_mem _ hz))

/-- With no clock frame waiting the new one is the newest frame. -/
theorem putClock_appends (f : ClockFrame) {frames : List OutFrame} (h : ∀ y ∈ frames, y.isAnswer = true) :
    putClock f frames = frames ++ [.clock f] := by
  induction frames with
  | nil => rfl
  | cons y ys ih =>
    cases y with
    | clock g => cases h (.clock g) List.mem_cons_self
    | answer a => exact congrArg (.answer a :: ·) (ih fun z hz => h z (List.mem_cons_of_mem _ hz))

/-- A sent frame leaves, and the oldest one behind it begins. -/
theorem Rostrum.frameSent_cons {x : Rostrum} {frame : OutFrame} {rest : List OutFrame} (h : x.out = frame :: rest) :
    x.frameSent = { x with sending := some frame, out := rest } := by
  simp only [frameSent, feedLine, h]

theorem Rostrum.frameSent_nil {x : Rostrum} (h : x.out = []) : x.frameSent = { x with sending := none } := by
  simp only [frameSent, feedLine, h]

/-- While a frame is in transmission a new clock frame waits. -/
theorem Rostrum.showClock_busy {x : Rostrum} {now : OutFrame} (h : x.sending = some now) (f : ClockFrame) :
    x.showClock f = { x with out := putClock f x.out } :=
  feedLine_busy (x := { x with out := putClock f x.out }) h

/-- Settles O41. -/
theorem sentFramesLeaveTheirQueues : Obligations.SentFramesLeaveTheirQueues := by
  refine ⟨fun s ht => ⟨fun i line rest htickets => ?_, fun r frame rest hout => ?_, fun r hout => ?_⟩,
    fun x f a => ⟨fun hidle hnone => ?_, fun now before old after hnow hout hanswers => ?_, fun now hnow hanswers => ?_,
      fun hfull => ?_, fun hroom => ⟨fun now hnow => ?_, fun hidle hnone => ?_⟩⟩⟩
  · rw [exec_event rfl ht]
    refine congrArg Host.Outcome.next (State.modLane_congr ?_)
    rw [htickets]
    rfl
  · rw [exec_event rfl ht]
    exact congrArg Host.Outcome.next (State.modRostrum_congr (Rostrum.frameSent_cons hout))
  · rw [exec_event rfl ht]
    exact congrArg Host.Outcome.next (State.modRostrum_congr (Rostrum.frameSent_nil hout))
  · simp only [Rostrum.showClock, Rostrum.feedLine, hidle, hnone, putClock]
  · rw [Rostrum.showClock_busy hnow, hout, putClock_replaces f old after hanswers]
  · rw [Rostrum.showClock_busy hnow, putClock_appends f hanswers]
  · exact if_pos hfull
  · exact (if_neg (Nat.not_le.mpr hroom)).trans (Rostrum.feedLine_busy (x := { x with out := x.out ++ [.answer a] }) hnow)
  · refine (if_neg (Nat.not_le.mpr hroom)).trans ?_
    simp only [Rostrum.feedLine, hidle, hnone, List.nil_append]

end Sys2Proof.Machine
end

section
/-! PROOF. The accounts (chapter 5): opening, changing and closing them, and payments. -/

namespace Sys2Proof.Machine

/-! ## ADD ACCOUNT, ACCOUNT SET, CLOSE ACCOUNT (R97, R98, R102) -/

theorem accountNumberOk_iff (number : Nat) : accountNumberOk number = true ↔ 1 ≤ number ∧ number ≤ 9999 := decide_eq_true_iff

/-- A request that names an account with a record. -/
theorem onAccount_of_account {number : Nat} {a : Account} {s : State} (hnumber : 1 ≤ number) (hnumber' : number ≤ 9999)
    (ha : s.account? number = some a) (f : Account → State → State × Reply) : onAccount number f s = f a s := by
  simp only [onAccount, (accountNumberOk_iff number).mpr ⟨hnumber, hnumber'⟩, ha, Bool.not_true, Bool.false_eq_true, if_false]

theorem given_getD {α : Type} (p : Bool) (x d : α) : (given p x).getD d = if p then x else d := by cases p <;> rfl

theorem given_map_getD {α β : Type} (p : Bool) (x : α) (f : α → β) (d : β) :
    ((given p x).map f).getD d = if p then f x else d := by cases p <;> rfl

theorem given_any {α : Type} (p : Bool) (x : α) (f : α → Bool) : (given p x).any f = (p && f x) := by cases p <;> rfl

theorem given_bind {α β : Type} (p : Bool) {x : α} {y : β} {f : α → Option β} (h : f x = some y) :
    (given p x).bind f = given p y := by
  cases p with
  | false => rfl
  | true => exact h

/-- What ACCOUNT SET makes of a record (R98). -/
theorem Account.change_given (a : Account) (p q r : Bool) (limit cls : Nat) (state : AccountState) :
    a.change (given p limit) (given q cls) (given r state) =
      { a with
        limit := if p then max limit ((a.reserved : Int) - a.balance).toNat else a.limit
        cls := if q then cls else a.cls, state := if r then state else a.state } := by
  simp only [change, leastLimit, given_getD, given_map_getD]

/-- A limit is raised when it is below reserved less balance (R98). -/
theorem Account.lt_leastLimit_iff (a : Account) (limit : Nat) :
    limit < a.leastLimit ↔ (limit : Int) < (a.reserved : Int) - a.balance := by
  unfold leastLimit
  omega

theorem State.iceOrdersOf_eq_zero_iff (s : State) (number : Nat) :
    s.iceOrdersOf number = 0 ↔ ∀ b, ∀ o ∈ (s.bay b).order, o.account ≠ number := by
  rw [iceOrdersOf, List.length_eq_zero_iff, List.filter_eq_nil_iff]
  constructor
  · intro h b o ho heq
    exact h b (Ledger.mem_all4 b) ((Option.any_eq_true _ _).mpr ⟨o, ho, beq_iff_eq.mpr heq⟩)
  · intro h b _ hany
    obtain ⟨o, ho, heq⟩ := (Option.any_eq_true _ _).mp hany
    exact h b o ho (beq_iff_eq.mp heq)

theorem State.gateOf_eq_none_iff (s : State) (number : Nat) :
    s.gateOf number = none ↔ ∀ g, ∀ w ∈ (s.gate g).session, w.account ≠ number := by
  rw [gateOf, List.find?_eq_none]
  constructor
  · intro h g w hw heq
    have hg : g ∈ all2 := by fin_cases g <;> decide
    exact h g hg ((Option.any_eq_true _ _).mpr ⟨w, hw, beq_iff_eq.mpr heq⟩)
  · intro h g _ hany
    obtain ⟨w, hw, heq⟩ := (Option.any_eq_true _ _).mp hany
    exact h g w hw (beq_iff_eq.mp heq)

theorem addAccount_new {number kindCode limit cls : Nat} {kind : AccountKind} {s : State} (hkind : accountKind? kindCode = some kind)
    (hnumber : 1 ≤ number ∧ number ≤ 9999) (hlimit : limit ≤ 50000000) (hcls : cls ≤ 3) (hnone : s.account? number = none)
    (hroom : s.accountTable.accounts.length < 512) :
    addAccount number kindCode limit cls s =
      accept (s.addAccount (Account.opened number kind limit cls)) (be 2 (s.accountTable.recordCount + 1)) := by
  have hok : ¬ (¬ accountNumberOk number = true ∨ Config.maxLimit < limit ∨ 3 < cls) := by
    rw [accountNumberOk_iff]
    exact not_or.mpr ⟨not_not.mpr hnumber, by unfold Config.maxLimit; omega⟩
  simp only [addAccount, hkind, Bool.not_eq_true', ← Bool.not_eq_true, if_neg hok, hnone, Option.isSome_none, Bool.false_eq_true,
    if_false, if_neg (Nat.not_le.mpr hroom), Config.maxAccounts]

/-- Settles O42. -/
theorem accountsAreAddedSetAndClosed : Obligations.AccountsAreAddedSetAndClosed := by
  intro number limit cls s ht hn hn' hlimit hcls
  refine ⟨fun kind kindCode hkind hnone hroom => ?_, fun presence state stateCode a hpresence hstate ha => ?_,
    fun a ha hbalance hreserved hholding hlots hdesks hice hgate => ?_⟩
  · refine exec_judged rfl ht (addAccount_new ?_ ⟨hn, hn'⟩ hlimit hcls hnone hroom)
    rcases hkind with ⟨rfl, rfl⟩ | ⟨rfl, rfl⟩ <;> rfl
  · have hstate' : accountState? stateCode = some state := by rcases hstate with ⟨rfl, rfl⟩ | ⟨rfl, rfl⟩ <;> rfl
    have hcode : stateCode ≤ 1 := by rcases hstate with ⟨rfl, -⟩ | ⟨rfl, -⟩ <;> decide
    have hok :
        ¬ (7 < presence ∨ (given (presence.testBit 0) limit).any (Config.maxLimit < ·) ∨
          (given (presence.testBit 1) cls).any (3 < ·) ∨ (given (presence.testBit 2) stateCode).any (1 < ·)) := by
      simp only [given_any, Bool.and_eq_true, decide_eq_true_eq, Config.maxLimit]
      omega
    have hjudge :
        accountSet number presence limit cls stateCode s =
          accountSetOn (given (presence.testBit 0) limit) (given (presence.testBit 1) cls) (given (presence.testBit 2) state) a
            s := by
      simp only [accountSet, if_neg hok, given_bind _ hstate', onAccount_of_account hn hn' ha]
    rw [exec_request rfl ht, hjudge, accountSetOn]
    simp only [Account.change_given, given_any, Bool.and_eq_true, decide_eq_true_eq, Account.lt_leastLimit_iff,
      State.account?_number ha]
    rfl
  · have hnumber := State.account?_number ha
    have hreason : s.closeReason a = none := by
      refine (s.closeReason_eq_none_iff a).mpr ⟨hbalance, hreserved, fun x hx => ?_, hlots, hdesks, ?_, ?_⟩
      · obtain ⟨i, hi, rfl⟩ := List.getElem_of_mem hx
        exact hholding ⟨i, by simpa using hi⟩
      · exact (s.iceOrdersOf_eq_zero_iff a.number).mpr (hnumber ▸ hice)
      · exact (s.gateOf_eq_none_iff a.number).mpr (hnumber ▸ hgate)
    refine exec_judged rfl ht ?_
    rw [onAccount_of_account hn hn' ha, closeAccountOn, hreason, State.account?_number ha]
    rfl

/-! ## Payments (R103, R104) -/

theorem paymentOk_iff (amount : Nat) : paymentOk amount = true ↔ 1 ≤ amount ∧ amount ≤ 1000000000 := decide_eq_true_iff

/-- A posting on an account that exists, with the cash counter that moves with it. -/
theorem State.modHall_post {s : State} {number : Nat} {a : Account} (ha : s.account? number = some a) (d : Int)
    (f : HallCounters → HallCounters) :
    (s.post number d).modHall f =
      { s with
        accountTable :=
          { s.accountTable with
            accounts := s.accountTable.accounts.map fun x => if x.number = number then { x with balance := x.balance + d } else x
            balanceSum := s.accountTable.balanceSum + d, hall := f s.accountTable.hall } } := by
  simp only [post, ha]
  rfl

/-- The balance and the available credit after a posting, as the answer carries them. -/
theorem State.moneyBytes_post {s : State} {number : Nat} {a : Account} (ha : s.account? number = some a) (d : Int)
    (f : HallCounters → HallCounters) :
    ((s.post number d).modHall f).moneyBytes number = beInt 4 (a.balance + d) ++ beInt 4 (a.available + d) := by
  have havailable : ({ a with balance := a.balance + d } : Account).available = a.available + d := by
    simp only [Account.available]
    omega
  simp only [moneyBytes, available, account?_modHall_frame, account?_post, ha, Option.map_some, if_pos (account?_number ha),
    Option.getD_some, havailable]

/-- A payment outside its ranges, one for an unknown account, and one that the account's record judges. -/
theorem onAccount_payment (number amount : Nat) (f : Account → State → State × Reply) (s : State) :
    (if !paymentOk amount then refuse s .range else onAccount number f s) =
      if number < 1 ∨ 9999 < number ∨ amount < 1 ∨ 1000000000 < amount then refuse s .range
      else
        match s.account? number with
        | none => refuse s .noAccount
        | some a => f a s := by
  by_cases hamount : 1 ≤ amount ∧ amount ≤ 1000000000
  · have hpayment : paymentOk amount = true := (paymentOk_iff amount).mpr hamount
    by_cases hnumber : 1 ≤ number ∧ number ≤ 9999
    · have hok : accountNumberOk number = true := (accountNumberOk_iff number).mpr hnumber
      rw [hpayment, onAccount, hok, if_neg (show ¬ (number < 1 ∨ 9999 < number ∨ amount < 1 ∨ 1000000000 < amount) by omega)]
      rfl
    · have hok : accountNumberOk number = false := Bool.eq_false_iff.mpr fun h => hnumber ((accountNumberOk_iff number).mp h)
      rw [hpayment, onAccount, hok, if_pos (show number < 1 ∨ 9999 < number ∨ amount < 1 ∨ 1000000000 < amount by omega)]
      rfl
  · have hpayment : paymentOk amount = false := Bool.eq_false_iff.mpr fun h => hamount ((paymentOk_iff amount).mp h)
    rw [hpayment, if_pos (show number < 1 ∨ 9999 < number ∨ amount < 1 ∨ 1000000000 < amount by omega)]
    rfl

/-- Settles O43. -/
theorem paymentsAreR103AndR104 : Obligations.PaymentsAreR103AndR104 := by
  intro number amount s ht bad moved hall
  refine ⟨?_, ?_⟩
  · rw [exec_request rfl ht, paymentIn, onAccount_payment]
    by_cases hbad : bad
    · rw [if_pos hbad, if_pos hbad]
      rfl
    · rw [if_neg hbad, if_neg hbad]
      cases ha : s.account? number with
      | none => rfl
      | some a =>
        simp only [paymentInOn, State.account?_number ha]
        by_cases hmax : 2000000000 < a.balance + amount
        · have hcan : a.canCredit amount = false := decide_eq_false (not_le.mpr hmax)
          rw [if_pos hmax, hcan]
          rfl
        · have hcan : a.canCredit amount = true := decide_eq_true (not_lt.mp hmax)
          rw [if_neg hmax, hcan, Bool.not_true, if_neg Bool.false_ne_true, State.credit, State.moneyBytes_post ha,
            State.modHall_post ha]
          rfl
  · rw [exec_request rfl ht, paymentOut, onAccount_payment]
    by_cases hbad : bad
    · rw [if_pos hbad, if_pos hbad]
      rfl
    · rw [if_neg hbad, if_neg hbad]
      cases ha : s.account? number with
      | none => rfl
      | some a =>
        simp only [paymentOutOn, State.account?_number ha]
        by_cases hcredit : a.available < amount
        · rw [if_pos hcredit, if_pos hcredit]
        · rw [if_neg hcredit, if_neg hcredit, State.debit, State.moneyBytes_post ha, State.modHall_post ha]
          rfl

end Sys2Proof.Machine
end

section
/-! PROOF. The crate pool (chapter 6): issues, returns, transfers, the fleet. -/

namespace Sys2Proof.Machine

/-! ## Accounts found after a change of one record -/

section
variable {s t : State} {n : Nat} {f : Account → Account}

theorem State.account?_of_onNumber (hf : ∀ a, (f a).number = a.number) (h : t.accounts = s.accounts.map (·.onNumber n f)) (m : Nat) :
    t.account? m = (s.account? m).map (·.onNumber n f) := by
  show t.accounts.find? _ = _
  rw [h, List.find?_map]
  refine congrArg _ (congrArg (fun p => List.find? p _) (funext fun a => ?_))
  simp only [Function.comp_apply, Account.onNumber_number n hf]

theorem State.account?_of_onNumber_self (hf : ∀ a, (f a).number = a.number) (h : t.accounts = s.accounts.map (·.onNumber n f))
    {a : Account} (ha : s.account? n = some a) : t.account? n = some (f a) := by
  rw [account?_of_onNumber hf h, ha, Option.map_some, Account.onNumber_self (account?_number ha)]

theorem State.account?_of_onNumber_ne (hf : ∀ a, (f a).number = a.number) (h : t.accounts = s.accounts.map (·.onNumber n f))
    {m : Nat} (hm : m ≠ n) : t.account? m = s.account? m := by
  rw [account?_of_onNumber hf h]
  cases ha : s.account? m with
  | none => rfl
  | some a => rw [Option.map_some, Account.onNumber_ne (by rw [account?_number ha]; exact hm)]

end

/-! ## CRATE ISSUE (R120, R121) -/

theorem crateCountOk_iff (n : Nat) : crateCountOk n = true ↔ 1 ≤ n ∧ n ≤ 999 := decide_eq_true_iff

theorem State.account?_modHolding_isSome (s : State) (n : Nat) (t : Fin 8) (g : Nat → Nat) (m : Nat) :
    ((s.modHolding n t g).account? m).isSome = (s.account? m).isSome :=
  account?_modAccount_isSome s n m (fun a => { a with holding := bump a.holding t g }) fun _ => rfl

/-- A state that differs in the crate pool and the account table alone. -/
theorem State.eq_of_pool {s t : State} (hlanes : t.lanes = s.lanes) (hlots : t.lotTable = s.lotTable)
    (ha : t.rostrumA = s.rostrumA) (hb : t.rostrumB = s.rostrumB) (hice : t.ice = s.ice) (hstore : t.store = s.store)
    (hsupply : t.supply = s.supply) (hport : t.port = s.port) (hfree : t.freeCount = s.freeCount)
    (hpending : t.pending = s.pending) : t = { s with crates := t.crates, accountTable := t.accountTable } := by
  rw [← hlanes, ← hlots, ← ha, ← hb, ← hice, ← hstore, ← hsupply, ← hport, ← hfree, ← hpending]

theorem State.account?_issueCrates_self {s : State} {n : Nat} {a : Account} (ha : s.account? n = some a) (t : Fin 8) (k d : Nat) :
    (s.issueCrates n t k d).account? n =
      some { a with balance := a.balance - (k * d : Nat), holding := a.holding.set t (a.holding[t] + k) } :=
  account?_of_onNumber_self
    (f := fun a => { a with holding := bump a.holding t (· + k), balance := a.balance - (k * d : Nat) })
    (fun _ => rfl) (accounts_issueCrates s n t k d) ha

theorem State.accountTable_issueCrates {s : State} {n : Nat} {a : Account} (ha : s.account? n = some a) (t : Fin 8) (k d : Nat) :
    (s.issueCrates n t k d).accountTable =
      { s.accountTable with
        accounts := (s.issueCrates n t k d).accountTable.accounts, balanceSum := s.accountTable.balanceSum - (k * d : Nat)
        hall :=
          { s.accountTable.hall with depositFloat := s.accountTable.hall.depositFloat + BitVec.ofNat 64 (k * d) } } := by
  have hheld : (((s.modCrateType t fun c => { c with yard := c.yard - k }).modHolding n t (· + k)).account? n).isSome = true := by
    rw [account?_modHolding_isSome, account?_modCrateType_frame, ha]
    rfl
  have hpost := accountTable_post hheld (-((k * d : Nat) : Int))
  simp only [issueCrates, modFloat, debit, modHall_accountTable]
  rw [hpost]
  simp only [modHolding, modAccount_accountTable, modCrateType_accountTable, BitVec.ofInt_natCast, Int.sub_eq_add_neg]

theorem State.crates_issueCrates (s : State) (n : Nat) (t : Fin 8) (k d : Nat) :
    (s.issueCrates n t k d).crates = (s.modCrateType t fun c => { c with yard := c.yard - k }).crates := by
  simp [issueCrates, modFloat, debit, modHolding]

theorem State.crateType_congr {s u : State} (h : u.crates = s.crates) (t : Fin 8) : u.crateType t = s.crateType t := by
  unfold crateType
  rw [h]

theorem State.gate_congr {s u : State} (h : u.crates = s.crates) (g : Fin 2) : u.gate g = s.gate g := by
  unfold gate
  rw [h]

/-- Settles O45: the number left after both clamps is issued. -/
theorem crateIssueIsClamped : Obligations.CrateIssueIsClamped := by
  intro number crateType n d t a s yard m ht hn hn' htype hcount hcount' ha hopen hdeposit hyard hm
  have hnumber := State.account?_number ha
  have hself := State.account?_issueCrates_self ha t m d
  refine ⟨s.issueCrates number t m d, exec_judged (a := if m < n then .clamped else .ok) rfl ht ?_, ?_, fun v hv => ?_, fun g => ?_,
    hself, fun k hk => ?_, State.accountTable_issueCrates ha t m d, ?_⟩
  · have hclamp : issueClamp n (s.crateType t).yard a.available d = m := rfl
    have hok : crateCountOk n = true := (crateCountOk_iff n).mpr ⟨hcount, hcount'⟩
    have havailable :
        ({ a with balance := a.balance - (m * d : Nat), holding := a.holding.set t (a.holding[t] + m) } : Account).available =
          a.available - (m * d : Nat) := by
      simp only [Account.available]
      omega
    have hanswer : (s.issueCrates number t m d).available number = a.available - (m * d : Nat) := by
      rw [State.available, hself, Option.map_some, Option.getD_some, havailable]
    simp only [crateIssue, htype, hok, Bool.not_true, Bool.false_eq_true, if_false]
    rw [onAccount_of_account hn hn' ha]
    simp only [crateIssueOn, hopen, hdeposit, hclamp, hnumber, reduceCtorEq, if_false, if_neg (show m ≠ 0 by omega), hanswer]
    exact if_neg hyard.ne'
  · rw [State.crateType_congr (s.crates_issueCrates number t m d), State.crateType_modCrateType_self]
  · rw [State.crateType_congr (s.crates_issueCrates number t m d), State.crateType_modCrateType, if_neg hv]
  · exact State.gate_congr (s.crates_issueCrates number t m d) g
  · exact State.account?_of_onNumber_ne (f := fun a =>
      { a with holding := bump a.holding t (· + m), balance := a.balance - (m * d : Nat) }) (fun _ => rfl)
      (State.accounts_issueCrates s number t m d) hk
  · obtain ⟨hlanes, hlots, hra, hrb, hice, hstore, hsupply, hport, hfree, hpending⟩ := s.issueCrates_frame number t m d
    exact State.eq_of_pool hlanes hlots hra hrb hice hstore hsupply hport hfree hpending

/-! ## CRATE TRANSFER and FLEET ADJUST (R128, R129) -/

/-- One account's record after a transfer: the giver gives crates for their deposit, the taker takes them. -/
def transferredAt (giver taker : Nat) (t : Fin 8) (n d : Nat) (a : Account) : Account :=
  (((a.onNumber giver fun a => { a with holding := bump a.holding t (· - n) }).onNumber taker fun a =>
    { a with holding := bump a.holding t (· + n) }).onNumber taker fun a =>
    { a with balance := a.balance - (n * d : Nat) }).onNumber giver fun a => { a with balance := a.balance + (n * d : Nat) }

theorem transferredAt_number (giver taker : Nat) (t : Fin 8) (n d : Nat) (a : Account) :
    (transferredAt giver taker t n d a).number = a.number := by
  unfold transferredAt
  rw [Account.onNumber_number, Account.onNumber_number, Account.onNumber_number, Account.onNumber_number]
  all_goals exact fun _ => rfl

theorem State.account?_transferCrates (s : State) (giver taker : Nat) (t : Fin 8) (n d m : Nat) :
    (s.transferCrates giver taker t n d).account? m = (s.account? m).map (transferredAt giver taker t n d) := by
  show (s.transferCrates giver taker t n d).accounts.find? _ = _
  have hmap : (s.transferCrates giver taker t n d).accounts = s.accounts.map (transferredAt giver taker t n d) := by
    rw [accounts_transferCrates]
    simp only [List.map_map]
    rfl
  rw [hmap, List.find?_map]
  refine congrArg _ (congrArg (fun p => List.find? p _) (funext fun a => ?_))
  simp only [Function.comp_apply, transferredAt_number]

theorem transferredAt_giver {giver taker : Nat} (hne : giver ≠ taker) (t : Fin 8) (n d : Nat) {a : Account} (ha : a.number = giver) :
    transferredAt giver taker t n d a =
      { a with balance := a.balance + (n * d : Nat), holding := a.holding.set t (a.holding[t] - n) } := by
  simp [transferredAt, Account.onNumber, ha, hne, bump]

theorem transferredAt_taker {giver taker : Nat} (hne : giver ≠ taker) (t : Fin 8) (n d : Nat) {a : Account} (ha : a.number = taker) :
    transferredAt giver taker t n d a =
      { a with balance := a.balance - (n * d : Nat), holding := a.holding.set t (a.holding[t] + n) } := by
  simp [transferredAt, Account.onNumber, ha, hne.symm, bump]

theorem transferredAt_other {giver taker : Nat} (t : Fin 8) (n d : Nat) {a : Account} (hg : a.number ≠ giver) (ht : a.number ≠ taker) :
    transferredAt giver taker t n d a = a := by
  simp [transferredAt, Account.onNumber, hg, ht]

/-- A transfer keeps the balance sum: the deposit passes from one account to the other. -/
theorem State.accountTable_transferCrates {s : State} {giver taker : Nat} (hg : (s.account? giver).isSome = true)
    (ht : (s.account? taker).isSome = true) (t : Fin 8) (n d : Nat) :
    (s.transferCrates giver taker t n d).accountTable =
      { s.accountTable with accounts := (s.transferCrates giver taker t n d).accountTable.accounts } := by
  let held := (s.modHolding giver t (· - n)).modHolding taker t (· + n)
  have hdebit := accountTable_post (s := held) (n := taker)
    (by rw [account?_modHolding_isSome, account?_modHolding_isSome]; exact ht) (-((n * d : Nat) : Int))
  have hcredit := accountTable_post (s := held.debit taker (n * d)) (n := giver)
    (by rw [debit, account?_post, Option.isSome_map, account?_modHolding_isSome, account?_modHolding_isSome]; exact hg)
    ((n * d : Nat) : Int)
  rw [debit, hdebit, Int.neg_add_cancel_right] at hcredit
  exact hcredit

theorem State.eq_of_accounts {s t : State} (hcrates : t.crates = s.crates)
    (h : t = { s with crates := t.crates, accountTable := t.accountTable }) : t = { s with accountTable := t.accountTable } := by
  rw [← hcrates]
  exact h

/-- Settles O46. -/
theorem transferAndFleetAdjust : Obligations.TransferAndFleetAdjust := by
  intro crateType t s ht htype
  refine ⟨fun giver taker n d a b hg hg' htk htk' hne hn hn' ha hb hopen hdeposit hfree hcredit hmax => ?_, fun n => ?_⟩
  · have hgiver : a.number = giver := State.account?_number ha
    have htaker : b.number = taker := State.account?_number hb
    have hgave := s.account?_transferCrates giver taker t n d giver
    have htook := s.account?_transferCrates giver taker t n d taker
    rw [ha, Option.map_some, transferredAt_giver hne t n d hgiver] at hgave
    rw [hb, Option.map_some, transferredAt_taker hne t n d htaker] at htook
    refine ⟨s.transferCrates giver taker t n d, exec_judged rfl ht ?_, hgave, htook, fun k hk hk' => ?_,
      State.accountTable_transferCrates (by rw [ha]; rfl) (by rw [hb]; rfl) t n d, ?_⟩
    · have hok : crateCountOk n = true := (crateCountOk_iff n).mpr ⟨hn, hn'⟩
      have hgok : accountNumberOk giver = true := (accountNumberOk_iff giver).mpr ⟨hg, hg'⟩
      have htok : accountNumberOk taker = true := (accountNumberOk_iff taker).mpr ⟨htk, htk'⟩
      have hshort : ¬ a.free t < n := Nat.not_lt.mpr hfree
      have hcan : a.canCredit (n * d) = true := decide_eq_true hmax
      have havailable :
          ({ b with balance := b.balance - (n * d : Nat), holding := b.holding.set t (b.holding[t] + n) } : Account).available =
            b.available - (n * d : Nat) := by
        simp only [Account.available]
        omega
      have hleft : (s.transferCrates giver taker t n d).holdingOf giver t = a.holding[t] - n := by
        simp [State.holdingOf, hgave]
      have htaken : (s.transferCrates giver taker t n d).holdingOf taker t = b.holding[t] + n := by
        simp [State.holdingOf, htook]
      have hpaid : (s.transferCrates giver taker t n d).available taker = b.available - (n * d : Nat) := by
        rw [State.available, htook, Option.map_some, Option.getD_some, havailable]
      simp only [crateTransfer, htype, hgok, htok, hok, hne, Bool.not_true, Bool.false_eq_true, or_self, if_false, ha, hb,
        crateTransferOn, hopen, hdeposit, if_neg hshort, if_neg (not_lt.mpr hcredit), hcan, hgiver, htaker, reduceCtorEq,
        hleft, htaken, hpaid]
      rfl
    · rw [State.account?_transferCrates]
      cases hk'' : s.account? k with
      | none => rfl
      | some c =>
        have hc := State.account?_number hk''
        rw [Option.map_some, transferredAt_other t n d (hc ▸ hk) (hc ▸ hk')]
    · obtain ⟨hlanes, hlots, hra, hrb, hcrates, hice, hstore, hsupply, hport, hfreeCount, hpending⟩ :=
        s.transferCrates_frame giver taker t n d
      exact State.eq_of_accounts hcrates (State.eq_of_pool hlanes hlots hra hrb hice hstore hsupply hport hfreeCount hpending)
  · rw [exec_request rfl ht]
    have hmax : (Config.maxCount16 : Int) = 65535 := rfl
    simp only [fleetAdjust, htype, hmax]
    by_cases hn : n < -65535 ∨ 65535 < n
    · rw [if_pos hn, if_pos (by tauto)]
      rfl
    · rw [if_neg hn]
      by_cases hin : ((s.crateType t).yard : Int) + n < 0 ∨ 65535 < ((s.crateType t).fleet : Int) + n
      · rw [if_pos hin, if_pos (by tauto)]
        rfl
      · rw [if_neg hin, if_neg (by tauto)]
        rfl

/-! ## Gate frames (R122 to R124, R178) -/

/-- A readable frame names its type. -/
theorem State.readGate_some {s : State} {code : Byte} {t : Fin 8} (ht : unitIndex? 8 code.toNat = some t)
    (hd : (s.store.deposit? t).isSome = true) : s.readGate code (crc8 [code]) = some t := by
  simp only [readGate, ht, hd, and_self, if_true]

/-- A frame whose check byte, type or deposit record is bad cannot be read. -/
theorem State.readGate_none {s : State} {code check : Byte}
    (h : check ≠ crc8 [code] ∨ code.toNat < 1 ∨ 8 < code.toNat ∨
      ∃ t, unitIndex? 8 code.toNat = some t ∧ s.store.deposit? t = none) : s.readGate code check = none := by
  unfold readGate
  cases ht : unitIndex? 8 code.toNat with
  | none => rfl
  | some t =>
    refine if_neg fun ⟨hcheck, hdeposit⟩ => ?_
    rcases h with h | h | h | ⟨t', ht', hnone⟩
    · exact h hcheck
    · have := unitNumber_of_unitIndex? ht
      unfold unitNumber at this
      omega
    · have := unitNumber_of_unitIndex? ht
      have := t.isLt
      unfold unitNumber at *
      omega
    · rw [ht, Option.some_inj] at ht'
      rw [ht', hnone] at hdeposit
      exact Bool.false_ne_true hdeposit

/-- A frame that cannot be read, or arrives malformed. -/
theorem State.exec_unreadable {s : State} {g : Fin 2} {code check : Byte} {c : Instr} (ht : s.trading = true)
    (hc : c = .malformedLineFrame (.gate g) ∨
      c = .gateFrame g code check ∧
        (check ≠ crc8 [code] ∨ code.toNat < 1 ∨ 8 < code.toNat ∨
          ∃ t, unitIndex? 8 code.toNat = some t ∧ s.store.deposit? t = none)) :
    exec c s = .next (s.modGate g Gate.unreadable) := by
  rcases hc with rfl | ⟨rfl, hbad⟩
  · exact exec_event (c := .malformedLineFrame (.gate g)) rfl ht
  · rw [exec_event rfl ht, gateArrival]
    simp only [readGate_none hbad]

/-- Settles O47. -/
theorem gateFramesAreCounted : Obligations.GateFramesAreCounted := by
  intro gate g s ht hgate refused
  refine ⟨fun account a hn hn' ha hidle hnone => ?_, fun code t htype hdeposit => ⟨fun w hw hroom => ?_, fun hfull => ?_⟩,
    fun code check c hc => ⟨fun hidle => ?_, fun w hw => ?_⟩⟩
  · refine exec_judged rfl ht ?_
    have hgateOf : s.gateOf account = none := (s.gateOf_eq_none_iff _).mpr hnone
    simp only [returnOpen, hgate]
    rw [onAccount_of_account hn hn' ha]
    simp only [returnOpenOn, hidle, hgateOf, Option.isSome_none, Bool.false_eq_true, if_false, State.account?_number ha]
    rfl
  · rw [exec_event rfl ht, State.gateArrival]
    simp only [State.readGate_some htype hdeposit, hw, Config.maxSession, if_pos hroom, bump]
  · have hexec : exec (.gateFrame g code (crc8 [code])) s = .next (s.strayCrate g t) := by
      rw [exec_event rfl ht, State.gateArrival]
      rcases hfull with hidle | ⟨w, hw, hfull⟩
      · simp only [State.readGate_some htype hdeposit, hidle]
      · simp only [State.readGate_some htype hdeposit, hw, Config.maxSession, if_neg (Nat.not_lt.mpr hfull)]
    refine ⟨fun hroom => ?_, fun hmax => ?_⟩
    · rw [hexec, State.strayCrate, Config.maxCount16, if_neg (Nat.not_le.mpr hroom)]
      rfl
    · rw [hexec, State.strayCrate, Config.maxCount16, if_pos hmax]
      rfl
  · rw [State.exec_unreadable ht hc]
    refine congrArg Host.Outcome.next (State.modGate_congr ?_)
    simp only [Gate.unreadable, Gate.refuseFrame, hidle]
    rfl
  · rw [State.exec_unreadable ht hc]
    refine congrArg Host.Outcome.next (State.modGate_congr ?_)
    simp only [Gate.unreadable, hw]
    rfl

/-! ## RETURN CLOSE (R125, R126) -/

theorem sumOf_eq (f : Fin 8 → Nat) : sumOf f = f 0 + f 1 + f 2 + f 3 + f 4 + f 5 + f 6 + f 7 := by
  simp only [sumOf, all8, List.map_cons, List.map_nil, List.sum_cons, List.sum_nil]
  omega

theorem tableOf_get (f : Fin 8 → Nat) (t : Fin 8) : (tableOf f)[t] = f t := by
  match t with
  | 0 | 1 | 2 | 3 | 4 | 5 | 6 | 7 => rfl

/-- A change of each listed entry, once. -/
theorem get_foldl_bump (g : Fin 8 → Nat → Nat) (i : Fin 8) :
    ∀ {ts : List (Fin 8)} (v : Vector Nat 8), ts.Nodup →
      (ts.foldl (fun v t => bump v t (g t)) v)[i] = if i ∈ ts then g i v[i] else v[i] := by
  intro ts
  induction ts with
  | nil => simp
  | cons t ts ih =>
    intro v hnodup
    obtain ⟨ht, hts⟩ := List.nodup_cons.mp hnodup
    rw [List.foldl_cons, ih _ hts, bump, vector_get_set]
    by_cases hit : i = t
    · subst hit
      simp [ht]
    · simp [hit]

theorem State.get_settledHolding (w : Session) (a : Account) (v : Vector Nat 8) (t : Fin 8) :
    (settledHolding w a all8 v)[t] = v[t] - w.credited a t := by
  rw [settledHolding, get_foldl_bump (fun t x => x - w.credited a t) t v (by decide), if_pos (mem_all8 t)]

/-- What a settlement makes of a crate type (R126). -/
def settledType (w : Session) (a : Account) (t : Fin 8) (c : CrateType) : CrateType :=
  { yard := c.yard + w.counted[t], fleet := c.fleet + w.excess a t
    strays := min (c.strays + w.excess a t) Config.maxCount16 }

theorem State.crates_foldl_settleType (w : Session) (a : Account) (ts : List (Fin 8)) :
    ∀ {s u : State}, s.crates = u.crates →
      (ts.foldl (settleType w a) s).crates = (ts.foldl (fun s t => s.modCrateType t (settledType w a t)) u).crates := by
  induction ts with
  | nil => exact id
  | cons t ts ih =>
    intro s u h
    refine ih ?_
    show (s.modCrateType t (settledType w a t)).crates = (u.modCrateType t (settledType w a t)).crates
    rw [modCrateType, modCrateType, h]

theorem State.gate_foldl_modCrateType (f : Fin 8 → CrateType → CrateType) (ts : List (Fin 8)) (s : State) (g : Fin 2) :
    (ts.foldl (fun s t => s.modCrateType t (f t)) s).gate g = s.gate g := by
  induction ts generalizing s with
  | nil => rfl
  | cons t ts ih => exact ih (s.modCrateType t (f t))

theorem State.crateType_modGate (s : State) (g : Fin 2) (f : Gate → Gate) (t : Fin 8) :
    (s.modGate g f).crateType t = s.crateType t := rfl

/-- The crate pool after a settlement, but for the gate (R126). -/
theorem State.crates_settle (s : State) (g : Fin 2) (w : Session) (a : Account) :
    (s.settle g w a).crates =
      ((all8.foldl (fun s t => s.modCrateType t (settledType w a t)) s).modGate g fun x =>
        { x with
          session := none
          lastClose :=
            some
              { account := a.number, credited := tableOf (w.credited a), excess := tableOf (w.excess a), rejected := w.rejected
                deposit := s.closeDeposit w a } }).crates := by
  have hpool :
      (((all8.foldl (settleType w a) s).credit a.number (s.closeDeposit w a)).modFloat
        (-(s.closeDeposit w a : Int))).crates = (all8.foldl (fun s t => s.modCrateType t (settledType w a t)) s).crates := by
    rw [← crates_foldl_settleType w a all8 (s := s) rfl]
    simp [modFloat, credit]
  rw [settle]
  simp only [modGate]
  rw [hpool]

theorem State.accountTable_settle {s : State} {w : Session} {a : Account} (ha : (s.account? a.number).isSome = true) (g : Fin 2) :
    (s.settle g w a).accountTable =
      { s.accountTable with
        accounts := (s.settle g w a).accountTable.accounts, balanceSum := s.accountTable.balanceSum + s.closeDeposit w a
        hall :=
          { s.accountTable.hall with
            depositFloat := s.accountTable.hall.depositFloat - BitVec.ofNat 64 (s.closeDeposit w a) } } := by
  have htable (ts : List (Fin 8)) (u : State) :
      (ts.foldl (settleType w a) u).accountTable =
        { u.accountTable with accounts := (ts.foldl (settleType w a) u).accountTable.accounts } := by
    induction ts generalizing u with
    | nil => rfl
    | cons t ts ih => exact ih (settleType w a u t)
  have hheld (ts : List (Fin 8)) (u : State) (hu : (u.account? a.number).isSome = true) :
      ((ts.foldl (settleType w a) u).account? a.number).isSome = true := by
    induction ts generalizing u with
    | nil => exact hu
    | cons t ts ih => exact ih _ (by rw [settleType, account?_modHolding_isSome]; exact hu)
  have hpost := accountTable_post (hheld all8 s ha) (s.closeDeposit w a : Int)
  rw [htable] at hpost
  have hfloat (b d : Word64) : b + -d = b - d := (sub_eq_add_neg b d).symm
  simp only [settle, modFloat, modHall_accountTable, modGate_accountTable, credit]
  rw [hpost]
  simp only [BitVec.ofInt_neg, BitVec.ofInt_natCast, hfloat]

/-- Settles O48. -/
theorem returnCloseSettles : Obligations.ReturnCloseSettles := by
  intro gate g w a s credited excess total deposit ht hgate hw ha hfleet hmax
  have hnumber : a.number = w.account := State.account?_number ha
  have hdeposit : s.closeDeposit w a = deposit := sumOf_eq _
  have hcredited : sumOf (w.credited a) = total credited := sumOf_eq _
  have hexcess : sumOf (w.excess a) = total excess := sumOf_eq _
  have hsettled := State.account?_of_onNumber_self (n := a.number)
    (f := fun x => { x with holding := State.settledHolding w a all8 x.holding, balance := x.balance + s.closeDeposit w a })
    (fun _ => rfl) (s.accounts_settle g w a) (hnumber ▸ ha)
  refine ⟨s.settle g w a, exec_judged rfl ht ?_, fun t => ?_, ?_, fun k hk => ?_, ?_, ?_, fun h hh => ?_, ?_⟩
  · have hroom : (all8.any fun t => decide (Config.maxCount16 < (s.crateType t).fleet + w.excess a t)) = false := by
      rw [List.any_eq_false]
      intro t _
      rw [decide_eq_true_eq, not_lt]
      exact hfleet t
    have hcan : a.canCredit deposit = true := decide_eq_true hmax
    simp only [returnClose, hgate, hw, ha, returnCloseOn, hroom, hcan, Bool.not_true, Bool.false_eq_true, if_false, hcredited,
      hexcess, hdeposit]
    rfl
  · rw [State.crateType_congr (s.crates_settle g w a), State.crateType_modGate, State.crateType_foldl_modCrateType]
    rfl
  · rw [hnumber] at hsettled
    refine ⟨_, hsettled, ?_, fun t => State.get_settledHolding w a a.holding t, ?_⟩
    · rw [hdeposit]
    · rw [hnumber]
  · exact State.account?_of_onNumber_ne (n := a.number)
      (f := fun x => { x with holding := State.settledHolding w a all8 x.holding, balance := x.balance + s.closeDeposit w a })
      (fun _ => rfl) (s.accounts_settle g w a) (hnumber ▸ hk)
  · rw [← hdeposit]
    exact State.accountTable_settle (by rw [hnumber, ha]; rfl) g
  · refine ⟨{ account := a.number, credited := tableOf (w.credited a), excess := tableOf (w.excess a), rejected := w.rejected
              deposit := s.closeDeposit w a }, ?_, hnumber, rfl, hdeposit,
      fun t => ⟨tableOf_get (w.credited a) t, tableOf_get (w.excess a) t⟩⟩
    rw [State.gate_congr (s.crates_settle g w a), State.gate_modGate_self, State.gate_foldl_modCrateType]
  · rw [State.gate_congr (s.crates_settle g w a), State.gate_modGate, if_neg hh, State.gate_foldl_modCrateType]
  · obtain ⟨hlanes, hlots, hra, hrb, hice, hstore, hsupply, hport, hfree, hpending⟩ := s.settle_frame g w a
    exact State.eq_of_pool hlanes hlots hra hrb hice hstore hsupply hport hfree hpending

end Sys2Proof.Machine
end

section
/-! PROOF. The ice bays (chapter 7): orders, pulses, aborts and completions. -/

namespace Sys2Proof.Machine

/-! ## ICE ORDER (R135 to R137) -/

/-- Settles O49: the order is what both clamps leave. -/
theorem iceOrderIsClampedAndReserved : Obligations.IceOrderIsClampedAndReserved := by
  intro number bay q pulseWeight b a tariff s price free q1 q2 ht hn hn' hb hq hq' hidle ha hopen htariff hpulse hq2
  have hnumber : a.number = number := State.account?_number ha
  have hok : ¬ (¬ accountNumberOk number = true ∨ q < 1 ∨ 5000 < q) := by
    rw [accountNumberOk_iff]
    omega
  have hprice : tariff.icePrice a.kind = price := by
    unfold Tariff.icePrice
    simp only [price]
    cases a.kind <;> rfl
  have hstock : stockClamp q s.ice.free = q1 := rfl
  have hclamp : creditClamp q1 a.available price = q2 := rfl
  have hq1 : q1 ≠ 0 := by
    have : q2 ≤ q1 := creditClamp_le q1 a.available price
    omega
  have havailable :
      (s.takeOrder b (IceOrder.taken number q2 price pulseWeight)).available number = a.available - (q2 * price : Nat) := by
    have hself := State.account?_of_onNumber_self (f := fun x => { x with reserved := x.reserved + q2 * price }) (fun _ => rfl)
      (s.accounts_takeOrder b (IceOrder.taken number q2 price pulseWeight)) ha
    rw [State.available, show State.account? _ number = _ from hself, Option.map_some, Option.getD_some]
    simp only [Account.available]
    omega
  refine exec_judged (a := if q2 < q then .clamped else .ok) rfl ht ?_
  simp only [iceOrder, hb, Bool.not_eq_true', ← Bool.not_eq_true, if_neg hok, hidle, ne_eq, not_true_eq_false, if_false, ha, iceOrderOn,
    hopen, reduceCtorEq, htariff, hpulse, hprice, hstock, hclamp, hnumber, havailable]
  exact (if_neg hq1).trans (if_neg (by omega))

/-! ## Completions (R140, R141, R143) -/

/-- An order that completes right after its bay has changed: seen from before the change. -/
theorem State.OrderCompleted.of_modBay {s t : State} {b : Fin 4} {f : Bay → Bay} {o : IceOrder} {aborted : Bool} {d : Nat}
    {code : IceCode} (h : (s.modBay b f).OrderCompleted t b { o with aborted } d code)
    (hf : (f (s.bay b)).ignored = (s.bay b).ignored) : s.OrderCompleted t b o d code := by
  obtain ⟨haccount, hothers, htable, hbunker, hbay, hbays, hrest⟩ := h
  refine ⟨haccount, hothers, htable, hbunker, ?_, fun c hc => ?_, hrest⟩
  · rw [hbay, bay_modBay_self]
    simp only [hf]
  · rw [hbays c hc, bay_modBay, if_neg hc]

/-- Settles O51. -/
theorem iceCompletionCharges : Obligations.IceCompletionCharges := by
  refine ⟨fun b s ht => ⟨fun hrunning => ?_, fun hrunning => ?_⟩, fun b o a s c code ht ho ha hc => ?_⟩
  · rw [exec_event rfl ht, State.jam, (runOut_eq_false_iff _).mpr hrunning, if_neg Bool.false_ne_true]
  · rw [exec_event rfl ht, State.runOnExpiry, (runOut_eq_false_iff _).mpr hrunning, Bool.not_false, if_pos rfl]
  · refine ⟨s.completeOrder b code, ?_, State.completeOrder_completed ho ha code⟩
    rcases hc with ⟨rfl, rfl, hout⟩ | ⟨rfl, rfl, hout⟩
    · rw [exec_event rfl ht, State.jam, (runOut_iff _).mpr hout, if_pos rfl]
    · rw [exec_event rfl ht, State.runOnExpiry, (runOut_iff _).mpr hout, Bool.not_true, if_neg Bool.false_ne_true]
      simp only [ho]
      rfl

/-! ## Pulses and ICE ABORT (R139 to R142) -/

/-- A bay that enters run-on (R141): its gate is shut. -/
def Bay.shut (x : Bay) (o : IceOrder) (window : Nat) : Bay :=
  { x with
    state := .runOn, order := some o, runOnPulses := 0, pulseTimer := none, runOnTimer := some window, release := false }

/-- Run-on with a window: the timer runs. -/
theorem State.enterRunOn_window {s : State} (h : 0 < s.store.timing.runOn) (b : Fin 4) (o : IceOrder) :
    s.enterRunOn b o = s.modBay b (·.shut o s.store.timing.runOn) := if_neg h.ne'

/-- Run-on with a window of 0: the order completes at once. -/
theorem State.enterRunOn_zero {s : State} (h : s.store.timing.runOn = 0) (b : Fin 4) (o : IceOrder) :
    s.enterRunOn b o = (s.modBay b (·.shut o s.store.timing.runOn)).completeOrder b o.runOnCode := if_pos h

theorem State.enterRunOn_completed {s : State} {b : Fin 4} {o : IceOrder} {a : Account} (h : s.store.timing.runOn = 0)
    (ha : s.account? o.account = some a) :
    s.OrderCompleted (s.enterRunOn b o) b o (s.bay b).delivered o.runOnCode := by
  have hcompleted := completeOrder_completed (s := s.modBay b (·.shut o s.store.timing.runOn)) (b := b) (o := o)
    (by rw [bay_modBay_self]; rfl) ha o.runOnCode
  rw [bay_modBay_self] at hcompleted
  rw [enterRunOn_zero h]
  exact hcompleted.of_modBay (aborted := o.aborted) rfl

/-- A pulse in DISPENSING, once the bay has counted it. -/
theorem State.pulse_dispensing {s : State} {b : Fin 4} {o : IceOrder} (hs : (s.bay b).state = .dispensing)
    (ho : (s.bay b).order = some o) :
    s.pulse b =
      let counted := s.modBay b fun x =>
        { x with delivered := x.delivered + o.pulseWeight, pulseTimer := some s.store.timing.pulse }
      if o.q * 1000 ≤ (s.bay b).delivered + o.pulseWeight then counted.enterRunOn b { o with aborted := false } else counted := by
  simp only [pulse, hs, ho, dispensePulse, bay_modBay_self]

theorem State.pulse_runOn {s : State} {b : Fin 4} {o : IceOrder} (hs : (s.bay b).state = .runOn)
    (ho : (s.bay b).order = some o) : s.pulse b = s.modBay b (·.runOnPulse o) := by
  simp only [pulse, hs, ho]

theorem State.pulse_idle {s : State} {b : Fin 4} (hs : (s.bay b).state = .idle) : s.pulse b = s.modBay b Bay.ignorePulse := by
  simp only [pulse, hs]

/-- Settles O50. -/
theorem pulsesAndAborts : Obligations.PulsesAndAborts := by
  intro bay b s ht hb window ignored runOn
  have habort {x : State × Reply} (h : iceAbortOn b s = x) : iceAbort bay s = x := by
    simp only [iceAbort, hb]
    exact h
  refine ⟨fun hidle => ?_, fun hidle => ?_, fun o a ho ha => ⟨fun hs hless => ⟨?_, fun hpulse => ?_⟩, fun hs htarget =>
    ⟨fun hwindow => ?_, fun hwindow => ?_⟩, fun hs hfew => ?_, fun hs hmany => ?_, fun hs => ⟨fun hwindow => ?_, fun hwindow => ?_⟩,
    fun hs => ?_⟩⟩
  · rw [exec_event rfl ht, State.pulse_idle hidle]
    rfl
  · refine exec_judged rfl ht (habort ?_)
    simp only [iceAbortOn, hidle]
    rfl
  · rw [exec_event rfl ht, State.pulse_dispensing hs ho]
    exact congrArg _ (if_neg (Nat.not_le.mpr hless))
  · have hlate : runOut ((s.modBay b fun x =>
        { x with delivered := x.delivered + o.pulseWeight, pulseTimer := some s.store.timing.pulse }).bay b).pulseTimer =
          false := by
      rw [State.bay_modBay_self, runOut_eq_false_iff]
      simpa using hpulse
    rw [exec_event (s := s.modBay b _) rfl ht, State.jam, hlate, if_neg Bool.false_ne_true]
  · let counted := s.modBay b fun x =>
      { x with delivered := x.delivered + o.pulseWeight, pulseTimer := some s.store.timing.pulse }
    rw [exec_event rfl ht, State.pulse_dispensing hs ho]
    refine congrArg _ ((if_pos htarget).trans ((State.enterRunOn_window (s := counted) hwindow b _).trans ?_))
    exact State.modBay_modBay s b _ _
  · let counted := s.modBay b fun x =>
      { x with delivered := x.delivered + o.pulseWeight, pulseTimer := some s.store.timing.pulse }
    have hcompleted := State.enterRunOn_completed (s := counted) (b := b) (o := { o with aborted := false }) hwindow ha
    have hdelivered : (counted.bay b).delivered = (s.bay b).delivered + o.pulseWeight := by rw [State.bay_modBay_self]
    refine ⟨counted.enterRunOn b { o with aborted := false }, ?_, hdelivered ▸ hcompleted.of_modBay rfl⟩
    rw [exec_event rfl ht, State.pulse_dispensing hs ho]
    exact congrArg _ (if_pos htarget)
  · rw [exec_event rfl ht, State.pulse_runOn hs ho]
    refine congrArg Host.Outcome.next (State.modBay_congr ?_)
    exact if_pos hfew
  · rw [exec_event rfl ht, State.pulse_runOn hs ho]
    refine congrArg Host.Outcome.next (State.modBay_congr ?_)
    exact if_neg (Nat.not_lt.mpr hmany)
  · refine exec_judged rfl ht (habort ?_)
    simp only [iceAbortOn, hs, ho, State.enterRunOn_window hwindow, State.bay_modBay_self]
    rfl
  · have hcompleted := State.enterRunOn_completed (s := s) (b := b) (o := { o with aborted := true }) hwindow ha
    refine ⟨s.enterRunOn b { o with aborted := true }, exec_judged rfl ht (habort ?_), ?_⟩
    · simp only [iceAbortOn, hs, ho, Bay.abortBytes, hcompleted.bay]
      rfl
    · obtain ⟨haccount, hothers, htable, hbunker, hbayAfter, hbays, hrest⟩ := hcompleted
      exact ⟨haccount, hothers, htable, hbunker, hbayAfter, hbays, hrest⟩
  · refine exec_judged rfl ht (habort ?_)
    simp only [iceAbortOn, hs, ho, Bay.abortBytes]
    rfl

end Sys2Proof.Machine
end

section
/-! PROOF. The configuration store (chapter 8): writes, completions, protection and the lock. -/

namespace Sys2Proof.Machine

/-! ## STORE WRITE (R154, R156) -/

/-- The conditions of R156 over the record's two bytes, as the words of the contents. -/
theorem State.inUse_words (s : State) (id : RecordId) (contents : List Byte) :
    s.inUse id contents = true ↔
      (∃ t old, id = .crateTare t ∧ s.store.tare? t = some old ∧
        256 * (contents.getD 0 0#8).toNat + (contents.getD 1 0#8).toNat ≠ old ∧
        ∃ l ∈ s.lotTable.lots, l.state = .opened ∧ l.crateType = t) ∨
      ∃ t old, id = .crateDeposit t ∧ s.store.deposit? t = some old ∧
        256 * (contents.getD 0 0#8).toNat + (contents.getD 1 0#8).toNat ≠ old ∧
        0 < (s.accountTable.accounts.map fun a => a.holding[t]).sum := by
  rw [inUse_iff, field_zero_two]
  rfl

/-- STORE WRITE past the conditions that come before R156's. -/
theorem storeWrite_inUse_or_held {selector : Nat} {bytes : List Byte} {id : RecordId} {s : State}
    (hid : RecordId.ofSelector selector = some id) (hok : id.contentsOk (padTo id.length bytes) = true)
    (hlock : id.isMetrology = true → s.store.locked = false) (htariff : id.isTariff = true → s.store.activeTariff = false)
    (htiming : id = .timing → s.store.activeTiming = false) (hempty : s.store.buffer = none) :
    storeWrite selector bytes s =
      if s.laneInUse id || s.inUse id (padTo id.length bytes) then refuse s .inUse
      else (s.modStore (·.begin id (padTo id.length bytes)), { code := .pending, data := [id.selector] }) := by
  have hlock' : (id.isMetrology && s.store.locked) = false := by
    cases h : id.isMetrology with
    | false => rfl
    | true => exact hlock h
  have htariff' : (id.isTariff && s.store.activeTariff) = false := by
    cases h : id.isTariff with
    | false => rfl
    | true => exact htariff h
  have htiming' : (id == .timing && s.store.activeTiming) = false := by
    cases h : id == .timing with
    | false => rfl
    | true => exact htiming (beq_iff_eq.mp h)
  simp only [storeWrite, hid, hok, hlock', htariff', htiming', hempty, Option.isSome_none, Bool.not_true, Bool.false_eq_true, if_false]

/-! ## Programming completion (R155, R157) -/

/-- The completion of a write that programs, while a condition of R156 holds. -/
theorem State.programmed_inUse {s : State} {w : WriteBuffer} (hw : s.store.buffer = some w) (hs : w.suspended = false)
    (h : s.inUse w.target w.contents = true) : s.programmed = s.modStore (·.complete w .inUse) := by
  simp only [programmed, hw, hs, Bool.false_eq_true, if_false, h, if_true]

/-- The completion of a write that programs and that nothing stops. -/
theorem State.programmed_ok {s : State} {w : WriteBuffer} (hw : s.store.buffer = some w) (hs : w.suspended = false)
    (h : s.inUse w.target w.contents = false) : s.programmed = (s.modStore (·.complete w .ok)).writeEffect w.target := by
  simp only [programmed, hw, hs, Bool.false_eq_true, if_false, h]

/-- A record that a completion has made live. -/
theorem Store.contents?_complete {st : Store} {w : WriteBuffer} (hw : st.buffer = some w) :
    (st.complete w .ok).contents? w.target = some w.contents := by
  have hlive : (st.complete w .ok).live w.target = StoreRecord.written w.contents := by
    rw [live_complete hw]
    exact if_pos ⟨rfl, rfl⟩
  rw [contents?, hlive]
  rfl

theorem Store.timing_complete {st : Store} {w : WriteBuffer} (hw : st.buffer = some w) (ht : w.target = .timing) :
    (st.complete w .ok).timing = timingOf w.contents := by
  have h := contents?_complete hw
  rw [ht] at h
  rw [timing, h, Option.map_some, Option.getD_some]

theorem Store.laneCal_complete {st : Store} {w : WriteBuffer} (hw : st.buffer = some w) {i : Fin 8} (ht : w.target = .laneCal i) :
    (st.complete w .ok).laneCal i = laneCalOf w.contents := by
  have h := contents?_complete hw
  rw [ht] at h
  rw [laneCal, laneCal?, h, Option.map_some, Option.getD_some]

/-- A completed write of neither a calibration nor the timing record does nothing at the blocks. -/
theorem State.writeEffect_other (s : State) {id : RecordId} (hlane : ∀ i, id ≠ .laneCal i) (htiming : id ≠ .timing) :
    s.writeEffect id = s := by
  cases id with
  | laneCal i => exact absurd rfl (hlane i)
  | timing => exact absurd rfl htiming
  | _ => rfl

/-- The active codes in one record: what moves with the level, and what the filter code alone leaves (R162). -/
theorem Supply.setCodes_eq (p : Supply) (level filter : Nat) :
    p.setCodes level filter =
      { p with
        levelCode := level, filterCode := filter, suspend := if level ≠ p.levelCode then some 2 else p.suspend
        state := if level ≠ p.levelCode ∧ p.state = .low then .normal else p.state
        persistence := if level ≠ p.levelCode ∧ p.state = .low then none else p.persistence } := by
  by_cases h : level = p.levelCode
  · rw [setCodes, if_pos h]
    simp [h]
  · rw [setCodes, if_neg h]
    simp [h, Config.suspendTime]

/-- A calibration that changes under a lane in use. -/
theorem State.calibrationChange_inUse {s : State} {i : Fin 8} (h : (s.lane i).state ≠ .off) :
    s.calibrationChange i = (s.failWeighing i .calChanged).modLane i fun l => l.settleAtCal (s.store.laneCal i) := by
  have hstore : (s.failWeighing i .calChanged).store = s.store := by simp [failWeighing]
  rw [calibrationChange, if_neg h]
  simp only [hstore]

/-- Settles O53. -/
theorem storeWritesProgramAndComplete : Obligations.StoreWritesProgramAndComplete := by
  refine ⟨fun selector bytes id s => ?_, fun w s ht hw hs => ?_⟩
  · intro contents ht hid hok hlock htariff htiming hempty held
    have hjudge := storeWrite_inUse_or_held hid hok hlock htariff htiming hempty
    refine ⟨fun hbusy => ?_, fun hweighed hinUse => ?_, fun other => Store.live_begin hempty ..⟩
    · have hin : (s.laneInUse id || s.inUse id contents) = true :=
        (Bool.or_eq_true ..).mpr (hbusy.imp (s.laneInUse_iff id).mpr (s.inUse_words id contents).mpr)
      exact exec_judged rfl ht (hjudge.trans (if_pos hin))
    · have hout : ¬ (s.laneInUse id || s.inUse id contents) = true := fun h =>
        ((Bool.or_eq_true ..).mp h).elim (fun h => hweighed ((s.laneInUse_iff id).mp h))
          fun h => hinUse ((s.inUse_words id contents).mp h)
      exact exec_judged rfl ht (hjudge.trans (if_neg hout))
  · intro live settled codes
    have hexec : exec .programmingCompletion s = .next s.programmed := exec_event rfl ht
    refine ⟨fun hinUse => ?_, fun hinUse => ?_⟩
    · rw [hexec, State.programmed_inUse hw hs ((s.inUse_words _ _).mpr hinUse)]
      rfl
    · have hout : s.inUse w.target w.contents = false :=
        Bool.eq_false_iff.mpr fun h => hinUse ((s.inUse_words _ _).mp h)
      have hdone : exec .programmingCompletion s = .next (live.writeEffect w.target) := by
        rw [hexec, State.programmed_ok hw hs hout]
        rfl
      refine ⟨fun hlane htiming => ?_, fun htiming => ?_, fun i hcal => ⟨fun hoff => ?_, fun huse => ?_⟩⟩
      · rw [hdone, State.writeEffect_other _ hlane htiming]
      · have hcodes : live.store.timing = timingOf w.contents := Store.timing_complete hw htiming
        rw [hdone, htiming]
        simp only [State.writeEffect, State.loadCodes, hcodes, Supply.setCodes_eq]
        rfl
      · rw [hdone, hcal]
        exact congrArg Host.Outcome.next (if_pos hoff)
      · have hlaneCal : live.store.laneCal i = laneCalOf w.contents := Store.laneCal_complete hw hcal
        have hchange := State.calibrationChange_inUse (s := live) huse
        rw [hlaneCal] at hchange
        have hdone' : exec .programmingCompletion s = .next (live.calibrationChange i) := by rw [hdone, hcal]; rfl
        refine ⟨fun hnone => ?_, fun p lot hp hl => ?_⟩
        · rw [hdone', hchange, State.failWeighing_none (s := live) hnone]
          rfl
        · rw [hdone', hchange, State.failWeighing, State.endWeighing_ended (s := live) hp hl (by decide)]
          rfl

end Sys2Proof.Machine
end

section
/-! PROOF. Protection and the lock (R158, R159), the supply monitor (R162, R163), RECORDS CLEAR (R168) and the request port. -/

namespace Sys2Proof.Machine

/-! ## Protection and the lock (R158, R159) -/

theorem Store.protectionFlags_valid {st : Store} {word : Byte}
    (h : st.live .protection = { valid := true, contents := [word], check := crc8 [word] }) :
    st.protectionFlags = (word.getLsbD 0, word.getLsbD 1) := by
  simp only [protectionFlags, contents?, h, if_true, List.headD_cons]

theorem Store.protectionFlags_invalid {st : Store} (h : (st.live .protection).valid = false) :
    st.protectionFlags = (false, false) := by
  simp only [protectionFlags, contents?, h, Bool.false_eq_true, if_false]

/-- LOAD PROTECTION in a store whose protection word carries two flags. -/
theorem exec_loadProtection {s : State} (ht : s.trading = true) {tariff timing : Bool}
    (h : s.store.protectionFlags = (tariff, timing)) :
    exec .loadProtection s =
      .next (s.replied (s.modStore fun st => { st with activeTariff := tariff, activeTiming := timing }) 0x72 .ok
        [flagByte tariff, flagByte timing]) := by
  have hload : s.store.loadProtection = { s.store with activeTariff := tariff, activeTiming := timing } := by
    rw [Store.loadProtection, h]
  refine exec_judged rfl ht ?_
  simp only [loadProtection, accept, State.modStore, hload]

/-- METROLOGY LOCK past LOCKED, BUSY and INVALID_CONFIG. -/
theorem metrologyLock_checked {s : State} (hlock : s.store.locked = false) (hempty : s.store.buffer = none)
    (hvalid : ∀ id ∈ RecordId.metrology, (s.store.live id).valid = true) (check : Nat) :
    metrologyLock check s =
      if check ≠ s.store.metrologyCrc.toNat then (s, { code := .mismatch, data := [s.store.metrologyCrc] })
      else (s.modStore (·.begin .lock [0x5A#8]), { code := .pending }) := by
  have hany : (RecordId.metrology.any fun id => !(s.store.live id).valid) = false := by simpa using hvalid
  simp only [metrologyLock, hlock, hempty, hany, Option.isSome_none, Bool.false_eq_true, if_false]

/-- Settles O54. -/
theorem protectionAndLock : Obligations.ProtectionAndLock := by
  intro s ht
  refine ⟨fun word h => exec_loadProtection ht (Store.protectionFlags_valid h),
    fun h => exec_loadProtection ht (Store.protectionFlags_invalid h), fun check hlock hempty hvalid => ⟨fun heq => ?_, fun hne => ?_⟩⟩
  · exact exec_judged rfl ht ((metrologyLock_checked hlock hempty hvalid check).trans (if_neg (not_not_intro heq)))
  · exact exec_judged rfl ht ((metrologyLock_checked hlock hempty hvalid check).trans (if_pos hne))

/-! ## Detection (R162, R163) -/

theorem persistenceTime_of_ne_zero {code : Nat} (h : code ≠ 0) :
    persistenceTime code = if code = 1 then 1 else if code = 2 then 4 else 16 := by
  unfold persistenceTime
  split <;> simp_all

theorem State.lowSupply_filtered {s : State} (h : s.supply.filterCode ≠ 0) :
    s.lowSupply =
      s.modSupply fun p =>
        { p with
          state := .low
          persistence := some (if p.filterCode = 1 then 1 else if p.filterCode = 2 then 4 else 16) } := by
  rw [lowSupply, if_neg h]
  simp only [modSupply, persistenceTime_of_ne_zero h]

theorem Supply.below_iff (p : Supply) (mv : Nat) : p.below mv = true ↔ mv < 4000 + 50 * p.levelCode := decide_eq_true_iff

/-- A fall that the monitor sees in NORMAL (R162). -/
theorem State.supplyFalls_normal {s : State} (hp : s.supply.absent = false) (hn : s.supply.state = .normal)
    (hsuspend : s.supply.suspend = none) (mv : Nat) :
    s.supplyFalls mv = if mv < 4000 + 50 * s.supply.levelCode then s.lowSupply else s := by
  simp only [supplyFalls, hp, hn, hsuspend, ← s.supply.below_iff mv]
  rfl

/-- A rise that the monitor sees in LOW (R162). -/
theorem State.supplyRises_low {s : State} (hp : s.supply.absent = false) (hl : s.supply.state = .low)
    (hsuspend : s.supply.suspend = none) (mv : Nat) :
    s.supplyRises mv = if mv < 4000 + 50 * s.supply.levelCode then s else s.modSupply Supply.toNormal := by
  simp only [supplyRises, hp, hl, hsuspend, ← s.supply.below_iff mv]
  cases s.supply.below mv <;> rfl

theorem State.persistenceExpiry_running {s : State} (h : s.supply.persistence ≠ some 0) : s.persistenceExpiry = s := by
  simp only [persistenceExpiry, (runOut_eq_false_iff _).mpr h, Bool.and_false, Bool.false_eq_true, if_false]

theorem State.suspendEnd_running {s : State} (h : s.supply.suspend ≠ some 0) (mv : Nat) : s.suspendEnd mv = s := by
  simp only [suspendEnd, (runOut_eq_false_iff _).mpr h, Bool.not_false, Bool.or_true, if_true]

/-- The end of the suspension in NORMAL (R162). -/
theorem State.suspendEnd_normal {s : State} (hp : s.supply.absent = false) (hn : s.supply.state = .normal)
    (h : s.supply.suspend = some 0) (mv : Nat) :
    s.suspendEnd mv =
      if mv < 4000 + 50 * s.supply.levelCode then (s.modSupply fun p => { p with suspend := none }).lowSupply
      else s.modSupply fun p => { p with suspend := none } := by
  simp only [suspendEnd, hp, hn, h, ← s.supply.below_iff mv]
  rfl

/-- Settles O55. -/
theorem detectionFollowsR162 : Obligations.DetectionFollowsR162 := by
  intro s hp level time low
  have hlow : s.supply.suspend = none → s.supply.filterCode ≠ 0 → s.lowSupply = low := fun hsuspend hf =>
    (State.lowSupply_filtered hf).trans (by simp only [State.modSupply, hsuspend, low, time])
  refine ⟨fun mv hn hsuspend hf => ?_, fun mv hl hsuspend => ?_, fun h => ?_, fun mv h => ?_, fun mv hn h hf => ?_, ?_⟩
  · rw [← hlow hsuspend hf]
    exact congrArg Host.Outcome.next (State.supplyFalls_normal hp hn hsuspend mv)
  · exact congrArg Host.Outcome.next (State.supplyRises_low hp hl hsuspend mv)
  · exact congrArg Host.Outcome.next (State.persistenceExpiry_running h)
  · exact congrArg Host.Outcome.next (State.suspendEnd_running h mv)
  · have hlow' : (s.modSupply fun p => { p with suspend := none }).lowSupply = low :=
      State.lowSupply_filtered (s := s.modSupply fun p => { p with suspend := none }) hf
    rw [← hlow']
    exact congrArg Host.Outcome.next (State.suspendEnd_normal hp hn h mv)
  · intro newLevel filter ht hlevel hfilter hact
    refine exec_judged rfl ht ?_
    have hrange : ¬ (11 < newLevel ∨ 3 < filter) := by omega
    have hmilli : levelMillivolts newLevel / 10 = 400 + 5 * newLevel := by rw [levelMillivolts]; omega
    simp only [supplySet, if_neg hrange, hact, Bool.false_eq_true, if_false, hmilli, accept, Supply.setCodes_eq]

/-! ## RECORDS CLEAR (R168) -/

/-- Settles O59. -/
theorem recordsClearIsR168 : Obligations.RecordsClearIsR168 := by
  refine fun s ht => ⟨fun hbusy => ?_, fun hrostra hbays hlanes hgates => ?_⟩
  · have hflight : s.inFlight = true := Bool.of_not_eq_false fun h => by
      obtain ⟨hrostra, hbays, hlanes, hgates⟩ := (State.inFlight_eq_false_iff s).mp h
      rcases hbusy with ⟨r, h⟩ | ⟨b, h⟩ | ⟨i, h⟩ | ⟨g, h⟩
      · exact h (hrostra r)
      · exact h (hbays b)
      · exact h (hlanes i)
      · exact h (hgates g)
    exact exec_judged rfl ht (if_pos hflight)
  · have hflight := (State.inFlight_eq_false_iff s).mpr ⟨hrostra, hbays, hlanes, hgates⟩
    obtain ⟨hlots, haccounts, hcrates, hstock, hreservation, hstore, hsupply, hport, hfree, hpending⟩ := State.clearRecords_frame s
    have hdone : recordsClear s = (s.clearRecords, { code := .ok }) := by rw [recordsClear, hflight]; rfl
    refine ⟨s.clearRecords, exec_judged rfl ht hdone, fun i => ?_, hlots, fun r => ?_, haccounts, fun ty => ?_, fun g => ?_, hstock,
      hreservation, fun b => ?_, hstore, hsupply, hport, hfree, hpending⟩
    · rw [State.clearRecords_lane]
      rfl
    · rw [State.clearRecords_rostrum]
      rfl
    · rw [State.crateType, hcrates]
      simp [CratePool.empty]
    · rw [State.gate, hcrates]
      simp [CratePool.empty, Gate.fresh]
    · rw [State.clearRecords_bay]
      rfl

/-! ## The request port (R169 to R174, R176) -/

/-- A count of one that holds at the top reaches the limit, or it does not (R170). -/
theorem Port.crcError_linkFault (p : Port) :
    p.crcError.linkFault = (p.linkFault || decide (p.errorLimit ≤ min (p.errorCount + 1) 15)) := rfl

/-- Settles O60. -/
theorem portFramesAreAnswered : Obligations.PortFramesAreAnswered := by
  intro s
  refine ⟨fun clocked ht => State.dataOut_idle ht clocked, fun clocked ht => State.dataOut_trading ht clocked, fun ht => ?_⟩
  refine ⟨exec_event (c := .status) rfl ht, fun setting limit hsetting hlow hhigh => ?_, exec_event (c := .shortFrame) rfl ht, fun code hcrc => ?_, fun code byte14 => ⟨fun hname => ?_, fun hname _ => ?_⟩⟩
  · have hrange : ¬ (1 < setting ∨ limit < 1 ∨ 15 < limit) := by omega
    exact exec_judged rfl ht (if_neg hrange)
  · have harrives : s.crcErrArrives code =
        (s.modPort Port.crcError).endFrame s.port.crcSetting ((s.modPort Port.crcError).formAnswer code discarded false true []) :=
      if_pos hcrc
    refine ⟨s.crcErrArrives code, exec_event rfl ht, ?_⟩
    rw [harrives]
    refine ⟨rfl, fun hlimit => ?_, fun hlimit => ?_, ?_, rfl, rfl, rfl, rfl⟩
    · exact (Port.crcError_linkFault s.port).trans (by simp [hlimit])
    · exact (Port.crcError_linkFault s.port).trans (by rw [decide_eq_false (by omega), Bool.or_false])
    · rfl
  · exact exec_judged rfl ht (by rw [unknownRequest, hname]; rfl)
  · exact exec_judged rfl ht (by rw [unknownRequest, hname]; rfl)

end Sys2Proof.Machine
end

section
/-! PROOF. The end of the work in flight (R164, R23, R32, R75, R143, R147, R160). -/

namespace Sys2Proof.Machine

/-! ## Lots that are settled (R32, R42, R50) -/

namespace Lot

theorem settled_nil (l : Lot) : l.settled [] [] [] = l := by simp [settled]

@[simp] theorem settled_key (weighed back displaced : List Key) (l : Lot) : (l.settled weighed back displaced).key = l.key := rfl

/-- A lot is settled by the keys that name it. -/
theorem settled_congr {w w' b b' d d' : List Key} {l : Lot} (hw : l.key ∈ w ↔ l.key ∈ w') (hb : l.key ∈ b ↔ l.key ∈ b')
    (hd : l.key ∈ d ↔ l.key ∈ d') : l.settled w b d = l.settled w' b' d' := by
  simp only [settled, hw, hb, hd]

/-- Settled twice, a lot that first went back to its queue not being displaced later. -/
theorem settled_settled {w b d w' b' d' : List Key} {l : Lot} (h : l.key ∈ b → l.key ∉ d') :
    (l.settled w b d).settled w' b' d' = l.settled (w ++ w') (b ++ b') (d ++ d') := by
  have hpending : (if l.key ∈ w' then none else if l.key ∈ w then none else l.pending) =
      if l.key ∈ w ++ w' then none else l.pending := by
    by_cases hw : l.key ∈ w <;> by_cases hw' : l.key ∈ w' <;> simp [hw, hw']
  have hstate :
      (if l.key ∈ b' then LotState.queued else if l.key ∈ d' then .ready else if l.key ∈ b then .queued
        else if l.key ∈ d then .ready else l.state) =
      if l.key ∈ b ++ b' then .queued else if l.key ∈ d ++ d' then .ready else l.state := by
    by_cases hb : l.key ∈ b
    · simp [hb, h hb]
    · by_cases hd' : l.key ∈ d' <;> simp [hb, hd']
  have hrostrum : (if l.key ∈ d' then none else if l.key ∈ d then none else l.rostrum) =
      if l.key ∈ d ++ d' then none else l.rostrum := by
    by_cases hd : l.key ∈ d <;> by_cases hd' : l.key ∈ d' <;> simp [hd, hd']
  have hlot := congr (congr (congrArg (fun p st r => { l with pending := p, state := st, rostrum := r }) hpending) hstate) hrostrum
  exact hlot

end Lot

/-- A table whose lots are settled. -/
def LotTable.settled (T : LotTable) (weighed back displaced : List Key) : LotTable :=
  { T with lots := T.lots.map (Lot.settled weighed back displaced) }

namespace LotTable

theorem settled_nil (T : LotTable) : T.settled [] [] [] = T := by
  have hlots : T.lots.map (Lot.settled [] [] []) = T.lots := by
    rw [List.map_congr_left (g := id) fun l _ => l.settled_nil, List.map_id]
  rw [settled, hlots]

theorem settled_congr {T : LotTable} {w w' b b' d d' : List Key} (hw : ∀ l ∈ T.lots, l.key ∈ w ↔ l.key ∈ w')
    (hb : ∀ l ∈ T.lots, l.key ∈ b ↔ l.key ∈ b') (hd : ∀ l ∈ T.lots, l.key ∈ d ↔ l.key ∈ d') :
    T.settled w b d = T.settled w' b' d' := by
  rw [settled, settled, List.map_congr_left fun l hl => Lot.settled_congr (hw l hl) (hb l hl) (hd l hl)]

theorem settled_settled {T : LotTable} {w b d w' b' d' : List Key} (h : ∀ key ∈ b, key ∉ d') :
    (T.settled w b d).settled w' b' d' = T.settled (w ++ w') (b ++ b') (d ++ d') := by
  simp only [settled, List.map_map]
  exact congrArg (fun ls => { T with lots := ls }) (List.map_congr_left fun (l : Lot) _ => Lot.settled_settled (h l.key))

end LotTable

namespace State

/-! ## The lanes' weighings (R23, R32) -/

theorem modLot_withoutPending (s : State) (key : Key) :
    (s.modLot key fun l => { l with pending := none }).lotTable = s.lotTable.settled [key] [] [] := by
  refine congrArg (fun ls => { s.lotTable with lots := ls }) (List.map_congr_left fun l _ => ?_)
  by_cases h : l.key = key <;> simp [Lot.settled, h]

theorem lotTable_releaseWeighing (s : State) (key : Key) (c : Nat) :
    (s.releaseWeighing key c).lotTable = s.lotTable.settled [key] [] [] := by
  unfold releaseWeighing
  split
  · next hnone =>
    have hkey : ∀ l ∈ s.lotTable.lots, l.key ∈ [key] ↔ l.key ∈ [] := fun l hl => by
      simpa using List.find?_eq_none.mp hnone l hl
    rw [LotTable.settled_congr hkey (fun _ _ => .rfl) fun _ _ => .rfl, LotTable.settled_nil]
  · rw [← modLot_withoutPending]
    rfl

/-- The key of a lane's pending weighing. -/
def weighedKey (s : State) (i : Fin 8) : Option Key := (s.lane i).weighing.map (·.key)

theorem lotTable_laneHold (s : State) (i : Fin 8) : (s.laneHold i).lotTable = s.lotTable.settled (s.weighedKey i).toList [] [] := by
  unfold laneHold failWeighing endWeighing weighedKey
  cases (s.lane i).weighing with
  | none => exact s.lotTable.settled_nil.symm
  | some p => exact s.lotTable_releaseWeighing ..

theorem weighedKey_laneHold {s : State} {i j : Fin 8} (h : j ≠ i) : (s.laneHold i).weighedKey j = s.weighedKey j := by
  rw [weighedKey, lane_laneHold, if_neg h, weighedKey]

theorem lotTable_foldl_laneHold {is : List (Fin 8)} (h : is.Nodup) (s : State) :
    (is.foldl laneHold s).lotTable = s.lotTable.settled (is.filterMap s.weighedKey) [] [] := by
  induction is generalizing s with
  | nil => exact s.lotTable.settled_nil.symm
  | cons i is ih =>
    obtain ⟨hi, his⟩ := List.nodup_cons.mp h
    have hrest : is.filterMap (s.laneHold i).weighedKey = is.filterMap s.weighedKey :=
      List.filterMap_congr fun j hj => weighedKey_laneHold fun heq => hi (heq ▸ hj)
    rw [List.foldl_cons, ih his, lotTable_laneHold, hrest, LotTable.settled_settled (by simp)]
    refine LotTable.settled_congr (fun l _ => ?_) (fun _ _ => .rfl) fun _ _ => .rfl
    cases hk : s.weighedKey i <;> simp [hk]

/-! ## The lots on the clock (R42, R50, R75) -/

/-- The key of the lot on a rostrum's clock. -/
def offeredKey (s : State) (r : RostrumId) : Option Key := (s.rostrum r).offer.map (·.key)

/-- The tail that a rostrum's queue loses when its lot on the clock goes back. -/
def displacedKey (s : State) (r : RostrumId) : Option Key := (s.rostrum r).displaces (s.offeredKey r)

theorem lotTable_putBackKey (s : State) (r : RostrumId) (key : Key) (h : (s.rostrum r).displaces (some key) ≠ some key) :
    ((s.modLot key fun l => { l with state := .queued }).headInsert r key).lotTable =
      s.lotTable.settled [] [key] ((s.rostrum r).displaces (some key)).toList := by
  rw [lotTable_headInsert, rostrum_modLot_frame]
  simp only [LotTable.settled, modLot_lotTable, List.map_map]
  refine congrArg (fun ls => { s.lotTable with lots := ls }) (List.map_congr_left fun l _ => ?_)
  by_cases hk : l.key = key
  · have hd : some key ≠ (s.rostrum r).displaces (some key) := h.symm
    simp [Lot.settled, hk, hd, h]
  · cases hd : (s.rostrum r).displaces (some key) with
    | none => simp [Lot.settled, hk]
    | some tail =>
      have hne : tail ≠ key := fun heq => h (hd.trans (congrArg some heq))
      by_cases ht : l.key = tail <;> simp [Lot.settled, hk, ht, hne]

theorem lotTable_putBack (s : State) (r : RostrumId) (h : ∀ key ∈ s.offeredKey r, s.displacedKey r ≠ some key) :
    (s.putBack r).lotTable = s.lotTable.settled [] (s.offeredKey r).toList (s.displacedKey r).toList := by
  unfold putBack
  cases ho : (s.rostrum r).offer with
  | none => simp [offeredKey, displacedKey, ho, Rostrum.displaces, LotTable.settled_nil]
  | some o =>
    have hkey : s.offeredKey r = some o.key := by rw [offeredKey, ho]; rfl
    have hdisplaced := h o.key hkey
    rw [displacedKey, hkey] at hdisplaced
    rw [displacedKey, hkey]
    exact s.lotTable_putBackKey r o.key hdisplaced

theorem lotTable_rostrumHoldEntry (s : State) (r : RostrumId) (h : ∀ key ∈ s.offeredKey r, s.displacedKey r ≠ some key) :
    (s.rostrumHoldEntry r).lotTable = s.lotTable.settled [] (s.offeredKey r).toList (s.displacedKey r).toList := by
  rw [← lotTable_putBack s r h]
  simp [rostrumHoldEntry]

end State

/-! ## Keys of the lot table (R45, R49) -/

theorem Key.before_irrefl (k : Key) : k.before k = false := by simp [Key.before]

/-- The lots stand in key order. -/
def LotTable.Ordered (T : LotTable) : Prop := T.lots.Pairwise fun a b => a.key.before b.key = true

/-- One lot a key (R45). -/
theorem LotTable.Ordered.eq_of_key {T : LotTable} (h : T.Ordered) {a b : Lot} (ha : a ∈ T.lots) (hb : b ∈ T.lots)
    (hk : a.key = b.key) : a = b := by
  have hnodup : (T.lots.map (·.key)).Nodup :=
    List.pairwise_map.mpr (List.Pairwise.imp (fun {x y} hxy heq => by rw [heq, Key.before_irrefl] at hxy; cases hxy) h)
  exact List.inj_on_of_nodup_map hnodup ha hb hk

theorem State.Linked.ordered {s : State} (h : s.Linked) : s.lotTable.Ordered := h.keyed.1

theorem bothKeys_eq (f : RostrumId → Option Key) : bothKeys f = (f .a).toList ++ (f .b).toList := by
  cases ha : f .a <;> cases hb : f .b <;> simp [bothKeys, ha, hb]

theorem mem_bothKeys {f : RostrumId → Option Key} {key : Key} : key ∈ bothKeys f ↔ ∃ r, f r = some key := by
  rw [bothKeys_eq, List.mem_append, Option.mem_toList, Option.mem_toList]
  exact ⟨fun h => h.elim (⟨.a, ·⟩) (⟨.b, ·⟩), fun ⟨r, hr⟩ => by cases r <;> [exact .inl hr; exact .inr hr]⟩

/-- A lot on a clock is in no queue (R49). -/
theorem State.Linked.not_mem_queue {s : State} (h : s.Linked) {r : RostrumId} {key : Key} (hk : key ∈ s.offeredKey r) (q : RostrumId) :
    key ∉ (s.rostrum q).queue := by
  intro hq
  obtain ⟨o, ho, rfl⟩ := Option.map_eq_some_iff.mp hk
  obtain ⟨a, ha, hakey, hclock, -⟩ := h.onClock r o ho
  obtain ⟨b, hb, hbkey, hqueued, -⟩ := h.queued q _ hq
  obtain rfl := h.ordered.eq_of_key ha hb (hakey.trans hbkey.symm)
  rw [hclock] at hqueued
  cases hqueued

theorem Rostrum.displaces_mem {x : Rostrum} {key : Option Key} {tail : Key} (h : x.displaces key = some tail) : tail ∈ x.queue := by
  unfold displaces at h
  split at h
  · exact List.mem_of_getLast? h
  · cases h

theorem State.Linked.offered_ne_displaced {s : State} (h : s.Linked) {r : RostrumId} {key : Key} (hk : key ∈ s.offeredKey r)
    (q : RostrumId) : s.displacedKey q ≠ some key := fun hd => h.not_mem_queue hk q (Rostrum.displaces_mem hd)

namespace State

theorem offeredKey_congr {s t : State} {r : RostrumId} (h : t.rostrum r = s.rostrum r) : t.offeredKey r = s.offeredKey r := by
  rw [offeredKey, h, offeredKey]

theorem displacedKey_congr {s t : State} {r : RostrumId} (h : t.rostrum r = s.rostrum r) : t.displacedKey r = s.displacedKey r := by
  rw [displacedKey, offeredKey, h, displacedKey, offeredKey]

theorem rostrum_foldl_laneHold (is : List (Fin 8)) (s : State) (r : RostrumId) : (is.foldl laneHold s).rostrum r = s.rostrum r :=
  foldl_keeps (g := (·.rostrum r)) (fun s i => rostrum_congr (by simp) (by simp) r) is s

/-- The lots once the work in flight has ended (R32, R50, R75). -/
theorem lotTable_endInFlight {s : State} (h : s.Linked) :
    s.endInFlight.lotTable =
      s.lotTable.settled (all8.filterMap s.weighedKey) (bothKeys s.offeredKey) (bothKeys s.displacedKey) := by
  have hbays : ∀ u : State, (all4.foldl bayHold u).lotTable = u.lotTable := foldl_keeps (g := (·.lotTable)) (by simp) all4
  have hlanes := s.rostrum_foldl_laneHold all8
  have hb : ((all8.foldl laneHold s).rostrumHoldEntry .a).rostrum .b = s.rostrum .b := by
    rw [rostrum_rostrumHoldEntry, if_neg (by decide), hlanes]
  have hbefore : ∀ q key, key ∈ s.offeredKey q → ∀ r, s.displacedKey r ≠ some key := fun q key hk => h.offered_ne_displaced hk
  have ha' : ∀ key ∈ (all8.foldl laneHold s).offeredKey .a, (all8.foldl laneHold s).displacedKey .a ≠ some key := by
    rw [offeredKey_congr (hlanes .a), displacedKey_congr (hlanes .a)]
    exact fun key hk => hbefore .a key hk .a
  have hb' : ∀ key ∈ ((all8.foldl laneHold s).rostrumHoldEntry .a).offeredKey .b,
      ((all8.foldl laneHold s).rostrumHoldEntry .a).displacedKey .b ≠ some key := by
    rw [offeredKey_congr hb, displacedKey_congr hb]
    exact fun key hk => hbefore .b key hk .b
  have hab : ∀ key ∈ (s.offeredKey .a).toList, key ∉ (s.displacedKey .b).toList := fun key hk hd =>
    hbefore .a key (Option.mem_toList.mp hk) .b (Option.mem_toList.mp hd)
  rw [endInFlight_eq, setTotals_lotTable, modStore_lotTable, hbays, lotTable_rostrumHoldEntry _ _ hb',
    lotTable_rostrumHoldEntry _ _ ha', lotTable_foldl_laneHold (by decide), offeredKey_congr hb, displacedKey_congr hb,
    offeredKey_congr (hlanes .a), displacedKey_congr (hlanes .a), LotTable.settled_settled hab, LotTable.settled_settled (by simp)]
  simp only [List.append_nil, List.nil_append, bothKeys_eq]

end State

/-! ## The committed crates (R32) -/

/-- The committed counts of an account less some crates of each type. -/
def Account.uncommitBy (c : Fin 8 → Nat) (a : Account) : Account :=
  { a with committed := Vector.ofFn fun ty => a.committed[ty] - c ty }

theorem Account.uncommitBy_zero (a : Account) : a.uncommitBy (fun _ => 0) = a := by
  have h : (Vector.ofFn fun ty : Fin 8 => a.committed[ty] - 0) = a.committed := by ext i hi; simp
  rw [uncommitBy, h]

theorem Account.uncommitBy_uncommitBy (c d : Fin 8 → Nat) (a : Account) :
    (a.uncommitBy c).uncommitBy d = a.uncommitBy fun ty => c ty + d ty := by
  have h : (Vector.ofFn fun ty : Fin 8 => (a.uncommitBy c).committed[ty] - d ty) = Vector.ofFn fun ty => a.committed[ty] - (c ty + d ty) := by
    ext i hi
    simp [uncommitBy, Nat.sub_sub]
  exact congrArg (fun v => { a with committed := v }) h

/-- Crates of one type that leave the committed count. -/
theorem Account.uncommitBy_single (a : Account) (t : Fin 8) (n : Nat) :
    a.uncommitBy (fun ty => if t = ty then n else 0) = { a with committed := bump a.committed t (· - n) } := by
  have h : (Vector.ofFn fun ty : Fin 8 => a.committed[ty] - if t = ty then n else 0) = bump a.committed t (· - n) := by
    ext i hi
    by_cases ht : t.val = i <;> simp [bump, Fin.ext_iff, ht]
  rw [uncommitBy, h]

namespace State

/-- The crates of a type that the weighing of one lane holds committed for a boat. -/
def weighedAt (s : State) (i : Fin 8) (boat : Nat) (ty : Fin 8) : Nat :=
  match (s.lane i).weighing with
  | none => 0
  | some p => ((s.lot? p.key).map fun l => if l.boat = boat ∧ l.crateType = ty then p.crates else 0).getD 0

theorem weighedCrates_eq (s : State) (boat : Nat) (ty : Fin 8) :
    s.weighedCrates boat ty = (all8.map fun i => s.weighedAt i boat ty).sum := rfl

theorem weighedAt_of_weighing {s : State} {i : Fin 8} {p : PendingWeighing} (h : (s.lane i).weighing = some p) (boat : Nat) (ty : Fin 8) :
    s.weighedAt i boat ty =
      ((s.lot? p.key).map fun l => if l.boat = boat ∧ l.crateType = ty then p.crates else 0).getD 0 := by
  rw [weighedAt, h]

/-- An ending takes the weighed crates from every account's committed counts: from the boat's, that is. -/
theorem uncommitted_eq {s : State} {i : Fin 8} {p : PendingWeighing} (h : (s.lane i).weighing = some p) (a : Account) :
    s.uncommitted p a = a.uncommitBy (s.weighedAt i a.number) := by
  have hat : s.weighedAt i a.number = fun ty => s.weighedAt i a.number ty := rfl
  rw [hat]
  simp only [weighedAt_of_weighing h]
  unfold uncommitted
  split
  · next hnone => simp [hnone, a.uncommitBy_zero]
  · next lot hlot =>
    rw [hlot]
    by_cases hb : a.number = lot.boat
    · rw [Account.onNumber_self hb, ← Account.uncommitBy_single]
      simp [hb]
    · rw [Account.onNumber_ne hb]
      simp [Ne.symm hb, a.uncommitBy_zero]

theorem accountTable_laneHold (s : State) (i : Fin 8) :
    (s.laneHold i).accountTable =
      { s.accountTable with accounts := s.accounts.map fun a => a.uncommitBy (s.weighedAt i a.number) } := by
  cases hp : (s.lane i).weighing with
  | none =>
    have hzero : s.accounts.map (fun a => a.uncommitBy (s.weighedAt i a.number)) = s.accounts := by
      refine (List.map_congr_left fun a _ => ?_).trans (List.map_id _)
      have hat : s.weighedAt i a.number = fun _ => 0 := funext fun ty => by rw [weighedAt, hp]
      rw [hat, a.uncommitBy_zero, id]
    rw [hzero]
    simp [laneHold, failWeighing_none hp]
  | some p =>
    have haccounts : (s.laneHold i).accounts = s.accounts.map (s.uncommitted p) :=
      accounts_endWeighing hp (by decide : WeighResult.restart ≠ .taken) none none none
    have htable : (s.laneHold i).accountTable = { s.accountTable with accounts := (s.laneHold i).accounts } := by
      simp only [laneHold, failWeighing, endWeighing, hp, releaseWeighing]
      cases s.lot? p.key <;> rfl
    rw [htable, haccounts, List.map_congr_left fun a _ => uncommitted_eq hp a]

/-- The boat and the crate type of a lot. -/
def boundTo (s : State) (key : Key) : Option (Nat × Fin 8) := (s.lot? key).map fun l => (l.boat, l.crateType)

theorem boundTo_laneHold (s : State) (i : Fin 8) (key : Key) : (s.laneHold i).boundTo key = s.boundTo key := by
  rw [boundTo, lot?, lotTable_laneHold, LotTable.settled, List.find?_map, Option.map_map]
  rfl

theorem weighedAt_eq (s : State) (i : Fin 8) (boat : Nat) (ty : Fin 8) :
    s.weighedAt i boat ty =
      ((s.lane i).weighing.bind fun p => (s.boundTo p.key).map fun x => if x.1 = boat ∧ x.2 = ty then p.crates else 0).getD 0 := by
  cases hp : (s.lane i).weighing with
  | none => rw [weighedAt, hp]; rfl
  | some p =>
    rw [weighedAt_of_weighing hp, Option.bind_some, boundTo, Option.map_map]
    rfl

theorem weighedAt_laneHold {s : State} {i j : Fin 8} (h : j ≠ i) : (s.laneHold i).weighedAt j = s.weighedAt j := by
  funext boat ty
  simp only [weighedAt_eq, lane_laneHold, if_neg h, boundTo_laneHold]

theorem accountTable_foldl_laneHold {is : List (Fin 8)} (h : is.Nodup) (s : State) :
    (is.foldl laneHold s).accountTable =
      { s.accountTable with
        accounts := s.accounts.map fun a => a.uncommitBy fun ty => (is.map fun i => s.weighedAt i a.number ty).sum } := by
  induction is generalizing s with
  | nil =>
    have hzero : s.accounts.map (fun a => a.uncommitBy fun _ => 0) = s.accounts :=
      (List.map_congr_left fun a _ => a.uncommitBy_zero).trans (List.map_id _)
    simp only [List.foldl_nil, List.map_nil, List.sum_nil, hzero]
  | cons i is ih =>
    obtain ⟨hi, his⟩ := List.nodup_cons.mp h
    have hrest : ∀ n ty, (is.map fun j => (s.laneHold i).weighedAt j n ty) = is.map fun j => s.weighedAt j n ty := fun n ty =>
      List.map_congr_left fun j hj => by
        have hne : j ≠ i := fun heq => hi (heq ▸ hj)
        rw [weighedAt_laneHold hne]
    rw [List.foldl_cons, ih his, accountTable_laneHold]
    simp only [hrest, accounts, accountTable_laneHold, List.map_map, List.map_cons, List.sum_cons]
    refine congrArg (fun as => { s.accountTable with accounts := as }) (List.map_congr_left fun a _ => ?_)
    exact a.uncommitBy_uncommitBy ..

end State

/-! ## The orders in flight (R143, R147) -/

/-- An account table after orders that end: the reservations released, the charges posted and earned. -/
def AccountTable.charged (T : AccountTable) (reserved charge : Nat → Nat) (total : Nat) : AccountTable :=
  { T with
    accounts := T.accounts.map fun a => { a with reserved := a.reserved - reserved a.number, balance := a.balance - charge a.number }
    balanceSum := T.balanceSum - total, hall := { T.hall with ice := T.hall.ice + BitVec.ofNat 64 total } }

theorem AccountTable.charged_zero (T : AccountTable) : T.charged (fun _ => 0) (fun _ => 0) 0 = T := by
  simp [charged]

theorem AccountTable.charged_charged (T : AccountTable) (r r' c c' : Nat → Nat) (x x' : Nat) :
    (T.charged r c x).charged r' c' x' = T.charged (fun n => r n + r' n) (fun n => c n + c' n) (x + x') := by
  simp [charged, BitVec.ofNat_add, BitVec.add_assoc, Nat.sub_sub, Int.sub_sub]

namespace State

/-- The reservation that a bay's order holds of an account. -/
def chargeAt (s : State) (b : Fin 4) (n : Nat) : Nat := ((s.bay b).order.map fun o => if o.account = n then o.charge else 0).getD 0

/-- The charge of a bay's order that ends now, for its account. -/
def chargeNowAt (s : State) (b : Fin 4) (n : Nat) : Nat := if (s.bay b).order.map (·.account) = some n then (s.bay b).chargeNow else 0

theorem accountTable_bayHold {s : State} {b : Fin 4} (h : ∀ o ∈ (s.bay b).order, (s.account? o.account).isSome = true) :
    (s.bayHold b).accountTable = s.accountTable.charged (s.chargeAt b) (s.chargeNowAt b) (s.bay b).chargeNow := by
  cases ho : (s.bay b).order with
  | none =>
    have hat : s.chargeAt b = fun _ => 0 := funext fun n => by rw [chargeAt, ho]; rfl
    have hnow : s.chargeNowAt b = fun _ => 0 := funext fun n => by rw [chargeNowAt, ho]; rfl
    have hcharge : (s.bay b).chargeNow = 0 := by rw [Bay.chargeNow, ho]; rfl
    rw [bayHold, completeOrder_none ho, hat, hnow, hcharge, AccountTable.charged_zero]
  | some o =>
    have hcharge : (s.bay b).chargeNow = chargedKilograms o.q (s.bay b).delivered * o.price := by
      simp only [Bay.chargeNow, Bay.kilogramsNow, ho, Option.map_some, Option.getD_some]
      rfl
    obtain ⟨a, ha⟩ := Option.isSome_iff_exists.mp (h o ho)
    have hat : ∀ n, s.chargeAt b n = if o.account = n then o.charge else 0 := fun n => by rw [chargeAt, ho]; rfl
    have hnow : ∀ n, s.chargeNowAt b n = if o.account = n then (s.bay b).chargeNow else 0 := fun n => by simp [chargeNowAt, ho]
    have haccounts : (s.bayHold b).accounts = s.accounts.map fun a =>
        { a with reserved := a.reserved - s.chargeAt b a.number, balance := a.balance - s.chargeNowAt b a.number } := by
      rw [bayHold, accounts_completeOrder ho]
      refine List.map_congr_left fun x _ => ?_
      by_cases hx : x.number = o.account
      · rw [Account.onNumber_self hx, hat, hnow, if_pos hx.symm, if_pos hx.symm, hcharge]
      · simp [Account.onNumber_ne hx, hat, hnow, Ne.symm hx]
    rw [AccountTable.charged, hcharge, ← haccounts]
    exact (completeOrder_completed ho ha .supply).table

/-- What the end of a bay's order leaves at another bay. -/
theorem bay_bayHold_ne {s : State} {b c : Fin 4} (h : c ≠ b) : (s.bayHold b).bay c = s.bay c := by
  rw [bayHold, bay_completeOrder, if_neg h]

theorem account?_bayHold_isSome (s : State) (b : Fin 4) (n : Nat) :
    ((s.bayHold b).account? n).isSome = (s.account? n).isSome := by
  cases ho : (s.bay b).order with
  | none => rw [bayHold, completeOrder_none ho]
  | some o =>
    have hfind : (s.bayHold b).account? n =
        (s.release o.account o.charge (chargedKilograms o.q (s.bay b).delivered * o.price)).account? n := by
      simp only [bayHold, completeOrder, ho]
      rfl
    rw [hfind, account?_release, Option.isSome_map]

theorem accountTable_foldl_bayHold {bs : List (Fin 4)} (hbs : bs.Nodup) {s : State}
    (h : ∀ b, ∀ o ∈ (s.bay b).order, (s.account? o.account).isSome = true) :
    (bs.foldl bayHold s).accountTable =
      s.accountTable.charged (fun n => (bs.map (s.chargeAt · n)).sum) (fun n => (bs.map (s.chargeNowAt · n)).sum)
        (bs.map fun b => (s.bay b).chargeNow).sum := by
  induction bs generalizing s with
  | nil => exact s.accountTable.charged_zero.symm
  | cons b bs ih =>
    obtain ⟨hb, hrest⟩ := List.nodup_cons.mp hbs
    have hbay : ∀ c ∈ bs, (s.bayHold b).bay c = s.bay c := fun c hc => bay_bayHold_ne fun heq => hb (heq ▸ hc)
    have hat : ∀ n, (bs.map ((s.bayHold b).chargeAt · n)) = bs.map (s.chargeAt · n) := fun n =>
      List.map_congr_left fun c hc => by rw [chargeAt, hbay c hc, chargeAt]
    have hnow : ∀ n, (bs.map ((s.bayHold b).chargeNowAt · n)) = bs.map (s.chargeNowAt · n) := fun n =>
      List.map_congr_left fun c hc => by rw [chargeNowAt, hbay c hc, chargeNowAt]
    have htotal : (bs.map fun c => ((s.bayHold b).bay c).chargeNow) = bs.map fun c => (s.bay c).chargeNow :=
      List.map_congr_left fun c hc => by rw [hbay c hc]
    have hexists : ∀ c, ∀ o ∈ ((s.bayHold b).bay c).order, ((s.bayHold b).account? o.account).isSome = true := by
      intro c o ho
      rw [account?_bayHold_isSome]
      by_cases hc : c = b
      · subst hc
        rw [bayHold, bay_completeOrder, if_pos rfl] at ho
        cases hs : (s.bay c).order with
        | none => rw [hs, Option.elim_none, hs] at ho; cases ho
        | some x => rw [hs, Option.elim_some] at ho; cases ho
      · rw [bay_bayHold_ne hc] at ho
        exact h c o ho
    rw [List.foldl_cons, ih hrest hexists, accountTable_bayHold (h b), AccountTable.charged_charged]
    simp only [hat, hnow, htotal, List.map_cons, List.sum_cons]

theorem ice_bayHold (s : State) (b : Fin 4) :
    (s.bayHold b).ice.reservation = s.ice.reservation - ((s.bay b).order.map (·.stock)).getD 0 ∧
      (s.bayHold b).ice.stock = s.ice.stock - if (s.bay b).order.isSome then (s.bay b).delivered else 0 := by
  cases ho : (s.bay b).order with
  | none => simp [bayHold, completeOrder_none ho]
  | some o => constructor <;> simp [bayHold, completeOrder, ho, modBay, modIce]

theorem ice_foldl_bayHold {bs : List (Fin 4)} (hbs : bs.Nodup) (s : State) :
    (bs.foldl bayHold s).ice.reservation = s.ice.reservation - (bs.map fun b => ((s.bay b).order.map (·.stock)).getD 0).sum ∧
      (bs.foldl bayHold s).ice.stock =
        s.ice.stock - (bs.map fun b => if (s.bay b).order.isSome then (s.bay b).delivered else 0).sum := by
  induction bs generalizing s with
  | nil => exact ⟨rfl, rfl⟩
  | cons b bs ih =>
    obtain ⟨hb, hrest⟩ := List.nodup_cons.mp hbs
    have hbay : ∀ c ∈ bs, (s.bayHold b).bay c = s.bay c := fun c hc => bay_bayHold_ne fun heq => hb (heq ▸ hc)
    obtain ⟨hreservation, hstock⟩ := ih hrest (s.bayHold b)
    obtain ⟨hreservation', hstock'⟩ := s.ice_bayHold b
    rw [List.foldl_cons, hreservation, hstock, hreservation', hstock', List.map_cons, List.map_cons, List.sum_cons, List.sum_cons,
      ← Nat.sub_sub, ← Nat.sub_sub]
    refine ⟨congrArg (_ - List.sum ·) ?_, congrArg (_ - List.sum ·) ?_⟩
    · exact List.map_congr_left fun c hc => by rw [hbay c hc]
    · exact List.map_congr_left fun c hc => by rw [hbay c hc]

/-! ## The end of the work in flight -/

theorem accountTable_endInFlight {s : State} (h : s.IceBooks) :
    s.endInFlight.accountTable =
      { accounts :=
          s.accounts.map fun a =>
            { a with
              reserved := a.reserved - s.chargesOf a.number, balance := a.balance - s.chargesNowOf a.number
              committed := Vector.ofFn fun ty => a.committed[ty] - s.weighedCrates a.number ty }
        recordCount := s.accountTable.recordCount, balanceSum := s.accountTable.balanceSum - s.chargesNow
        hall := { s.accountTable.hall with ice := s.accountTable.hall.ice + BitVec.ofNat 64 s.chargesNow }, totals := none } := by
  obtain ⟨-, -, hexists, -, -⟩ := h
  have hbays : ∀ c, (((all8.foldl laneHold s).rostrumHoldEntry .a).rostrumHoldEntry .b).bay c = s.bay c := by
    have hlanes : (all8.foldl laneHold s).ice = s.ice := foldl_keeps (g := (·.ice)) (by simp) all8 s
    exact fun c => bay_congr (by simp [hlanes]) c
  have htable : (((all8.foldl laneHold s).rostrumHoldEntry .a).rostrumHoldEntry .b).accountTable =
      (all8.foldl laneHold s).accountTable := by simp
  have hlanes := s.accountTable_foldl_laneHold (is := all8) (by decide)
  have hexists' : ∀ c, ∀ o ∈ ((((all8.foldl laneHold s).rostrumHoldEntry .a).rostrumHoldEntry .b).bay c).order,
      ((((all8.foldl laneHold s).rostrumHoldEntry .a).rostrumHoldEntry .b).account? o.account).isSome = true := by
    intro c o ho
    rw [hbays] at ho
    rw [account?, htable, hlanes, List.find?_map, Option.isSome_map]
    exact hexists c o ho
  rw [endInFlight_eq, setTotals_accountTable, modStore_accountTable, accountTable_foldl_bayHold (by decide) hexists', htable, hlanes]
  simp only [AccountTable.charged, chargeAt, chargeNowAt, hbays, List.map_map]
  rfl

/-- The bunker after the orders that stood in a state of the same ice unit. -/
theorem ice_foldl_bayHold_of_ice {s u : State} (h : u.ice = s.ice) :
    (all4.foldl bayHold u).ice.reservation = s.ice.reservation - s.stockReserved ∧
      (all4.foldl bayHold u).ice.stock =
        s.ice.stock - (all4.map fun b => if (s.bay b).order.isSome then (s.bay b).delivered else 0).sum := by
  obtain ⟨hreservation, hstock⟩ := ice_foldl_bayHold (bs := all4) (by decide) u
  simp only [h, bay_congr h] at hreservation hstock
  exact ⟨hreservation, hstock⟩

theorem rostrumHoldEntry_counter (s : State) (r : RostrumId) :
    (s.rostrumHoldEntry r).lotTable = { s.lotTable with lots := (s.rostrumHoldEntry r).lotTable.lots } := by
  simp only [rostrumHoldEntry, modRostrum_lotTable, putBack]
  split
  · rfl
  · rw [lotTable_headInsert]
    rfl

/-- The end of the work in flight, record by record. -/
theorem endInFlight_workEnded (s : State) : s.WorkEnded s.endInFlight where
  lanes i := s.endInFlight_lane i
  rostra r := s.endInFlight_rostrum r
  lots h := lotTable_endInFlight h
  counter := by
    have hbays : ∀ u : State, (all4.foldl bayHold u).lotTable = u.lotTable := foldl_keeps (g := (·.lotTable)) (by simp) all4
    rw [endInFlight_eq, setTotals_lotTable, modStore_lotTable, hbays, rostrumHoldEntry_counter, rostrumHoldEntry_counter,
      lotTable_foldl_laneHold (by decide)]
    exact ⟨rfl, rfl, rfl⟩
  bays b := by
    rw [endInFlight_bay]
    cases ho : (s.bay b).order with
    | none => rfl
    | some o => simp [Bay.complete, Bay.chargeNow, Bay.kilogramsNow, chargedKilograms, ho]
  bunker := by
    have hlanes : (all8.foldl laneHold s).ice = s.ice := foldl_keeps (g := (·.ice)) (by simp) all8 s
    have hice : (((all8.foldl laneHold s).rostrumHoldEntry .a).rostrumHoldEntry .b).ice = s.ice := by simp [hlanes]
    rw [endInFlight_eq, setTotals_ice, modStore_ice]
    exact ice_foldl_bayHold_of_ice hice
  accounts h := accountTable_endInFlight h
  store := by
    have hstore : (all4.foldl bayHold (((all8.foldl laneHold s).rostrumHoldEntry .a).rostrumHoldEntry .b)).store = s.store := by
      simp [all8, all4]
    rw [endInFlight_eq, setTotals_store, modStore_store, hstore]
    rfl
  rest := by
    obtain ⟨hcrates, -, hport, hfree, hpending⟩ := s.endInFlight_frame
    exact ⟨hcrates, hport, hfree, hpending⟩

end State

end Sys2Proof.Machine
end

section
/-! PROOF. HOLD, the restarts and the reset line (R164, R166, R167). -/

namespace Sys2Proof.Machine

namespace State

/-! ## The monitor and the other blocks -/

/-- The end of the work in flight is not seen by the monitor. -/
theorem WorkEnded.modSupply_right {s t : State} (h : s.WorkEnded t) (f : Supply → Supply) : s.WorkEnded (t.modSupply f) :=
  ⟨h.lanes, h.rostra, h.lots, h.counter, h.bays, h.bunker, h.accounts, h.store, h.rest⟩

theorem Linked.modSupply {s : State} (h : s.Linked) {f : Supply → Supply} (absent : (f s.supply).absent = s.supply.absent)
    (trading : (f s.supply).trading = s.supply.trading) : (s.modSupply f).Linked where
  keyed := h.keyed
  nodup := h.nodup
  queued := h.queued
  inQueue := h.inQueue
  onClock := h.onClock
  offered := by rw [modSupply_supply, absent]; exact h.offered
  oneOnClock := h.oneOnClock
  pending := h.pending
  weighing := by rw [modSupply_supply, absent]; exact h.weighing
  still ht := h.still (trading.symm.trans ht)

theorem IceBooks.modSupply {s : State} (h : s.IceBooks) {f : Supply → Supply} (absent : (f s.supply).absent = s.supply.absent)
    (trading : (f s.supply).trading = s.supply.trading) : (s.modSupply f).IceBooks := by
  obtain ⟨hsound, hidle, hexists, hstock, hbooks⟩ := h
  exact ⟨hsound, fun ht => hidle (trading.symm.trans ht), hexists, hstock, fun ha => hbooks (absent.symm.trans ha)⟩

theorem WorkEnded.modSupply_left {s t : State} {f : Supply → Supply} (h : (s.modSupply f).WorkEnded t)
    (absent : (f s.supply).absent = s.supply.absent) (trading : (f s.supply).trading = s.supply.trading) : s.WorkEnded t :=
  ⟨h.lanes, h.rostra, fun hl => h.lots (hl.modSupply absent trading), h.counter, h.bays, h.bunker,
    fun hb => h.accounts (hb.modSupply absent trading), h.store, h.rest⟩

/-- Outside trading the attention line and data out stand at their idle levels (R164). -/
theorem idle_lines {t : State} (h : t.trading = false) :
    t.trading = false ∧ t.attentionLine = false ∧ ∀ clocked, t.dataOut clocked = none :=
  ⟨h, by rw [attentionLine, h, Bool.false_and], fun clocked => dataOut_idle h clocked⟩

end State

/-! ## HOLD (R164) -/

theorem State.enterHold_workEnded (s : State) : s.WorkEnded s.enterHold := s.endInFlight_workEnded.modSupply_right _

theorem State.enterHold_supply (s : State) :
    s.enterHold.supply = { s.supply with state := .hold, persistence := none, starting := none } := by
  rw [enterHold, modSupply_supply, endInFlight_supply]

theorem State.enterHold_idle (s : State) : s.enterHold.trading = false :=
  Supply.trading_eq_false_iff.mpr (.inr (.inl (Supply.inHold_of_hold (.inl (by rw [enterHold_supply])))))

theorem State.lowSupply_immediate {s : State} (h : s.supply.filterCode = 0) : s.lowSupply = s.enterHold := by rw [lowSupply, if_pos h]

theorem State.persistenceExpiry_runOut {s : State} (hp : s.supply.absent = false) (hl : s.supply.state = .low)
    (h : s.supply.persistence = some 0) : s.persistenceExpiry = s.enterHold := by
  simp [persistenceExpiry, hp, hl, h]

/-- Settles O56. -/
theorem holdEndsTheWorkInFlight : Obligations.HoldEndsTheWorkInFlight := by
  intro s c mv hp h
  rcases h with ⟨rfl, hl, hout⟩ | ⟨rfl, hn, hsuspend, hcode, hmv⟩ | ⟨rfl, hn, hsuspend, hcode, hmv⟩
  · refine ⟨s.enterHold, congrArg Host.Outcome.next (State.persistenceExpiry_runOut hp hl hout), s.enterHold_workEnded, ?_,
      State.idle_lines s.enterHold_idle⟩
    rw [State.enterHold_supply, if_pos rfl]
  · have hfall : s.supplyFalls mv = s.enterHold := by
      rw [State.supplyFalls_normal hp hn hsuspend, if_pos hmv, State.lowSupply_immediate hcode]
    refine ⟨s.enterHold, congrArg Host.Outcome.next hfall, s.enterHold_workEnded, ?_, State.idle_lines s.enterHold_idle⟩
    rw [State.enterHold_supply, if_neg (by simp)]
    simp only [hsuspend]
  · have hend : s.suspendEnd mv = (s.modSupply fun p => { p with suspend := none }).enterHold := by
      rw [State.suspendEnd_normal hp hn hsuspend, if_pos hmv]
      exact State.lowSupply_immediate (s := s.modSupply fun p => { p with suspend := none }) hcode
    refine ⟨_, congrArg Host.Outcome.next hend, (State.enterHold_workEnded _).modSupply_left rfl rfl, ?_,
      State.idle_lines (State.enterHold_idle _)⟩
    rw [State.enterHold_supply, if_neg (by simp)]
    rfl

/-! ## The check of the records at a start (R151, R160) -/

theorem RecordId.mem_all (id : RecordId) : id ∈ RecordId.all := by
  cases id <;> simp [RecordId.all, State.mem_all8, Ledger.mem_all4]

theorem StoreRecord.checked_checked (r : StoreRecord) : r.checked.checked = r.checked := by
  simp [checked]

namespace Store

/-- The check of a list of records, in each of them. -/
theorem get_foldl_checked (st : Store) (ids : List RecordId) (c : StoreCells) (id : RecordId) :
    (ids.foldl (fun c id => if st.holds id then c else c.set id (c.get id).checked) c).get id =
      if id ∈ ids ∧ st.holds id = false then (c.get id).checked else c.get id := by
  induction ids generalizing c with
  | nil => simp
  | cons x ids ih =>
    rw [List.foldl_cons, ih]
    cases hheld : st.holds x with
    | true =>
      by_cases hx : id = x
      · subst hx
        simp [hheld]
      · simp [hx]
    | false =>
      by_cases hx : id = x
      · subst hx
        simp [hheld, StoreRecord.checked_checked]
      · simp [hx, StoreCells.get_set_ne (Ne.symm hx)]

theorem holds_eq (st : Store) (id : RecordId) : st.holds id = decide (st.buffer.map (·.target) = some id) := by
  unfold holds
  cases st.buffer <;> simp [beq_eq_decide]

theorem get_start (st : Store) (id : RecordId) :
    st.start.cells.get id = if st.buffer.map (·.target) = some id then st.cells.get id else (st.cells.get id).checked := by
  refine (get_foldl_checked st RecordId.all st.cells id).trans ?_
  by_cases h : st.buffer.map (·.target) = some id <;> simp [RecordId.mem_all, holds_eq, h]

theorem protectionFlags_congr {st st' : Store} (h : st'.live .protection = st.live .protection) :
    st'.protectionFlags = st.protectionFlags := by
  rw [protectionFlags, contents?, h, protectionFlags, contents?]

theorem protectionFlags_start (st : Store) : st.start.protectionFlags = st.checkAll.protectionFlags :=
  protectionFlags_congr ((live_withSuspended ..).trans (live_loadProtection ..))

end Store

namespace State

/-! ## The blocks at the end of a start (R160, R23, R76, R148, R176) -/

theorem startBlocks_lane (s : State) (i : Fin 8) : s.startBlocks.lane i = (s.lane i).start (s.store.start.laneCal i) := by
  have hbays : ∀ u : State, (all4.foldl (fun s b => s.modBay b Bay.start) u).lanes = u.lanes :=
    foldl_keeps (g := (·.lanes)) (by simp) all4
  have hlanes : s.startBlocks.lanes =
      (all8.foldl (fun u i => u.modLane i fun l => l.start (s.store.start.laneCal i)) (s.modStore Store.start)).lanes := by
    simp [startBlocks, hbays]
  rw [lane_congr hlanes, lane_foldl_modLane _ (fun i l => l.start (s.store.start.laneCal i))]
  rfl

theorem startBlocks_rostrum (s : State) (r : RostrumId) : s.startBlocks.rostrum r = (s.rostrum r).start := by
  cases r <;> simp [startBlocks, all8, all4, rostrum, modRostrum]

theorem startBlocks_bay (s : State) (b : Fin 4) : s.startBlocks.bay b = (s.bay b).start := by
  have hlanes : (all8.foldl (fun u i => u.modLane i fun l => l.start (s.store.start.laneCal i)) (s.modStore Store.start)).ice = s.ice :=
    foldl_keeps (g := (·.ice)) (by simp) all8 _
  have hbays : s.startBlocks.bay b =
      (all4.foldl (fun s b => s.modBay b Bay.start)
        (((all8.foldl (fun u i => u.modLane i fun l => l.start (s.store.start.laneCal i)) (s.modStore Store.start)).modRostrum .a
          Rostrum.start).modRostrum .b Rostrum.start)).bay b := rfl
  rw [hbays, bay_foldl_modBay _ (fun _ => Bay.start), bay_congr (s := s) (by simp [hlanes])]

@[simp] theorem startBlocks_frame (s : State) :
    s.startBlocks.lotTable = s.lotTable ∧ s.startBlocks.accountTable = { s.accountTable with totals := none } ∧
      s.startBlocks.crates = s.crates ∧ s.startBlocks.ice.stock = s.ice.stock ∧
      s.startBlocks.ice.reservation = s.ice.reservation ∧ s.startBlocks.port = Port.start ∧
      s.startBlocks.freeCount = s.freeCount ∧ s.startBlocks.pending = s.pending := by
  simp [startBlocks, all8, all4]

theorem finishStart_eq (s : State) :
    s.finishStart =
      s.startBlocks.modSupply fun p =>
        { p.setCodes s.store.start.timing.level s.store.start.timing.filter with
          suspend := some Config.suspendTime, starting := none } := finishStart_modSupply s id

/-- The monitor at the end of a start (R162). -/
theorem finishStart_monitor (s : State) :
    s.finishStart.supply =
      { s.supply with
        levelCode := s.store.start.timing.level, filterCode := s.store.start.timing.filter, suspend := some 2, starting := none
        state := if s.store.start.timing.level ≠ s.supply.levelCode ∧ s.supply.state = .low then .normal else s.supply.state
        persistence :=
          if s.store.start.timing.level ≠ s.supply.levelCode ∧ s.supply.state = .low then none else s.supply.persistence } := by
  rw [finishStart_eq, modSupply_supply, startBlocks_supply, Supply.setCodes_eq]

theorem finishStart_store (s : State) : s.finishStart.store = s.store.start := by
  rw [finishStart_eq, modSupply_store, startBlocks_store]

theorem finishStart_trading {s : State} (hp : s.supply.absent = false) (hhold : s.supply.inHold = false) :
    s.finishStart.trading = true := by
  rw [trading, finishStart_supply]
  exact Supply.trading_eq_true_iff.mpr ⟨by simp [hp], (Supply.setCodes_inHold ..).trans hhold, rfl⟩

/-- A start that finishes, record by record. -/
theorem finishStart_started {s : State} {cause : RestartCause} (hp : s.supply.absent = false) (hhold : s.supply.inHold = false)
    (hcause : s.supply.cause = cause) (hflag : s.supply.restartFlag = true) : s.Started s.finishStart cause where
  lanes i := by
    have hlane : s.finishStart.lane i = (s.lane i).start (s.store.start.laneCal i) := by
      rw [finishStart_eq, lane_modSupply_frame, startBlocks_lane]
    rw [hlane, finishStart_store, Lane.start]
    cases he : (s.lane i).enabled with
    | true => simp [Lane.settleAtCal, Lane.enterSettling, Config.silenceTime, he]
    | false => simp [Lane.enterOff, he]
  rostra r := by
    rw [finishStart_eq, rostrum_modSupply_frame, startBlocks_rostrum]
    rfl
  bays b := by
    rw [finishStart_eq, bay_modSupply_frame, startBlocks_bay]
    rfl
  records id := by
    rw [finishStart_store, Store.get_start]
    rfl
  store := by
    rw [finishStart_store, Store.protectionFlags_start]
    rfl
  supply := by
    rw [finishStart_store, finishStart_monitor]
    exact ⟨hcause, hflag, rfl, rfl, rfl, rfl⟩
  port := by
    rw [finishStart_eq, modSupply_port, s.startBlocks_frame.2.2.2.2.2.1]
    rfl
  runs := by
    have ht := finishStart_trading hp hhold
    have hflag' : s.finishStart.supply.restartFlag = true := by rw [finishStart_monitor, hflag]
    exact ⟨ht, by simp [attentionLine, attentionFlags, ht, hflag']⟩
  kept := by
    rw [finishStart_eq]
    simp

/-- A start is not seen by the monitor that it begins with. -/
theorem Started.modSupply_left {s t : State} {cause : RestartCause} {f : Supply → Supply} (h : (s.modSupply f).Started t cause) :
    s.Started t cause :=
  ⟨h.lanes, h.rostra, h.bays, h.records, h.store, h.supply, h.port, h.runs, h.kept⟩

/-! ## The way out of HOLD, and the reset line (R164, R166) -/

theorem recoveryRises_hold {s : State} (hp : s.supply.absent = false) (h : s.supply.state = .hold) (mv : Nat) :
    s.recoveryRises mv =
      if 4000 + 50 * s.supply.levelCode + 100 < mv then s.modSupply fun p => { p with state := .recovering, recovery := some 50 }
      else s := by
  by_cases hmv : 4000 + 50 * s.supply.levelCode + 100 < mv
  · simp [recoveryRises, hp, h, Supply.recovered, levelMillivolts, hmv, Config.recoveryTime]
  · simp [recoveryRises, hp, h, Supply.recovered, levelMillivolts, hmv]

theorem recoveryFalls_recovering {s : State} (hp : s.supply.absent = false) (h : s.supply.state = .recovering) (mv : Nat) :
    s.recoveryFalls mv =
      if 4000 + 50 * s.supply.levelCode + 100 < mv then s else s.modSupply fun p => { p with state := .hold, recovery := none } := by
  by_cases hmv : 4000 + 50 * s.supply.levelCode + 100 < mv
  · simp [recoveryFalls, hp, h, Supply.recovered, levelMillivolts, hmv]
  · simp [recoveryFalls, hp, h, Supply.recovered, levelMillivolts, hmv]

theorem recoveryExpiry_running {s : State} (h : s.supply.recovery ≠ some 0) : s.recoveryExpiry = s := by
  simp only [recoveryExpiry, (runOut_eq_false_iff _).mpr h, Bool.and_false, Bool.false_eq_true, if_false]

theorem recoveryExpiry_runOut {s : State} (hp : s.supply.absent = false) (hr : s.supply.state = .recovering)
    (h : s.supply.recovery = some 0) : s.recoveryExpiry = (s.modSupply Supply.restarted).beginStart .supplyResume := by
  simp [recoveryExpiry, hp, hr, h]

theorem beginStart_finishes {s : State} (h : s.supply.resetLine = false) (cause : RestartCause) :
    s.beginStart cause = (s.modSupply fun p => { p with cause, restartFlag := true, starting := some cause }).finishStart := by
  simp only [beginStart, h, Bool.false_eq_true, if_false]

/-- The assertion in a trading part (R166). -/
theorem resetAsserted_trading {s : State} (ht : s.trading = true) :
    s.resetAsserted =
      s.endInFlight.modSupply fun p => { p.setPin true with cause := .resetLine, restartFlag := true, starting := some .resetLine } := by
  rw [resetAsserted, if_pos ht, beginStart_waits rfl, modSupply_modSupply]

/-- A start in progress keeps the part from trading (R166). -/
theorem modSupply_idle {t : State} {f : Supply → Supply} {cause : RestartCause} (h : ∀ p, (f p).starting = some cause) :
    (t.modSupply f).trading = false :=
  Supply.trading_eq_false_iff.mpr (.inr (.inr (by rw [modSupply_supply, h]; rfl)))

/-- The end of the recovery restarts the part at once (R164). -/
theorem recoveryExpiry_finishes {s : State} (hp : s.supply.absent = false) (hr : s.supply.state = .recovering)
    (h : s.supply.recovery = some 0) (hline : s.supply.resetLine = false) :
    s.recoveryExpiry =
      (s.modSupply fun p => { p.restarted with cause := .supplyResume, restartFlag := true, starting := some .supplyResume }).finishStart :=
  (recoveryExpiry_runOut hp hr h).trans (beginStart_finishes (s := s.modSupply Supply.restarted) hline _)

end State

/-- Settles O57. -/
theorem restartsLeaveHoldAndReset : Obligations.RestartsLeaveHoldAndReset := by
  intro s hp level
  refine ⟨fun mv h => ?_, fun mv h => ?_, fun h => ?_, fun hr h => ⟨fun hline => ?_, fun hline => ?_⟩, fun ht => ?_, fun h => ?_,
    fun cause hstarting hhold hcause hflag => ?_⟩
  · exact congrArg Host.Outcome.next (State.recoveryRises_hold hp h mv)
  · exact congrArg Host.Outcome.next (State.recoveryFalls_recovering hp h mv)
  · exact congrArg Host.Outcome.next (State.recoveryExpiry_running h)
  · have hstarted := State.finishStart_started (cause := .supplyResume)
      (s := s.modSupply fun p => { p.restarted with cause := .supplyResume, restartFlag := true, starting := some .supplyResume })
      hp rfl rfl rfl
    refine ⟨_, congrArg Host.Outcome.next (State.recoveryExpiry_finishes hp hr h hline), hstarted.modSupply_left, ?_⟩
    rw [State.finishStart_monitor, State.finishStart_store]
    simp [Supply.restarted, Config.suspendTime]
  · exact congrArg Host.Outcome.next
      ((State.recoveryExpiry_runOut hp hr h).trans (State.beginStart_waits (s := s.modSupply Supply.restarted) hline _))
  · refine ⟨_, congrArg Host.Outcome.next (State.resetAsserted_trading ht), s.endInFlight_workEnded.modSupply_right _, ?_,
      State.idle_lines (State.modSupply_idle fun _ => rfl)⟩
    rw [State.modSupply_supply, State.endInFlight_supply]
    rfl
  · have hidle : s.trading = false := Supply.trading_eq_false_iff.mpr (.inr (.inl (Supply.inHold_of_hold h)))
    have hassert : s.resetAsserted = s.modSupply (·.setPin true) := by rw [State.resetAsserted, hidle, if_neg Bool.false_ne_true]
    have hrelease : s.resetReleased = s.modSupply (·.setPin false) := by
      simp only [State.resetReleased, Supply.inHold_of_hold h, Bool.not_true, Bool.and_false, Bool.false_eq_true, if_false]
    exact ⟨congrArg Host.Outcome.next hassert, congrArg Host.Outcome.next hrelease⟩
  · have hrelease : s.resetReleased = (s.modSupply (·.setPin false)).finishStart := by
      simp [State.resetReleased, hstarting, hp, hhold]
    have hstarted := State.finishStart_started (s := s.modSupply (·.setPin false)) hp hhold hcause hflag
    refine ⟨_, congrArg Host.Outcome.next hrelease, hstarted.modSupply_left, ?_⟩
    rw [State.finishStart_monitor, State.finishStart_store]
    rfl

end Sys2Proof.Machine
end

section
/-! PROOF. The loss of the main supply, and the power-on (R165, R47, R76, R116, R161). -/

namespace Sys2Proof.Machine

/-! ## The pending parts found at a power-on (R47) -/

/-- The pending crates of a lot, for a boat and a type. -/
def Lot.pendingFor (l : Lot) (boat : Nat) (ty : Fin 8) : Nat :=
  if l.boat = boat ∧ l.crateType = ty then (l.pending.map (·.crates)).getD 0 else 0

/-- A lot on the clock of a rostrum. -/
def Lot.onClockAt (l : Lot) (r : RostrumId) : Bool := decide (l.state = .onClock ∧ l.rostrum = some r)

/-- The key of a lot that a power-on puts back. -/
def Lot.backKey (l : Lot) : Option Key := if l.state = .onClock then l.rostrum.map fun _ => l.key else none

theorem Lot.of_backKey {l : Lot} {key : Key} (h : l.backKey = some key) : l.state = .onClock ∧ l.key = key := by
  unfold backKey at h
  split at h
  · next hs =>
    obtain ⟨r, -, hkey⟩ := Option.map_eq_some_iff.mp h
    exact ⟨hs, hkey⟩
  · cases h

namespace State

/-- The tail that a full queue loses to a lot that a power-on puts back. -/
def backDisplaces (s : State) (l : Lot) : Option Key :=
  if l.state = .onClock then l.rostrum.bind fun r => (s.rostrum r).displaces (some l.key) else none

theorem backDisplaces_eq_some_iff {s : State} {l : Lot} {key : Key} :
    s.backDisplaces l = some key ↔ ∃ r, l.onClockAt r = true ∧ (s.rostrum r).displaces (some l.key) = some key := by
  by_cases hs : l.state = .onClock
  · simp [backDisplaces, Lot.onClockAt, hs, Option.bind_eq_some_iff]
  · simp [backDisplaces, Lot.onClockAt, hs]

theorem backDisplaces_mem {s : State} {l : Lot} {key : Key} (h : s.backDisplaces l = some key) :
    ∃ r, l.onClockAt r = true ∧ key ∈ (s.rostrum r).queue := by
  obtain ⟨r, hr, hd⟩ := backDisplaces_eq_some_iff.mp h
  exact ⟨r, hr, Rostrum.displaces_mem hd⟩

theorem backDisplaces_congr {s t : State} {l : Lot} (h : ∀ r, l.onClockAt r = true → t.rostrum r = s.rostrum r) :
    t.backDisplaces l = s.backDisplaces l := by
  refine Option.ext fun key => ?_
  rw [backDisplaces_eq_some_iff, backDisplaces_eq_some_iff]
  exact exists_congr fun r => and_congr_right fun hr => by rw [h r hr]

theorem lotTable_dropPending (s : State) (l : Lot) :
    (s.dropPending l).lotTable = s.lotTable.settled (l.pending.map fun _ => l.key).toList [] [] := by
  unfold dropPending
  cases l.pending with
  | none => exact s.lotTable.settled_nil.symm
  | some p => exact s.modLot_withoutPending l.key

theorem lotTable_foldl_dropPending (ls : List Lot) (s : State) :
    (ls.foldl dropPending s).lotTable = s.lotTable.settled (ls.filterMap fun l => l.pending.map fun _ => l.key) [] [] := by
  induction ls generalizing s with
  | nil => exact s.lotTable.settled_nil.symm
  | cons l ls ih =>
    rw [List.foldl_cons, ih, lotTable_dropPending, LotTable.settled_settled (by simp)]
    cases hp : l.pending <;> simp [hp]

theorem accountTable_dropPending (s : State) (l : Lot) :
    (s.dropPending l).accountTable =
      { s.accountTable with accounts := s.accounts.map fun a => a.uncommitBy (l.pendingFor a.number) } := by
  unfold dropPending
  cases hp : l.pending with
  | none =>
    have hzero : s.accounts.map (fun a => a.uncommitBy (l.pendingFor a.number)) = s.accounts := by
      refine (List.map_congr_left fun a _ => ?_).trans (List.map_id _)
      have hat : l.pendingFor a.number = fun _ => 0 := funext fun ty => by simp [Lot.pendingFor, hp]
      rw [hat, a.uncommitBy_zero, id]
    rw [hzero]
  | some p =>
    refine congrArg (fun as => { s.accountTable with accounts := as }) (List.map_congr_left fun a _ => ?_)
    by_cases ha : a.number = l.boat
    · have hat : l.pendingFor a.number = fun ty => if l.crateType = ty then p.crates else 0 :=
        funext fun ty => by simp [Lot.pendingFor, hp, ha]
      rw [if_pos ha, hat, Account.uncommitBy_single]
    · have hat : l.pendingFor a.number = fun _ => 0 := funext fun ty => by simp [Lot.pendingFor, Ne.symm ha]
      rw [if_neg ha, hat, a.uncommitBy_zero]

theorem accountTable_foldl_dropPending (ls : List Lot) (s : State) :
    (ls.foldl dropPending s).accountTable =
      { s.accountTable with
        accounts := s.accounts.map fun a => a.uncommitBy fun ty => (ls.map fun l => l.pendingFor a.number ty).sum } := by
  induction ls generalizing s with
  | nil =>
    have hzero : s.accounts.map (fun a => a.uncommitBy fun _ => 0) = s.accounts :=
      (List.map_congr_left fun a _ => a.uncommitBy_zero).trans (List.map_id _)
    simp only [List.foldl_nil, List.map_nil, List.sum_nil, hzero]
  | cons l ls ih =>
    rw [List.foldl_cons, ih]
    simp only [accounts, accountTable_dropPending, List.map_map, List.map_cons, List.sum_cons]
    refine congrArg (fun as => { s.accountTable with accounts := as }) (List.map_congr_left fun a _ => ?_)
    exact a.uncommitBy_uncommitBy ..

/-! ## The lots found on a clock at a power-on (R76) -/

theorem lotTable_putBackFound {s : State} {l : Lot} (h : ∀ r, l.onClockAt r = true → l.key ∉ (s.rostrum r).queue) :
    (s.putBackFound l).lotTable = s.lotTable.settled [] l.backKey.toList (s.backDisplaces l).toList := by
  unfold putBackFound Lot.backKey backDisplaces
  by_cases hs : l.state = .onClock
  · rw [if_pos hs, if_pos hs, if_pos hs]
    cases hr : l.rostrum with
    | none => exact s.lotTable.settled_nil.symm
    | some r =>
      have hq : l.key ∉ (s.rostrum r).queue := h r (decide_eq_true ⟨hs, hr⟩)
      exact s.lotTable_putBackKey r l.key fun hd => hq (Rostrum.displaces_mem hd)
  · rw [if_neg hs, if_neg hs, if_neg hs]
    exact s.lotTable.settled_nil.symm

theorem rostrum_putBackFound_ne {s : State} {l : Lot} {r : RostrumId} (h : l.onClockAt r = false) :
    (s.putBackFound l).rostrum r = s.rostrum r := by
  rw [rostrum_putBackFound, if_neg (of_decide_eq_false h)]

/-- The lots found on a clock go back, no two of them at one rostrum, and none of them queued at one of their rostra. -/
theorem lotTable_foldl_putBackFound {ls : List Lot} (hone : ls.Pairwise fun a b => ∀ r, a.onClockAt r = true → b.onClockAt r = false)
    {s : State} (hqueue : ∀ a ∈ ls, a.state = .onClock → ∀ b ∈ ls, ∀ r, b.onClockAt r = true → a.key ∉ (s.rostrum r).queue) :
    (ls.foldl putBackFound s).lotTable = s.lotTable.settled [] (ls.filterMap Lot.backKey) (ls.filterMap s.backDisplaces) := by
  induction ls generalizing s with
  | nil => exact s.lotTable.settled_nil.symm
  | cons l ls ih =>
    obtain ⟨hl, hrest⟩ := List.pairwise_cons.mp hone
    have hlist : ls.filterMap (s.putBackFound l).backDisplaces = ls.filterMap s.backDisplaces :=
      List.filterMap_congr fun b hb => backDisplaces_congr fun r hr =>
        rostrum_putBackFound_ne (Bool.eq_false_iff.mpr fun h => by rw [hl b hb r h] at hr; cases hr)
    have hqueue' : ∀ a ∈ ls, a.state = .onClock → ∀ b ∈ ls, ∀ r, b.onClockAt r = true →
        a.key ∉ ((s.putBackFound l).rostrum r).queue := fun a ha hs b hb r hr => by
      rw [rostrum_putBackFound_ne (Bool.eq_false_iff.mpr fun h => by rw [hl b hb r h] at hr; cases hr)]
      exact hqueue a (List.mem_cons_of_mem _ ha) hs b (List.mem_cons_of_mem _ hb) r hr
    have hown : ∀ r, l.onClockAt r = true → l.key ∉ (s.rostrum r).queue := fun r hr =>
      hqueue l List.mem_cons_self (of_decide_eq_true hr).1 l List.mem_cons_self r hr
    have hkept : ∀ key ∈ l.backKey.toList, key ∉ ls.filterMap s.backDisplaces := fun key hk hd => by
      obtain ⟨b, hb, hbd⟩ := List.mem_filterMap.mp hd
      obtain ⟨hs, rfl⟩ := Lot.of_backKey (Option.mem_toList.mp hk)
      obtain ⟨r, hr, hmem⟩ := backDisplaces_mem hbd
      exact hqueue l List.mem_cons_self hs b (List.mem_cons_of_mem _ hb) r hr hmem
    rw [List.foldl_cons, ih hrest hqueue', lotTable_putBackFound hown, hlist, LotTable.settled_settled hkept]
    cases hb : l.backKey <;> cases hd : s.backDisplaces l <;> simp [hb, hd]

/-- The queue of a rostrum takes the lot found on its clock. -/
theorem rostrum_foldl_putBackFound {ls : List Lot} (hone : ls.Pairwise fun a b => ∀ r, a.onClockAt r = true → b.onClockAt r = false)
    (s : State) (r : RostrumId) :
    (ls.foldl putBackFound s).rostrum r = (s.rostrum r).takes ((ls.find? (·.onClockAt r)).map (·.key)) := by
  induction ls generalizing s with
  | nil => rfl
  | cons l ls ih =>
    obtain ⟨hl, hrest⟩ := List.pairwise_cons.mp hone
    rw [List.foldl_cons, ih hrest]
    cases hr : l.onClockAt r with
    | false => rw [rostrum_putBackFound_ne hr, List.find?_cons_of_neg (by simp [hr])]
    | true =>
      have hnone : ls.find? (·.onClockAt r) = none := List.find?_eq_none.mpr fun b hb => by simp [hl b hb r hr]
      rw [hnone, List.find?_cons_of_pos (p := fun x : Lot => x.onClockAt r) hr, rostrum_putBackFound, if_pos (of_decide_eq_true hr)]
      rfl

/-! ## Lots on a clock, one a rostrum (R49) -/

theorem Linked.pairwise_onClockAt {s : State} (h : s.Linked) :
    s.lotTable.lots.Pairwise fun a b => ∀ r, a.onClockAt r = true → b.onClockAt r = false := by
  refine (List.Pairwise.and_mem.mp h.keyed.1).imp fun {a b} ⟨ha, hb, hab⟩ r hr => Bool.eq_false_iff.mpr fun hr' => ?_
  obtain ⟨hs, hra⟩ := of_decide_eq_true hr
  obtain ⟨hs', hrb⟩ := of_decide_eq_true hr'
  rw [h.oneOnClock a ha b hb hs hs' (hra.trans hrb.symm), Key.before_irrefl] at hab
  cases hab

/-- A lot on a clock is in no queue (R49). -/
theorem Linked.onClock_not_mem_queue {s : State} (h : s.Linked) {a : Lot} (ha : a ∈ s.lotTable.lots) (hs : a.state = .onClock)
    (r : RostrumId) : a.key ∉ (s.rostrum r).queue := by
  intro hq
  obtain ⟨b, hb, hkey, hqueued, -⟩ := h.queued r _ hq
  obtain rfl := h.ordered.eq_of_key hb ha hkey
  rw [hs] at hqueued
  cases hqueued

theorem foundOnClock_eq (s : State) (r : RostrumId) :
    s.foundOnClock r = (s.lotTable.lots.find? (·.onClockAt r)).map (·.key) := rfl

theorem Linked.foundOnClock_eq_some_iff {s : State} (h : s.Linked) {r : RostrumId} {key : Key} :
    s.foundOnClock r = some key ↔ ∃ l ∈ s.lotTable.lots, l.onClockAt r = true ∧ l.key = key := by
  rw [foundOnClock_eq, Option.map_eq_some_iff]
  constructor
  · rintro ⟨l, hl, hkey⟩
    exact ⟨l, List.mem_of_find?_eq_some hl, List.find?_some (p := fun x : Lot => x.onClockAt r) hl, hkey⟩
  · rintro ⟨l, hl, hr, rfl⟩
    cases hf : s.lotTable.lots.find? (·.onClockAt r) with
    | none => exact absurd hr (by simpa using List.find?_eq_none.mp hf l hl)
    | some l' =>
      have hr' : l'.onClockAt r = true := List.find?_some (p := fun x : Lot => x.onClockAt r) hf
      obtain ⟨hs, hra⟩ := of_decide_eq_true hr
      obtain ⟨hs', hrb⟩ := of_decide_eq_true hr'
      exact ⟨l', rfl, h.oneOnClock l' (List.mem_of_find?_eq_some hf) l hl hs' hs (hrb.trans hra.symm)⟩

theorem Lot.backKey_eq_some_iff {l : Lot} {key : Key} : l.backKey = some key ↔ (∃ r, l.onClockAt r = true) ∧ l.key = key := by
  by_cases hs : l.state = .onClock
  · cases hr : l.rostrum <;> simp [Lot.backKey, Lot.onClockAt, hs, hr]
  · simp [Lot.backKey, Lot.onClockAt, hs]

/-! ## The retained records put right (R47, R76, R116) -/

theorem Linked.mem_backKeys {s : State} (h : s.Linked) (key : Key) :
    key ∈ s.lotTable.lots.filterMap Lot.backKey ↔ key ∈ bothKeys s.foundOnClock := by
  simp only [mem_bothKeys, h.foundOnClock_eq_some_iff, List.mem_filterMap, Lot.backKey_eq_some_iff]
  constructor
  · rintro ⟨l, hl, ⟨r, hr⟩, hkey⟩
    exact ⟨r, l, hl, hr, hkey⟩
  · rintro ⟨r, l, hl, hr, hkey⟩
    exact ⟨l, hl, ⟨r, hr⟩, hkey⟩

theorem Linked.mem_backDisplaces {s u : State} (h : s.Linked) (hu : ∀ r, u.rostrum r = s.rostrum r) (key : Key) :
    key ∈ s.lotTable.lots.filterMap u.backDisplaces ↔ key ∈ bothKeys fun r => (s.rostrum r).displaces (s.foundOnClock r) := by
  simp only [mem_bothKeys, List.mem_filterMap, backDisplaces_eq_some_iff, hu]
  constructor
  · rintro ⟨l, hl, r, hr, hd⟩
    exact ⟨r, by rw [h.foundOnClock_eq_some_iff.mpr ⟨l, hl, hr, rfl⟩, hd]⟩
  · rintro ⟨r, hd⟩
    cases hf : s.foundOnClock r with
    | none => rw [hf, Rostrum.displaces, if_neg (by simp)] at hd; cases hd
    | some k =>
      obtain ⟨l, hl, hr, rfl⟩ := h.foundOnClock_eq_some_iff.mp hf
      exact ⟨l, hl, r, hr, hf ▸ hd⟩

/-- Every pending part goes, whether a key names it or finds none. -/
theorem settled_pendingKeys {T : LotTable} (back displaced : List Key) :
    T.settled (T.lots.filterMap fun l => l.pending.map fun _ => l.key) back displaced =
      T.settled (T.lots.map (·.key)) back displaced := by
  refine congrArg (fun ls => { T with lots := ls }) (List.map_congr_left fun l hl => ?_)
  have hall : l.key ∈ T.lots.map (·.key) := List.mem_map_of_mem hl
  cases hp : l.pending with
  | none => simp [Lot.settled, hp]
  | some p =>
    have hmem : l.key ∈ T.lots.filterMap fun l => l.pending.map fun _ => l.key :=
      List.mem_filterMap.mpr ⟨l, hl, by rw [hp]; rfl⟩
    simp only [Lot.settled, if_pos hmem, if_pos hall]

theorem warmReconcile_reconciled (s : State) : s.Reconciled s.warmReconcile := by
  have hdrop : ∀ r, (s.lotTable.lots.foldl dropPending s).rostrum r = s.rostrum r := fun r =>
    foldl_keeps (g := (·.rostrum r)) (fun s l => rostrum_congr (by simp) (by simp) r) _ _
  have hrostra : ∀ r, s.warmReconcile.rostrum r = s.reconcileLots.rostrum r := fun r =>
    rostrum_congr (by simp [warmReconcile]) (by simp [warmReconcile]) r
  refine ⟨fun h => ?_, fun h r => ?_, ?_, ?_⟩
  · have hqueue : ∀ a ∈ s.lotTable.lots, a.state = .onClock → ∀ b ∈ s.lotTable.lots, ∀ r, b.onClockAt r = true →
        a.key ∉ ((s.lotTable.lots.foldl dropPending s).rostrum r).queue := fun a ha hs _ _ r _ => by
      rw [hdrop]
      exact h.onClock_not_mem_queue ha hs r
    have htable : s.warmReconcile.lotTable = s.reconcileLots.lotTable := by simp [warmReconcile]
    rw [htable, reconcileLots]
    dsimp only
    rw [lotTable_foldl_putBackFound h.pairwise_onClockAt hqueue, lotTable_foldl_dropPending, LotTable.settled_settled (by simp)]
    simp only [List.append_nil, List.nil_append]
    rw [settled_pendingKeys]
    exact LotTable.settled_congr (fun _ _ => .rfl) (fun l _ => h.mem_backKeys l.key) fun l _ => h.mem_backDisplaces hdrop l.key
  · rw [hrostra, reconcileLots, rostrum_foldl_putBackFound h.pairwise_onClockAt, hdrop]
    rfl
  · have hback : ∀ u : State, (s.lotTable.lots.foldl putBackFound u).accountTable = u.accountTable :=
      foldl_keeps (g := (·.accountTable)) (by simp) _
    have htable : s.reconcileLots.accountTable =
        { s.accountTable with
          accounts := s.accounts.map fun a => a.uncommitBy fun ty => (s.lotTable.lots.map fun l => l.pendingFor a.number ty).sum } :=
      (hback _).trans (accountTable_foldl_dropPending ..)
    simp only [warmReconcile, modIce_accountTable, dropReserved, htable, List.map_map]
    rfl
  · obtain ⟨hlanes, hcrates, hstore, hport, hfree, hpending, hice⟩ := s.warmReconcile_frame
    rw [← hice, ← hlanes, ← hcrates, ← hstore, ← hport, ← hfree, ← hpending, ← s.warmReconcile_supply]

end State

/-! ## The store at a power-on (R160, R161) -/

namespace Store

theorem loseBuffer_frame (st : Store) (n : Nat) :
    (st.loseBuffer n).buffer = none ∧ (st.loseBuffer n).last = st.last ∧ (st.loseBuffer n).attention = st.attention ∧
      (∀ w ∈ st.buffer, ((st.loseBuffer n).cells.get w.target).valid = false) ∧
      ∀ id, st.buffer.map (·.target) ≠ some id → (st.loseBuffer n).cells.get id = st.cells.get id := by
  unfold loseBuffer
  cases hb : st.buffer with
  | none => exact ⟨hb, rfl, rfl, by simp, fun _ _ => rfl⟩
  | some b =>
    refine ⟨rfl, rfl, rfl, fun w hw => ?_, fun id hid => StoreCells.get_set_ne (fun h => hid (congrArg some h)) _⟩
    obtain rfl := Option.some.inj hw
    show ((st.cells.set b.target (tornRecord n b.target)).get b.target).valid = false
    rw [StoreCells.get_set_self]
    rfl

/-- A record that reads INVALID reads so after a start (R151). -/
theorem live_start_invalid {st : Store} (hempty : st.buffer = none) {id : RecordId} (h : (st.live id).valid = false) :
    (st.start.live id).valid = false := by
  have hempty' : st.start.buffer = none := by simp [start, resume, loadProtection, checkAll, hempty]
  rw [live_none hempty] at h
  rw [live_none hempty', get_start, hempty, if_neg (by simp), StoreRecord.checked, h]
  rfl

end Store

namespace State

/-! ## The power-on (R165) -/

theorem supplyLost_present {s : State} (h : s.supply.absent = false) : s.supplyLost = s.loseVolatile := by
  rw [supplyLost, h, if_neg Bool.false_ne_true]

/-- The retained records that a power-on starts with. -/
def retained (s : State) : State := if s.supply.latch then s.coldClear else s.warmReconcile

/-- The cause of a power-on (R167). -/
def powerCause (s : State) : RestartCause := if s.supply.latch then .powerOnCold else .powerOnWarm

theorem powersOn_retained {s : State} (h : s.supply.absent = true) :
    s.powersOn =
      if s.supply.resetLine then s.retained.powered s.powerCause else (s.retained.powered s.powerCause).finishStart := by
  rw [powersOn_eq h, retained, powerCause]
  cases s.supply.latch <;> rfl

theorem retained_supply (s : State) : s.retained.supply = s.supply := by
  unfold retained
  split <;> simp

/-- A power-on that finishes, with its retained records. -/
theorem powered_started (u : State) (cause : RestartCause) : u.Started (u.powered cause).finishStart cause :=
  (finishStart_started (s := u.powered cause) rfl rfl rfl rfl).modSupply_left

/-- What a start leaves of the last results and the attention flags. -/
theorem Started.lasts {u t : State} {cause : RestartCause} (h : u.Started t cause) :
    (∀ i, (t.lane i).last = (u.lane i).last ∧ (t.lane i).attention = (u.lane i).attention) ∧
      (∀ r, (t.rostrum r).last = (u.rostrum r).last ∧ (t.rostrum r).attention = (u.rostrum r).attention) ∧
      (∀ b, (t.bay b).last = (u.bay b).last ∧ (t.bay b).attention = (u.bay b).attention) ∧
      t.store.last = u.store.last ∧ t.store.attention = u.store.attention :=
  ⟨fun i => by rw [h.lanes i]; exact ⟨rfl, rfl⟩, fun r => by rw [h.rostra r]; exact ⟨rfl, rfl⟩,
    fun b => by rw [h.bays b]; exact ⟨rfl, rfl⟩, by rw [h.store], by rw [h.store]⟩

theorem rostrum_warmReconcile_lasts (s : State) (r : RostrumId) :
    (s.warmReconcile.rostrum r).last = (s.rostrum r).last ∧ (s.warmReconcile.rostrum r).attention = (s.rostrum r).attention := by
  have htakes : ∀ (x : Rostrum) (key : Option Key), (x.takes key).last = x.last ∧ (x.takes key).attention = x.attention := by
    intro x key
    unfold Rostrum.takes
    (repeat' split) <;> exact ⟨rfl, rfl⟩
  have hdrop : ∀ u : State, (s.lotTable.lots.foldl dropPending u).rostrum r = u.rostrum r :=
    foldl_keeps (g := (·.rostrum r)) (fun s l => rostrum_congr (by simp) (by simp) r) _
  have hback : ∀ u : State,
      ((s.lotTable.lots.foldl putBackFound u).rostrum r).last = (u.rostrum r).last ∧
        ((s.lotTable.lots.foldl putBackFound u).rostrum r).attention = (u.rostrum r).attention := fun u => by
    refine Prod.ext_iff.mp (foldl_keeps (g := fun u => ((u.rostrum r).last, (u.rostrum r).attention)) (fun u l => ?_) _ u)
    rw [rostrum_putBackFound]
    split
    · exact Prod.ext (htakes _ _).1 (htakes _ _).2
    · rfl
  have hrostrum : s.warmReconcile.rostrum r = s.reconcileLots.rostrum r :=
    rostrum_congr (by simp [warmReconcile]) (by simp [warmReconcile]) r
  obtain ⟨hlast, hattention⟩ := hback (s.lotTable.lots.foldl dropPending s)
  rw [hdrop] at hlast hattention
  rw [hrostrum]
  exact ⟨hlast, hattention⟩

/-- A part that the loss of its supply left dark has no last result and no attention flag at a power-on. -/
theorem Dark.retained_lasts {s : State} (h : s.Dark) :
    (∀ i, (s.retained.lane i).last = none ∧ (s.retained.lane i).attention = false) ∧
      (∀ r, (s.retained.rostrum r).last = none ∧ (s.retained.rostrum r).attention = false) ∧
      (∀ b, (s.retained.bay b).last = none ∧ (s.retained.bay b).attention = false) ∧ s.retained.store.last = none ∧
      s.retained.store.attention = false := by
  obtain ⟨hlast, hattention, -⟩ := h.store
  unfold retained
  split
  · refine ⟨fun i => ?_, fun r => ?_, fun b => ?_, ?_⟩
    · rw [coldClear_lane]
      exact ⟨rfl, rfl⟩
    · rw [coldClear_rostrum]
      exact ⟨rfl, rfl⟩
    · rw [coldClear_bay]
      exact ⟨rfl, rfl⟩
    · obtain ⟨-, hlast', hattention', -⟩ := s.store.loseBuffer_frame s.freeCount
      exact ⟨hlast'.trans hlast, hattention'.trans hattention⟩
  · refine ⟨fun i => ?_, fun r => ?_, fun b => ?_, ?_⟩
    · rw [warmReconcile_lane, h.lanes i]
      exact ⟨rfl, rfl⟩
    · obtain ⟨hl, ha⟩ := s.rostrum_warmReconcile_lasts r
      rw [hl, ha, h.rostra r]
      exact ⟨rfl, rfl⟩
    · rw [warmReconcile_bay, h.bays b]
      exact ⟨rfl, rfl⟩
    · have hstore : s.warmReconcile.store = s.store := by simp
      rw [hstore]
      exact ⟨hlast, hattention⟩

/-- The retained records that a cold power-on has cleared (R165). -/
theorem retained_cold {s : State} (h : s.supply.latch = true) : s.retained = s.coldClear := by rw [retained, h, if_pos rfl]

theorem retained_warm {s : State} (h : s.supply.latch = false) : s.retained = s.warmReconcile := by
  rw [retained, h, if_neg Bool.false_ne_true]

/-- A write held at a cold power-on leaves its target INVALID (R161). -/
theorem coldClear_target_invalid (s : State) {w : WriteBuffer} (hw : w ∈ s.store.buffer) :
    (s.coldClear.store.live w.target).valid = false := by
  obtain ⟨hempty, -, -, hinvalid, -⟩ := s.store.loseBuffer_frame s.freeCount
  show ((s.store.loseBuffer s.freeCount).live w.target).valid = false
  rw [Store.live_none hempty]
  exact hinvalid w hw

end State

/-- Settles O58. -/
theorem powerLossAndPowerOn : Obligations.PowerLossAndPowerOn := by
  refine fun s => ⟨fun hp => ⟨s.loseVolatile, ?_, s.dark_loseVolatile, ?_⟩, rfl, fun ha => ?_⟩
  · exact congrArg Host.Outcome.next (State.supplyLost_present hp)
  · obtain ⟨haccounts, hstock, hreservation, hstore, hsupply, -⟩ := s.loseVolatile_blocks
    have habsent : s.loseVolatile.supply.absent = true := by rw [hsupply]; rfl
    refine ⟨habsent, Supply.trading_eq_false_iff.mpr (.inl habsent), by rw [hsupply]; rfl, by rw [hsupply]; rfl,
      s.loseVolatile_lane, s.loseVolatile_rostrum, by simp, haccounts, by simp, hstock, hreservation, by rw [hstore]; rfl,
      by rw [hstore]; rfl⟩
  · intro cause
    have hon : exec .powerOn s =
        .next (if s.supply.resetLine then s.retained.powered cause else (s.retained.powered cause).finishStart) :=
      congrArg Host.Outcome.next (State.powersOn_retained ha)
    have hstarted : s.retained.Started (s.retained.powered cause).finishStart cause := State.powered_started ..
    refine ⟨s.retained, fun hlatch => ?_, fun hlatch => ?_, fun hline => ?_, fun hline => ?_⟩
    · rw [State.retained_warm hlatch]
      exact s.warmReconcile_reconciled
    · rw [State.retained_cold hlatch]
      obtain ⟨hempty, hlast, hattention, -, hcells⟩ := s.store.loseBuffer_frame s.freeCount
      refine ⟨s.coldClear_lane, rfl, s.coldClear_rostrum, rfl, fun ty => ?_, fun g => ?_, rfl, rfl, s.coldClear_bay, hempty,
        fun w hw => s.coldClear_target_invalid hw, hcells, hlast, hattention⟩
      · simp [State.crateType, State.coldClear, CratePool.empty]
      · simp [State.gate, State.coldClear, CratePool.empty, Gate.fresh]
    · have hmonitor := State.finishStart_monitor (s.retained.powered cause)
      refine ⟨_, hon.trans (by rw [hline]; rfl), hstarted, by rw [hmonitor]; rfl, by rw [hmonitor]; rfl, ?_, ?_, by rw [hmonitor]; rfl,
        fun hlatch w hw => ?_, fun hdark => ?_⟩
      · rw [hmonitor]
        exact ite_self _
      · rw [hmonitor]
        exact ite_self _
      · have hinvalid := s.coldClear_target_invalid hw
        rw [State.finishStart_store]
        rw [← State.retained_cold hlatch] at hinvalid
        exact Store.live_start_invalid (by rw [State.retained_cold hlatch]; exact (s.store.loseBuffer_frame _).1) hinvalid
      · obtain ⟨hlanes, hrostra, hbays, hstore, hstore'⟩ := hstarted.lasts
        obtain ⟨hlanes', hrostra', hbays', hlast, hattention⟩ := hdark.retained_lasts
        refine ⟨fun i => ?_, fun r => ?_, fun b => ?_, hstore.trans hlast, hstore'.trans hattention⟩
        · rw [(hlanes i).1, (hlanes i).2]
          exact hlanes' i
        · rw [(hrostra r).1, (hrostra r).2]
          exact hrostra' r
        · rw [(hbays b).1, (hbays b).2]
          exact hbays' b
    · rw [hon, hline, if_pos rfl, State.powered, State.modSupply, State.retained_supply]
      rfl

end Sys2Proof.Machine
end

section
/-! PROOF. The frame of a request is received as that request (R169, R177). -/

namespace Sys2Proof.Machine

/-! ## Numbers in big-endian fields (R177) -/

theorem length_be (w v : Nat) : (be w v).length = w := by
  induction w with
  | zero => rfl
  | succ w ih => rw [be, List.length_cons, ih]

theorem foldl_bytes (bs : List Byte) (acc : Nat) :
    bs.foldl (fun acc b => acc * 256 + b.toNat) acc = acc * 256 ^ bs.length + ofBytes bs := by
  unfold ofBytes
  induction bs generalizing acc with
  | nil => simp
  | cons b bs ih =>
    rw [List.foldl_cons, ih, List.foldl_cons, ih (0 * 256 + b.toNat), List.length_cons, pow_succ]
    ring

theorem ofBytes_cons (b : Byte) (bs : List Byte) : ofBytes (b :: bs) = b.toNat * 256 ^ bs.length + ofBytes bs := by
  rw [ofBytes, List.foldl_cons, foldl_bytes, Nat.zero_mul, Nat.zero_add]

theorem ofBytes_be (w v : Nat) : ofBytes (be w v) = v % 256 ^ w := by
  induction w with
  | zero => simp [be, ofBytes, Nat.mod_one]
  | succ w ih =>
    have hbyte : (BitVec.ofNat 8 (v / 256 ^ w)).toNat = v / 256 ^ w % 256 := BitVec.toNat_ofNat ..
    rw [be, ofBytes_cons, length_be, ih, hbyte, pow_succ, Nat.mod_mul, Nat.add_comm, Nat.mul_comm]

/-- A number that its field can carry is read back (R177). -/
theorem ofBytes_be_of_fits {w v : Nat} (h : fits w v = true) : ofBytes (be w v) = v := by
  rw [ofBytes_be, Nat.mod_eq_of_lt (of_decide_eq_true h)]

/-- A signed number that its field can carry is read back (R177). -/
theorem ofBytesInt_beInt {w : Nat} {v : Int} (h : fitsInt w v = true) : ofBytesInt w (beInt w v) = v := by
  obtain ⟨hlow, hhigh⟩ := of_decide_eq_true h
  have hpos : (0 : Int) < 256 ^ w := by positivity
  have hcast : ((256 ^ w : Nat) : Int) = (256 : Int) ^ w := by push_cast; rfl
  have hmod : (ofBytes (beInt w v) : Int) = v % 256 ^ w := by
    have hnonneg := Int.emod_nonneg v hpos.ne'
    have hlt := Int.emod_lt_of_pos v hpos
    rw [beInt, ofBytes_be, Nat.mod_eq_of_lt (by omega), Int.toNat_of_nonneg hnonneg]
  unfold ofBytesInt
  by_cases hv : 0 ≤ v
  · have hsame : v % 256 ^ w = v := Int.emod_eq_of_lt hv (by omega)
    rw [hsame] at hmod
    rw [if_pos (by omega), hmod]
  · have hsame : v % 256 ^ w = v + 256 ^ w := by
      rw [← Int.add_emod_right, Int.emod_eq_of_lt (by omega) (by omega)]
    rw [hsame] at hmod
    rw [if_neg (by omega), hmod]
    omega

/-! ## Reading a field of a run of bytes -/

theorem getElem?_zeros (n k : Nat) : (List.replicate n (0#8 : Byte))[k]?.getD 0#8 = 0#8 := by
  by_cases h : k < n <;> simp [h]

/-- A field is made of the bytes from its position on; a byte beyond the run is 0. -/
theorem field_eq (bs : List Byte) (pos w : Nat) : field bs pos w = ofBytes ((List.range w).map fun k => bs[pos + k]?.getD 0#8) := by
  refine congrArg ofBytes (List.ext_getElem? fun k => ?_)
  by_cases hk : k < w
  · rw [List.getElem?_take_of_lt hk, List.getElem?_map, List.getElem?_range hk, Option.map_some]
    by_cases hp : k < bs.length - pos
    · rw [List.getElem?_append_left (by simpa using hp), List.getElem?_drop]
      simp [show pos + k < bs.length by omega]
    · rw [List.getElem?_append_right (by simpa using hp), List.getElem?_eq_none (by omega : bs.length ≤ pos + k)]
      simp [List.getElem?_replicate]
      omega
  · rw [List.getElem?_eq_none (by simp; omega), List.getElem?_eq_none (by simp; omega)]

/-- Fields of the same bytes are the same. -/
theorem field_congr {bs bs' : List Byte} {pos pos' w : Nat}
    (h : ∀ k < w, bs[pos + k]?.getD 0#8 = bs'[pos' + k]?.getD 0#8) : field bs pos w = field bs' pos' w := by
  rw [field_eq, field_eq, List.map_congr_left fun k hk => h k (List.mem_range.mp hk)]

theorem field_cons (b : Byte) (bs : List Byte) (pos w : Nat) : field (b :: bs) (pos + 1) w = field bs pos w := rfl

/-- A field beyond the first bytes of a run. -/
theorem field_append_right {xs : List Byte} (bs : List Byte) {pos : Nat} (w : Nat) (h : xs.length ≤ pos) :
    field (xs ++ bs) pos w = field bs (pos - xs.length) w :=
  field_congr fun k _ => by rw [List.getElem?_append_right (by omega), Nat.sub_add_comm h]

/-- A field within the first bytes of a run. -/
theorem field_append_left {xs : List Byte} (bs : List Byte) {pos w : Nat} (h : pos + w ≤ xs.length) :
    field (xs ++ bs) pos w = field xs pos w :=
  field_congr fun k hk => by rw [List.getElem?_append_left (by omega)]

/-- The bytes that fill a run up are those that a field reads beyond it (R177). -/
theorem field_padTo {n pos w : Nat} (bs : List Byte) (h : pos + w ≤ n) : field (padTo n bs) pos w = field bs pos w :=
  field_congr fun k hk => by
    rw [padTo, List.getElem?_take_of_lt (by omega)]
    by_cases hb : pos + k < bs.length
    · rw [List.getElem?_append_left hb]
    · rw [List.getElem?_append_right (by omega), List.getElem?_eq_none (by omega : bs.length ≤ pos + k)]
      exact getElem?_zeros ..

theorem field_all (bs : List Byte) : field bs 0 bs.length = ofBytes bs := by
  rw [field, List.drop_zero, List.take_left]

/-- The field at the front of a run, of a number that it can carry. -/
theorem field_be {w v : Nat} (h : fits w v = true) : field (be w v) 0 w = v := by
  have hall := field_all (be w v)
  rw [length_be] at hall
  rw [hall, ofBytes_be_of_fits h]

theorem field_be_append {w v : Nat} (h : fits w v = true) (bs : List Byte) : field (be w v ++ bs) 0 w = v := by
  rw [field_append_left _ (by rw [length_be]; omega), field_be h]

theorem field_be_append_right {w pos : Nat} (v u : Nat) (bs : List Byte) (h : w ≤ pos) :
    field (be w v ++ bs) pos u = field bs (pos - w) u := by
  rw [field_append_right _ _ (by rwa [length_be]), length_be]

/-! ## The frame of a request -/

theorem length_frameBody (code : Byte) (args : List Byte) (partNo : Nat) : (frameBody code args partNo).length = 15 := by
  simp [frameBody, length_padTo, length_be]

theorem field_frameBody_code (code : Byte) (args : List Byte) (partNo : Nat) : field (frameBody code args partNo) 0 1 = code.toNat := by
  simp [frameBody, field, ofBytes]

/-- The arguments of a frame stand from byte 1 on. -/
theorem field_frameBody_args (code : Byte) (args : List Byte) (partNo : Nat) {pos w : Nat} (h : pos + w ≤ 12) :
    field (frameBody code args partNo) (pos + 1) w = field args pos w := by
  show field (padTo 12 args ++ be 1 partNo ++ [0#8]) pos w = _
  rw [List.append_assoc, field_append_left _ (by rwa [length_padTo]), field_padTo _ h]

/-- The part number of a frame is byte 13. -/
theorem field_frameBody_partNo (code : Byte) (args : List Byte) {partNo : Nat} (h : fits 1 partNo = true) :
    field (frameBody code args partNo) 13 1 = partNo := by
  show field (padTo 12 args ++ be 1 partNo ++ [0#8]) 12 1 = _
  rw [List.append_assoc, field_append_right _ _ (by rw [length_padTo]), length_padTo]
  exact field_be_append h _

/-- A frame that carries its request: fifteen bytes, the last of them 0, that name it operand by operand. -/
structure Carries (body : List Byte) (i : Instr) : Prop where
  length : body.length = 15
  last : body[14]?.getD 0#8 = 0#8
  names : requestOf body = some i

theorem frameBody_carries {code : Byte} {args : List Byte} {partNo : Nat} {i : Instr}
    (h : requestOf (frameBody code args partNo) = some i) : Carries (frameBody code args partNo) i := by
  refine ⟨length_frameBody .., ?_, h⟩
  rw [frameBody, List.getElem?_append_right (by simp [length_padTo, length_be])]
  simp [length_padTo, length_be]

theorem storeWrite_carries {selector : Nat} {contents : List Byte} (hs : fits 1 selector = true) (hc : contents.length = 12) :
    Carries ([0x71#8] ++ be 1 selector ++ padTo 12 contents ++ [0#8]) (.storeWrite selector contents) := by
  have hpad : padTo 12 contents = contents := by rw [padTo, ← hc, List.take_left]
  rw [hpad]
  refine ⟨by simp [length_be, hc], ?_, ?_⟩
  · rw [List.getElem?_append_right (by simp [length_be, hc])]
    simp [length_be, hc]
  · show some (Instr.storeWrite (field ((be 1 selector ++ contents) ++ [0#8]) 0 1) ((contents ++ [0#8]).take 12)) = _
    rw [List.append_assoc, field_be_append hs, List.take_append_of_le_length hc.ge, List.take_of_length_le hc.le]

/-- A request's frame carries it (R177). -/
theorem encodeRequest_carries {i : Instr} (hwf : i.wf = true) {body : List Byte} (h : encodeRequest i = some body) : Carries body i := by
  cases i with
  | storeWrite selector contents =>
    cases h
    obtain ⟨hs, hc⟩ := (Bool.and_eq_true ..).mp hwf
    exact storeWrite_carries hs (of_decide_eq_true hc)
  | fleetAdjust crateType n =>
    cases h
    obtain ⟨ht, hn⟩ := (Bool.and_eq_true ..).mp hwf
    refine frameBody_carries ?_
    show some (Instr.fleetAdjust (field (frameBody 0x54 (be 1 crateType ++ beInt 4 n) 0) 1 1) (ofBytesInt 4 (beInt 4 n))) = _
    rw [field_frameBody_args _ _ _ (by decide), field_be_append ht, ofBytesInt_beInt hn]
  | _ =>
    -- every other request's arguments are unsigned fields of its frame
    cases h <;> refine frameBody_carries ?_ <;> simp only [Instr.wf, Bool.and_eq_true] at hwf <;>
      simp [requestOf, field_frameBody_code, field_frameBody_args, field_frameBody_partNo, field_be, field_be_append,
        field_be_append_right, hwf]

/-- The last bytes of a run, those of a frame that ends it (R169). -/
theorem lastN_append {n : Nat} {frame : List Byte} (earlier : List Byte) (h : frame.length = n) : lastN n (earlier ++ frame) = frame := by
  rw [lastN, List.length_append, h, Nat.add_sub_cancel, List.drop_left]

/-- A frame that carries a request is received as that request, checked or not (R169 to R171). -/
theorem receive_carried {body : List Byte} {i : Instr} (h : Carries body i) (crcOn : Bool) (earlier : List Byte) :
    receive crcOn (earlier ++ if crcOn then body ++ [crc8 body] else body) = i := by
  obtain ⟨hlength, hlast, hnames⟩ := h
  cases crcOn with
  | false =>
    have hlong : ¬ earlier.length + body.length < 15 := by omega
    have htake : body.take 15 = body := List.take_of_length_le hlength.le
    simp [receive, hlong, lastN_append earlier hlength, htake, hnames, hlast]
  | true =>
    have hframe : (body ++ [crc8 body]).length = 16 := by rw [List.length_append, hlength]; rfl
    have hlong : ¬ earlier.length + (body.length + 1) < 16 := by omega
    have htake : (body ++ [crc8 body]).take 15 = body := by rw [← hlength, List.take_left]
    have hdrop : (body ++ [crc8 body]).drop 15 = [crc8 body] := by rw [← hlength, List.drop_left]
    simp [receive, hlong, lastN_append earlier hframe, htake, hdrop, hnames, hlast]

/-- Settles O7. -/
theorem encodedRequestsAreReceived : Obligations.EncodedRequestsAreReceived := by
  intro i crcOn frame earlier hwf hframe
  obtain ⟨body, hbody, rfl⟩ := Option.map_eq_some_iff.mp hframe
  exact receive_carried (encodeRequest_carries hwf hbody) crcOn earlier

end Sys2Proof.Machine
end

section
/-! PROOF. The reading requests: every page and part, and what a read clears (R21, R45, R46, R74, R100, R101, R113, R130, R146, R153). -/

namespace Sys2Proof.Machine

/-! ## One reading request -/

theorem laneRead_part {s : State} {lane partNo : Nat} {i : Fin 8} (hi : unitIndex? 8 lane = some i) (hp : partNo ≤ 3) :
    laneRead lane partNo s =
      (s.modLane i fun l => { l with attention := false },
        { code := .ok, data := (s.lane i).readPart (s.store.laneCal? i) partNo }) := by
  simp only [laneRead, hi]
  rw [if_neg (Nat.not_lt.mpr hp)]
  rfl

theorem optCode_rostrumCode (r : Option RostrumId) :
    optCode rostrumCode r = (r.map fun r => if r = .a then 0#8 else 1#8).getD 255#8 := by
  rcases r with _ | ⟨_ | _⟩ <;> rfl

theorem lotRead_page {s : State} {selector number part page partNo parts : Nat} {lot : Lot} (hparts : lotPageParts page = some parts)
    (hpart : partNo < parts) (hs : selector ≤ 1) (hn : number ≤ 9999) (hp : part ≤ 7)
    (hlot : s.selectLot (selector == 1) { number, part } = some lot) :
    lotRead selector number part page partNo s = (s, { code := .ok, data := lot.key.bytes ++ lot.page page partNo }) := by
  have hrange : ¬ (1 < selector ∨ 9999 < number ∨ 7 < part ∨ parts ≤ partNo) := by omega
  simp only [lotRead, hparts, if_neg hrange, hlot]
  rfl

/-- The pages of LOT READ from 8 on describe one weighing each (11 section 11.4). -/
theorem Lot.page_weighing (l : Lot) (n : Nat) :
    l.page (8 + n) 0 = ((l.weighings[n]?).map fun w => be 1 w.lane ++ be 3 w.gross ++ be 1 w.crates).getD [] := by
  rw [Nat.add_comm]
  show (match l.weighings[n]? with | none => [] | some w => be 1 w.lane ++ be 3 w.gross ++ be 1 w.crates) = _
  cases l.weighings[n]? <;> rfl

theorem rostrumRead_page {s : State} {rostrum page partNo parts : Nat} {r : RostrumId} (hr : rostrum? rostrum = some r)
    (hparts : rostrumPageParts page = some parts) (hpart : partNo < parts) :
    rostrumRead rostrum page partNo s =
      (s.modRostrum r fun x => x.readEffect page, { code := .ok, data := s.rostrumPage r page partNo }) := by
  simp only [rostrumRead, hr, hparts]
  rw [if_neg (Nat.not_le.mpr hpart)]
  rfl

theorem accountRead_page {s : State} {number page partNo parts : Nat} {a : Account} (hn : 1 ≤ number ∧ number ≤ 9999)
    (ha : s.account? number = some a) (hparts : accountPageParts page = some parts) (hpart : partNo < parts) :
    accountRead number page partNo s = (s, { code := .ok, data := be 2 number ++ s.accountPage a page partNo }) := by
  obtain ⟨hn, hn'⟩ := hn
  simp only [accountRead, accountPageRead, hparts, if_neg (Nat.not_le.mpr hpart), onAccount_of_account hn hn' ha]
  rfl

theorem bayRead_page {s : State} {bay page partNo parts : Nat} {b : Fin 4} (hb : unitIndex? 4 bay = some b)
    (hparts : bayPageParts page = some parts) (hpart : partNo < parts) :
    bayRead bay page partNo s = (s.modBay b (·.readEffect page), { code := .ok, data := s.bayPage b page partNo }) := by
  simp only [bayRead, hb, hparts]
  rw [if_neg (Nat.not_le.mpr hpart)]
  rfl

theorem yardRead_page {s : State} {page : Nat} {data : List Byte} (h : s.yardPage page = some data) :
    yardRead page s = (s, { code := .ok, data }) := by
  simp only [yardRead, h]
  rfl

theorem storeRead_part {s : State} {selector partNo : Nat} {id : RecordId} (hid : RecordId.ofSelector selector = some id)
    (hp : partNo ≤ 1) :
    storeRead selector partNo s =
      (s.modStore fun st => { st with attention := false }, { code := .ok, data := s.store.readPart id partNo }) := by
  simp only [storeRead, hid]
  rw [if_neg (Nat.not_lt.mpr hp)]
  rfl

/-! ## What the pages show -/

/-- A queue page of ROSTRUM READ shows four keys. -/
theorem State.rostrumPage_queue (s : State) (r : RostrumId) {n : Nat} (h : n < 32) :
    s.rostrumPage r (16 + n) 0 =
      keyBytes (s.rostrum r).queue[4 * n]? ++ keyBytes (s.rostrum r).queue[4 * n + 1]? ++
        keyBytes (s.rostrum r).queue[4 * n + 2]? ++ keyBytes (s.rostrum r).queue[4 * n + 3]? := by
  have h0 : ¬ 16 + n = 0 := by omega
  have h1 : ¬ 16 + n = 1 := by omega
  have h2 : ¬ 16 + n = 2 := by omega
  have h3 : 16 + n ≤ 47 := by omega
  simp only [rostrumPage, if_neg h0, if_neg h1, if_neg h2, if_pos h3, Nat.add_sub_cancel_left, Nat.mul_comm n 4]
  simp

/-- The remainder of a PART_SOLD result, as ROSTRUM READ shows it. -/
theorem keyBytes_remainderKey (x : Rostrum) :
    keyBytes (remainderKey x) =
      match x.last with
      | none => be 3 0
      | some e => if e.code = .partSold then be 2 e.key.number ++ be 1 (e.key.part + 1) else be 3 0 := by
  unfold remainderKey
  cases x.last with
  | none => rfl
  | some e =>
    by_cases he : e.code = .partSold
    · simp only [if_pos he]
      rfl
    · simp only [if_neg he]
      rfl

/-- A desk page of ROSTRUM READ shows sixteen desks in three parts. -/
theorem State.rostrumPage_desks (s : State) (r : RostrumId) (n partNo : Nat) :
    s.rostrumPage r (64 + n) partNo =
      (List.range (if partNo = 2 then 4 else 6)).flatMap fun k =>
        be 2 (((s.rostrum r).desks.toList.getD (16 * n + partNo * 6 + k) none).getD 0) := by
  have h0 : ¬ 64 + n = 0 := by omega
  have h1 : ¬ 64 + n = 1 := by omega
  have h2 : ¬ 64 + n = 2 := by omega
  have h3 : ¬ 64 + n ≤ 47 := by omega
  simp only [rostrumPage, if_neg h0, if_neg h1, if_neg h2, if_neg h3, Nat.add_sub_cancel_left, Nat.mul_comm n 16]

/-- A page that clears nothing leaves its rostrum as it was. -/
theorem State.modRostrum_readEffect (s : State) (r : RostrumId) {page : Nat} (h0 : page ≠ 0) (h2 : page ≠ 2) :
    (s.modRostrum r fun x => x.readEffect page) = s := by
  have hsame : ∀ x : Rostrum, x.readEffect page = x := fun x => by rw [Rostrum.readEffect, if_neg h0, if_neg h2]
  simp only [hsame]
  cases r <;> rfl

/-- The pages of ACCOUNT READ with their parts. -/
theorem mem_accountPages_iff (page partNo : Nat) :
    (page, partNo) ∈ [(0, 0), (1, 0), (1, 1), (2, 0), (3, 0), (3, 1), (4, 0), (4, 1), (5, 0), (5, 1)] ↔
      ∃ parts, accountPageParts page = some parts ∧ partNo < parts := by
  unfold accountPageParts
  simp only [List.mem_cons, Prod.mk.injEq, List.not_mem_nil, or_false]
  split
  · simp only [Option.some.injEq, exists_eq_left']
    omega
  · split
    · simp only [Option.some.injEq, exists_eq_left']
      omega
    · simp only [reduceCtorEq, false_and, exists_false, iff_false]
      omega

/-- ACCOUNT READ judges the number, the page and the part before the lookup (R100). -/
theorem accountPageRead_range {s : State} {number page partNo : Nat}
    (h : 1 ≤ number → number ≤ 9999 → ¬ ∃ parts, accountPageParts page = some parts ∧ partNo < parts) :
    accountPageRead number page partNo s = refuse s .range := by
  unfold accountPageRead
  split
  · rfl
  · next parts hparts =>
    split
    · rfl
    · next hpart =>
      have hok : accountNumberOk number = false := Bool.eq_false_iff.mpr fun hok => by
        obtain ⟨hn, hn'⟩ := (accountNumberOk_iff number).mp hok
        exact h hn hn' ⟨parts, hparts, Nat.not_le.mp hpart⟩
      simp only [onAccount, hok, Bool.not_false, if_true]

/-- The account with the smallest number above a given one stands first of those above it (R95). -/
theorem AccountTable.Ordered.find_next {T : AccountTable} (h : T.Ordered) {a : Account} (ha : a ∈ T.accounts) {number : Nat}
    (hn : number < a.number) (hleast : ∀ b ∈ T.accounts, number < b.number → a.number ≤ b.number) :
    T.accounts.find? (fun a => decide (number < a.number)) = some a := by
  cases hf : T.accounts.find? (fun a => decide (number < a.number)) with
  | none => exact absurd hn (by simpa using List.find?_eq_none.mp hf a ha)
  | some b =>
    obtain ⟨hb, before, after, hsplit, hbefore⟩ := List.find?_eq_some_iff_append.mp hf
    have hmem : b ∈ T.accounts := List.mem_of_find?_eq_some hf
    have hle : a.number ≤ b.number := hleast b hmem (of_decide_eq_true hb)
    rw [AccountTable.Ordered, hsplit] at h
    rw [hsplit, List.mem_append, List.mem_cons] at ha
    rcases ha with ha | rfl | ha
    · exact absurd hn (by simpa using hbefore a ha)
    · rfl
    · have hlt := (List.pairwise_cons.mp (List.pairwise_append.mp h).2.1).1 a ha
      omega

/-- What STORE READ shows of a record: the held write's contents, or the live ones (R153). -/
theorem Store.shown_eq (st : Store) (id : RecordId) :
    st.shown id = if st.holds id then (st.buffer.map (·.contents)).getD [] else (st.live id).contents := by
  unfold shown holds
  cases st.buffer with
  | none => rfl
  | some b => by_cases h : b.target = id <;> simp [h]

/-- The session page of a gate, with the counted crates as one sum. -/
theorem Gate.sessionBytes_eq (x : Gate) :
    x.sessionBytes =
      [flagByte x.session.isSome] ++ be 2 ((x.session.map (·.account)).getD 0) ++ be 2 ((x.session.map (·.rejected)).getD 0) ++
        be 2 ((x.session.map fun w =>
          w.counted[0] + w.counted[1] + w.counted[2] + w.counted[3] + w.counted[4] + w.counted[5] + w.counted[6] +
            w.counted[7]).getD 0) ++ be 2 x.refused := by
  simp only [sessionBytes, sumOf_eq]
  rfl

/-- Settles O44. -/
theorem readsChangeOnlyWhatTheyClear : Obligations.ReadsChangeOnlyWhatTheyClear := by
  intro s ht
  refine ⟨fun lane i hi => ?_, fun selector number part lot hn hp hsel => ?_, fun r => ?_, fun number a hn hn' ha => ?_,
    fun number page partNo => ?_, fun number a hn htallied ha hlt hleast => ?_, ⟨?_, fun c page data hc hmem => ?_, ?_⟩, ?_,
    fun bay b hb => ?_, fun selector id hid => ?_⟩
  · intro l cal partNo data hmem
    have hread (p : Nat) (hp : p ≤ 3) := exec_judged (c := .laneRead lane p) rfl ht (laneRead_part hi hp)
    simp only [List.mem_cons, Prod.mk.injEq, List.not_mem_nil, or_false] at hmem
    rcases hmem with ⟨rfl, rfl⟩ | ⟨rfl, rfl⟩ | ⟨rfl, rfl⟩ | ⟨rfl, rfl⟩
    · exact hread 0 (by decide)
    · exact hread 1 (by decide)
    · exact hread 2 (by decide)
    · exact hread 3 (by decide)
  · intro snap sale
    have hselect : selector ≤ 1 ∧ s.selectLot (selector == 1) { number, part } = some lot := by
      rcases hsel with ⟨rfl, hlot⟩ | ⟨rfl, hlot⟩
      · exact ⟨by decide, hlot⟩
      · exact ⟨le_rfl, hlot⟩
    obtain ⟨hs, hlot⟩ := hselect
    have hread (page partNo parts : Nat) (hparts : lotPageParts page = some parts) (hpart : partNo < parts) :=
      exec_judged (c := .lotRead selector number part page partNo) rfl ht (lotRead_page hparts hpart hs hn hp hlot)
    refine ⟨fun page partNo data hmem => ?_, fun n => ?_⟩
    · simp only [List.mem_cons, Prod.mk.injEq, List.not_mem_nil, or_false] at hmem
      rcases hmem with ⟨rfl, rfl, rfl⟩ | ⟨rfl, rfl, rfl⟩ | ⟨rfl, rfl, rfl⟩ | ⟨rfl, rfl, rfl⟩ | ⟨rfl, rfl, rfl⟩ | ⟨rfl, rfl, rfl⟩ |
        ⟨rfl, rfl, rfl⟩ | ⟨rfl, rfl, rfl⟩ | ⟨rfl, rfl, rfl⟩
      · rw [← optCode_rostrumCode]
        exact hread 0 0 1 rfl (by decide)
      · exact hread 1 0 1 rfl (by decide)
      · exact hread 2 0 1 rfl (by decide)
      · exact hread 3 0 1 rfl (by decide)
      · exact hread 4 0 1 rfl (by decide)
      · exact hread 5 0 2 rfl (by decide)
      · exact hread 5 1 2 rfl (by decide)
      · exact hread 6 0 2 rfl (by decide)
      · exact hread 6 1 2 rfl (by decide)
    · have hn16 := n.isLt
      have hparts : lotPageParts (8 + n.val) = some 1 := by
        rw [lotPageParts, if_neg (by omega), if_neg (by omega), if_pos (by omega)]
      rw [← Lot.page_weighing]
      exact hread _ 0 1 hparts (by decide)
  · intro x rn desks
    have hr : rostrum? rn = some r := by cases r <;> rfl
    have hread (page partNo parts : Nat) (hparts : rostrumPageParts page = some parts) (hpart : partNo < parts) :=
      exec_judged (c := .rostrumRead rn page partNo) rfl ht (rostrumRead_page hr hparts hpart)
    refine ⟨fun page partNo data effect hmem => ?_, fun n => ?_, fun n => ?_⟩
    · simp only [List.mem_cons, Prod.mk.injEq, List.not_mem_nil, or_false] at hmem
      rcases hmem with ⟨rfl, rfl, rfl, rfl⟩ | ⟨rfl, rfl, rfl, rfl⟩ | ⟨rfl, rfl, rfl, rfl⟩ | ⟨rfl, rfl, rfl, rfl⟩ | ⟨rfl, rfl, rfl, rfl⟩
      · exact hread 0 0 2 rfl (by decide)
      · exact hread 0 1 2 rfl (by decide)
      · exact hread 1 0 2 rfl (by decide)
      · have hdone := hread 1 1 2 rfl (by decide)
        rw [show s.rostrumPage r 1 1 = _ from keyBytes_remainderKey x] at hdone
        exact hdone
      · exact hread 2 0 1 rfl (by decide)
    · have hn32 := n.isLt
      have hparts : rostrumPageParts (16 + n.val) = some 1 := by
        rw [rostrumPageParts, if_neg (by omega), if_neg (by omega), if_neg (by omega), if_pos (by omega)]
      have hdone := hread _ 0 1 hparts (by decide)
      rw [s.modRostrum_readEffect r (by omega) (by omega), s.rostrumPage_queue r hn32] at hdone
      exact hdone
    · have hn6 := n.isLt
      have hparts : rostrumPageParts (64 + n.val) = some 3 := by
        rw [rostrumPageParts, if_neg (by omega), if_neg (by omega), if_neg (by omega), if_neg (by omega), if_pos (by omega)]
      have hdone (partNo : Nat) (hpart : partNo < 3) := hread _ partNo 3 hparts hpart
      simp only [s.modRostrum_readEffect r (page := 64 + n.val) (by omega) (by omega), s.rostrumPage_desks] at hdone
      exact ⟨hdone 0 (by decide), hdone 1 (by decide), hdone 2 (by decide)⟩
  · intro crates page partNo data hmem
    have hread (page partNo parts : Nat) (hparts : accountPageParts page = some parts) (hpart : partNo < parts) :=
      exec_judged (c := .accountRead number page partNo) rfl ht (accountRead_page ⟨hn, hn'⟩ ha hparts hpart)
    obtain rfl := State.account?_number ha
    simp only [List.mem_cons, Prod.mk.injEq, List.not_mem_nil, or_false] at hmem
    rcases hmem with ⟨rfl, rfl, rfl⟩ | ⟨rfl, rfl, rfl⟩ | ⟨rfl, rfl, rfl⟩ | ⟨rfl, rfl, rfl⟩ | ⟨rfl, rfl, rfl⟩ | ⟨rfl, rfl, rfl⟩ |
      ⟨rfl, rfl, rfl⟩ | ⟨rfl, rfl, rfl⟩ | ⟨rfl, rfl, rfl⟩ | ⟨rfl, rfl, rfl⟩
    · exact hread 0 0 1 rfl (by decide)
    · exact hread 1 0 2 rfl (by decide)
    · exact hread 1 1 2 rfl (by decide)
    · exact hread 2 0 1 rfl (by decide)
    · exact hread 3 0 2 rfl (by decide)
    · exact hread 3 1 2 rfl (by decide)
    · exact hread 4 0 2 rfl (by decide)
    · exact hread 4 1 2 rfl (by decide)
    · exact hread 5 0 2 rfl (by decide)
    · exact hread 5 1 2 rfl (by decide)
  · intro pages
    refine ⟨fun hbad => ?_, fun hn hn' hpage hnone => ?_⟩
    · refine exec_judged rfl ht ?_
      have hjudge : accountPageRead number page partNo s = refuse s .range := by
        refine accountPageRead_range fun hn hn' => ?_
        rw [← mem_accountPages_iff]
        exact hbad.elim (fun h => absurd hn (Nat.not_le.mpr h)) fun h => h.elim (fun h => absurd hn' (Nat.not_le.mpr h)) id
      rw [accountRead, hjudge]
      simp [refuse]
    · obtain ⟨parts, hparts, hpart⟩ := (mem_accountPages_iff page partNo).mp hpage
      refine exec_judged rfl ht ?_
      have hjudge : accountPageRead number page partNo s = refuse s .noAccount := by
        simp only [accountPageRead, hparts, if_neg (Nat.not_le.mpr hpart), onAccount, (accountNumberOk_iff number).mpr ⟨hn, hn'⟩,
          hnone, Bool.not_true, Bool.false_eq_true, if_false]
      rw [accountRead, hjudge]
      simp [refuse]
  · refine exec_judged rfl ht ?_
    simp only [accountNext, if_neg (Nat.not_lt.mpr hn), htallied.ordered.find_next ha hlt hleast]
    rfl
  · exact exec_judged rfl ht rfl
  · have hread (p : Nat) (h0 : p ≠ 0) (h8 : p < 8) : exec (.hallTotals p) s = .next (s.replied s 0x47 .ok (c.page p)) := by
      refine exec_judged rfl ht ?_
      simp only [hallTotals, if_neg (show ¬ 8 < p by omega), if_neg (show ¬ p = 8 by omega), if_neg h0, hc]
      rfl
    simp only [List.mem_cons, Prod.mk.injEq, List.not_mem_nil, or_false] at hmem
    rcases hmem with ⟨rfl, rfl⟩ | ⟨rfl, rfl⟩ | ⟨rfl, rfl⟩ | ⟨rfl, rfl⟩ | ⟨rfl, rfl⟩ | ⟨rfl, rfl⟩ | ⟨rfl, rfl⟩
    · exact hread 1 (by decide) (by decide)
    · exact hread 2 (by decide) (by decide)
    · exact hread 3 (by decide) (by decide)
    · exact hread 4 (by decide) (by decide)
    · exact hread 5 (by decide) (by decide)
    · exact hread 6 (by decide) (by decide)
    · exact hread 7 (by decide) (by decide)
  · exact exec_judged rfl ht rfl
  · intro figures session counted close settled sum open_ last page data hmem
    have hread (p : Nat) (d : List Byte) (h : s.yardPage p = some d) := exec_judged (c := .yardRead p) rfl ht (yardRead_page h)
    simp only [List.mem_cons, Prod.mk.injEq, List.not_mem_nil, or_false] at hmem
    rcases hmem with ⟨rfl, rfl⟩ | ⟨rfl, rfl⟩ | ⟨rfl, rfl⟩ | ⟨rfl, rfl⟩ | ⟨rfl, rfl⟩ | ⟨rfl, rfl⟩ | ⟨rfl, rfl⟩ | ⟨rfl, rfl⟩ |
      ⟨rfl, rfl⟩ | ⟨rfl, rfl⟩ | ⟨rfl, rfl⟩ | ⟨rfl, rfl⟩ | ⟨rfl, rfl⟩ | ⟨rfl, rfl⟩ | ⟨rfl, rfl⟩ | ⟨rfl, rfl⟩ | ⟨rfl, rfl⟩ | ⟨rfl, rfl⟩
    · exact hread 0 _ rfl
    · exact hread 1 _ rfl
    · exact hread 2 _ rfl
    · exact hread 3 _ rfl
    · exact hread 4 _ (congrArg some (Gate.sessionBytes_eq _))
    · exact hread 5 _ (congrArg some (Gate.sessionBytes_eq _))
    · exact hread 6 _ (congrArg some (by simp [Gate.countedBytes, counted, session]))
    · exact hread 7 _ (congrArg some (by simp [Gate.countedBytes, counted, session]))
    · exact hread 8 _ (congrArg some (by simp [Gate.countedBytes, counted, session]))
    · exact hread 9 _ (congrArg some (by simp [Gate.countedBytes, counted, session]))
    · exact hread 10 _ rfl
    · exact hread 11 _ (congrArg some (by simp [Gate.settledBytes, settled, close]))
    · exact hread 12 _ (congrArg some (by simp [Gate.settledBytes, settled, close]))
    · exact hread 13 _ (congrArg some (by simp [Gate.settledBytes, settled, close]))
    · exact hread 14 _ rfl
    · exact hread 15 _ (congrArg some (by simp [Gate.settledBytes, settled, close]))
    · exact hread 16 _ (congrArg some (by simp [Gate.settledBytes, settled, close]))
    · exact hread 17 _ (congrArg some (by simp [Gate.settledBytes, settled, close]))
  · intro x order last page partNo data effect hmem
    have hread (page partNo parts : Nat) (hparts : bayPageParts page = some parts) (hpart : partNo < parts) :=
      exec_judged (c := .bayRead bay page partNo) rfl ht (bayRead_page hb hparts hpart)
    simp only [List.mem_cons, Prod.mk.injEq, List.not_mem_nil, or_false] at hmem
    rcases hmem with ⟨rfl, rfl, rfl, rfl⟩ | ⟨rfl, rfl, rfl, rfl⟩ | ⟨rfl, rfl, rfl, rfl⟩ | ⟨rfl, rfl, rfl, rfl⟩ |
      ⟨rfl, rfl, rfl, rfl⟩ | ⟨rfl, rfl, rfl, rfl⟩ | ⟨rfl, rfl, rfl, rfl⟩
    · exact hread 0 0 2 rfl (by decide)
    · exact hread 0 1 2 rfl (by decide)
    · exact hread 1 0 2 rfl (by decide)
    · exact hread 1 1 2 rfl (by decide)
    · exact hread 2 0 2 rfl (by decide)
    · exact hread 2 1 2 rfl (by decide)
    · exact hread 3 0 1 rfl (by decide)
  · intro held shown partNo data hmem
    have hread (p : Nat) (hp : p ≤ 1) := exec_judged (c := .storeRead selector p) rfl ht (storeRead_part hid hp)
    have hshown : shown = padTo 12 (s.store.shown id) := by rw [Store.shown_eq]; rfl
    simp only [List.mem_cons, Prod.mk.injEq, List.not_mem_nil, or_false] at hmem
    rcases hmem with ⟨rfl, rfl⟩ | ⟨rfl, rfl⟩
    · rw [hshown]
      exact hread 0 (by decide)
    · rw [hshown]
      exact hread 1 (by decide)

end Sys2Proof.Machine
end

section
/-! PROOF. Lots, queues, offers and pending weighings as one structure of links, and the operations on it (R16, R30, R41, R44, R49). -/

namespace Sys2Proof.Machine

/-! ## The links of a state -/

/-- What of a lot the queues, the clocks and the lanes have to agree with. -/
structure Phase where
  state : LotState
  rostrum : Option RostrumId
  pending : Option LotPending

def Lot.phase (l : Lot) : Phase := { state := l.state, rostrum := l.rostrum, pending := l.pending }

/-- What lots, queues, clocks and lanes say of each other. -/
structure Links where
  lot : Key → Option Phase
  queue : RostrumId → List Key
  offer : RostrumId → Option Key
  weighing : Fin 8 → Option (Key × Nat)

/-- Every queue entry, offer and weighing names a lot in the right state; the parts of a number are in order (R44). -/
structure Links.Tied (L : Links) : Prop where
  topmost : ∀ a p, L.lot a = some p → ∀ b q, L.lot b = some q → b.number = a.number → a.part < b.part → p.state = .sold
  founded : ∀ a p, L.lot a = some p → ∃ q, L.lot { number := a.number, part := 0 } = some q
  nodup : ∀ r, (L.queue r).Nodup
  queued : ∀ r, ∀ k ∈ L.queue r, ∃ p, L.lot k = some p ∧ p.state = .queued ∧ p.rostrum = some r
  onClock : ∀ r k, L.offer r = some k → ∃ p, L.lot k = some p ∧ p.state = .onClock ∧ p.rostrum = some r
  pending : ∀ i k c, L.weighing i = some (k, c) → ∃ p, L.lot k = some p ∧ p.pending = some { lane := unitNumber i, crates := c }
  opened : ∀ k p x, L.lot k = some p → p.pending = some x → p.state = .opened

/-- Every queued lot is in its queue; while the main supply is present, every lot on a clock is on offer and every pending part is
weighed. -/
structure Links.Whole (L : Links) (present : Bool) : Prop where
  inQueue : ∀ k p, L.lot k = some p → p.state = .queued → ∃ r, p.rostrum = some r ∧ k ∈ L.queue r
  offered : ∀ k p, L.lot k = some p → p.state = .onClock → ∃ r, p.rostrum = some r ∧ (present = true → L.offer r = some k)
  one : ∀ a p b q, L.lot a = some p → L.lot b = some q → p.state = .onClock → q.state = .onClock → p.rostrum = q.rostrum → a = b
  weighed : present = true → ∀ k p x, L.lot k = some p → p.pending = some x →
    ∃ i, x.lane = unitNumber i ∧ L.weighing i = some (k, x.crates)

theorem unitNumber_inj {n : Nat} {i j : Fin n} (h : unitNumber i = unitNumber j) : i = j := Fin.ext (Nat.succ.inj h)

namespace Links

/-! ## Changes of the links, each as its new lots, queues, offers and weighings -/

/-- A lot takes a state that is in no queue and on no clock. -/
structure Restated (L L' : Links) (k : Key) (p : Phase) (st : LotState) : Prop where
  lot : ∀ m, L'.lot m = if m = k then some { p with state := st } else L.lot m
  queue : ∀ r, L'.queue r = L.queue r
  offer : ∀ r, L'.offer r = if L.offer r = some k then none else L.offer r
  weighing : ∀ i, L'.weighing i = L.weighing i

/-- A lot enters the table. -/
structure Created (L L' : Links) (k : Key) (p : Phase) : Prop where
  lot : ∀ m, L'.lot m = if m = k then some p else L.lot m
  queue : ∀ r, L'.queue r = L.queue r
  offer : ∀ r, L'.offer r = L.offer r
  weighing : ∀ i, L'.weighing i = L.weighing i

/-- A lot leaves the table. -/
structure Removed (L L' : Links) (k : Key) : Prop where
  lot : ∀ m, L'.lot m = if m = k then none else L.lot m
  queue : ∀ r, L'.queue r = L.queue r
  offer : ∀ r, L'.offer r = L.offer r
  weighing : ∀ i, L'.weighing i = L.weighing i

/-- A lot leaves its queue. -/
structure Unqueued (L L' : Links) (k : Key) (p : Phase) : Prop where
  lot : ∀ m, L'.lot m = if m = k then some { p with state := .ready, rostrum := none } else L.lot m
  queue : ∀ r, L'.queue r = (L.queue r).filter (· != k)
  offer : ∀ r, L'.offer r = L.offer r
  weighing : ∀ i, L'.weighing i = L.weighing i

/-- A lot enters the queue of a rostrum, at either end. -/
structure Enqueued (L L' : Links) (r : RostrumId) (k : Key) (p : Phase) : Prop where
  lot : ∀ m, L'.lot m = if m = k then some { p with state := .queued, rostrum := some r } else L.lot m
  queue : (L'.queue r).Perm (k :: L.queue r)
  others : ∀ q, q ≠ r → L'.queue q = L.queue q
  offer : ∀ r, L'.offer r = L.offer r
  weighing : ∀ i, L'.weighing i = L.weighing i

/-- The head of a queue goes on the clock. -/
structure Offered (L L' : Links) (r : RostrumId) (k : Key) (p : Phase) : Prop where
  lot : ∀ m, L'.lot m = if m = k then some { p with state := .onClock } else L.lot m
  queue : L.queue r = k :: L'.queue r
  others : ∀ q, q ≠ r → L'.queue q = L.queue q
  offer : ∀ q, L'.offer q = if q = r then some k else L.offer q
  weighing : ∀ i, L'.weighing i = L.weighing i

/-- A weighing begins. -/
structure HandedIn (L L' : Links) (i : Fin 8) (k : Key) (p : Phase) (c : Nat) : Prop where
  lot : ∀ m, L'.lot m = if m = k then some { p with pending := some { lane := unitNumber i, crates := c } } else L.lot m
  queue : ∀ r, L'.queue r = L.queue r
  offer : ∀ r, L'.offer r = L.offer r
  weighing : ∀ j, L'.weighing j = if j = i then some (k, c) else L.weighing j

/-- A weighing ends. -/
structure Ended (L L' : Links) (i : Fin 8) (k : Key) (p : Phase) : Prop where
  lot : ∀ m, L'.lot m = if m = k then some { p with pending := none } else L.lot m
  queue : ∀ r, L'.queue r = L.queue r
  offer : ∀ r, L'.offer r = L.offer r
  weighing : ∀ j, L'.weighing j = if j = i then none else L.weighing j

/-! ## What the changes keep -/

variable {L L' : Links}

/-- Two weighings of one lot are at one lane. -/
theorem Tied.lane_inj (h : L.Tied) {i j : Fin 8} {k : Key} {c d : Nat} (hi : L.weighing i = some (k, c))
    (hj : L.weighing j = some (k, d)) : i = j := by
  obtain ⟨p, hp, hpi⟩ := h.pending i k c hi
  obtain ⟨q, hq, hqj⟩ := h.pending j k d hj
  obtain rfl := Option.some.inj (hp.symm.trans hq)
  have hsame := Option.some.inj (hpi.symm.trans hqj)
  exact unitNumber_inj (LotPending.mk.inj hsame).1

theorem Tied.restated (h : L.Tied) {k : Key} {p : Phase} {st : LotState} (hc : L.Restated L' k p st) (hp : L.lot k = some p)
    (hq : p.state ≠ .queued) (hsold : p.state = .sold → st = .sold) (hopen : p.pending ≠ none → st = .opened) : L'.Tied := by
  obtain ⟨topmost, founded, nodup, queued, onClock, pending, opened⟩ := h
  obtain ⟨lot, queue, offer, weighing⟩ := hc
  constructor
  case nodup => exact fun r => queue r ▸ nodup r
  all_goals grind

theorem Tied.ended (h : L.Tied) {i : Fin 8} {k : Key} {p : Phase} {c : Nat} (hc : L.Ended L' i k p) (hp : L.lot k = some p)
    (hw : L.weighing i = some (k, c)) : L'.Tied := by
  have hlane : ∀ j d, L.weighing j = some (k, d) → j = i := fun j d hj => h.lane_inj hj hw
  obtain ⟨topmost, founded, nodup, queued, onClock, pending, opened⟩ := h
  obtain ⟨lot, queue, offer, weighing⟩ := hc
  constructor
  case nodup => exact fun r => queue r ▸ nodup r
  all_goals grind

theorem Tied.handedIn (h : L.Tied) {i : Fin 8} {k : Key} {p : Phase} {c : Nat} (hc : L.HandedIn L' i k p c) (hp : L.lot k = some p)
    (hs : p.state = .opened) (hnone : p.pending = none) : L'.Tied := by
  obtain ⟨topmost, founded, nodup, queued, onClock, pending, opened⟩ := h
  obtain ⟨lot, queue, offer, weighing⟩ := hc
  constructor
  case nodup => exact fun r => queue r ▸ nodup r
  all_goals grind

/-- A new lot: part 0 of a number that no lot has, or the next part of a number whose parts are all sold. -/
theorem Tied.created (h : L.Tied) {k : Key} {p : Phase} (hc : L.Created L' k p) (hnew : L.lot k = none) (hp : p.pending = none)
    (hroot : k.part = 0 ∨ ∃ q, L.lot { number := k.number, part := 0 } = some q)
    (hhigh : ∀ a q, L.lot a = some q → a.number = k.number → a.part < k.part)
    (hsold : ∀ a q, L.lot a = some q → a.number = k.number → q.state = .sold) : L'.Tied := by
  have hkey : k.part = 0 → { number := k.number, part := 0 } = k := fun h0 => by rw [← h0]
  obtain ⟨topmost, founded, nodup, queued, onClock, pending, opened⟩ := h
  obtain ⟨lot, queue, offer, weighing⟩ := hc
  constructor
  case nodup => exact fun r => queue r ▸ nodup r
  all_goals grind

/-- A lot leaves that is in no queue, on no clock and on no lane, and is not the part 0 of other lots. -/
theorem Tied.removed (h : L.Tied) {k : Key} {p : Phase} (hc : L.Removed L' k) (hp : L.lot k = some p) (hq : p.state ≠ .queued)
    (hclock : p.state ≠ .onClock) (hnone : p.pending = none)
    (hroot : k.part = 0 → ∀ a q, L.lot a = some q → a.number = k.number → a = k) : L'.Tied := by
  obtain ⟨topmost, founded, nodup, queued, onClock, pending, opened⟩ := h
  obtain ⟨lot, queue, offer, weighing⟩ := hc
  constructor
  case nodup => exact fun r => queue r ▸ nodup r
  all_goals grind

theorem Tied.unqueued (h : L.Tied) {k : Key} {p : Phase} (hc : L.Unqueued L' k p) (hp : L.lot k = some p) (hq : p.state = .queued) :
    L'.Tied := by
  obtain ⟨topmost, founded, nodup, queued, onClock, pending, opened⟩ := h
  obtain ⟨lot, queue, offer, weighing⟩ := hc
  constructor
  case nodup => exact fun r => queue r ▸ (nodup r).filter _
  all_goals grind

theorem Tied.enqueued (h : L.Tied) {r : RostrumId} {k : Key} {p : Phase} (hc : L.Enqueued L' r k p) (hp : L.lot k = some p)
    (hs : p.state = .ready ∨ p.state = .unsold) : L'.Tied := by
  obtain ⟨topmost, founded, nodup, queued, onClock, pending, opened⟩ := h
  obtain ⟨lot, queue, others, offer, weighing⟩ := hc
  have hout : k ∉ L.queue r := fun hk => by grind
  have hnodup : (L'.queue r).Nodup := queue.nodup_iff.mpr (List.nodup_cons.mpr ⟨hout, nodup r⟩)
  have hmem : ∀ q m, m ∈ L'.queue q ↔ q = r ∧ m = k ∨ m ∈ L.queue q := fun q m => by
    by_cases hq : q = r
    · subst hq
      rw [queue.mem_iff, List.mem_cons]
      simp
    · simp [others q hq, hq]
  constructor
  case nodup =>
    intro q
    by_cases hq : q = r
    · exact hq ▸ hnodup
    · exact others q hq ▸ nodup q
  all_goals grind

/-- The head of a queue goes on the clock. -/
theorem Tied.onto (h : L.Tied) {r : RostrumId} {k : Key} {p : Phase} (hc : L.Offered L' r k p) (hp : L.lot k = some p) : L'.Tied := by
  obtain ⟨topmost, founded, nodup, queued, onClock, pending, opened⟩ := h
  obtain ⟨lot, queue, others, offer, weighing⟩ := hc
  obtain ⟨hout, hnodup⟩ : k ∉ L'.queue r ∧ (L'.queue r).Nodup := List.nodup_cons.mp (queue ▸ nodup r)
  have hmem : ∀ q m, m ∈ L'.queue q → m ∈ L.queue q ∧ m ≠ k := fun q m hm => by
    by_cases hq : q = r
    · subst hq
      exact ⟨queue ▸ List.mem_cons_of_mem k hm, fun heq => hout (heq ▸ hm)⟩
    · have hk := queued r k (queue ▸ List.mem_cons_self)
      rw [others q hq] at hm
      exact ⟨hm, by grind⟩
  constructor
  case nodup =>
    intro q
    by_cases hq : q = r
    · exact hq ▸ hnodup
    · exact others q hq ▸ nodup q
  all_goals grind

variable {present : Bool}

theorem Whole.restated (h : L.Whole present) {k : Key} {p : Phase} {st : LotState} (hc : L.Restated L' k p st) (hp : L.lot k = some p)
    (hqueued : st ≠ .queued) (hclock : st ≠ .onClock) : L'.Whole present := by
  obtain ⟨inQueue, offered, one, weighed⟩ := h
  obtain ⟨lot, queue, offer, weighing⟩ := hc
  constructor <;> grind

theorem Whole.ended (h : L.Whole present) {i : Fin 8} {k : Key} {p : Phase} {c : Nat} (hc : L.Ended L' i k p) (hp : L.lot k = some p)
    (hw : L.weighing i = some (k, c)) : L'.Whole present := by
  obtain ⟨inQueue, offered, one, weighed⟩ := h
  obtain ⟨lot, queue, offer, weighing⟩ := hc
  constructor <;> grind

theorem Whole.handedIn (h : L.Whole present) {i : Fin 8} {k : Key} {p : Phase} {c : Nat} (hc : L.HandedIn L' i k p c)
    (hp : L.lot k = some p) (hidle : L.weighing i = none) : L'.Whole present := by
  obtain ⟨inQueue, offered, one, weighed⟩ := h
  obtain ⟨lot, queue, offer, weighing⟩ := hc
  constructor <;> grind

theorem Whole.created (h : L.Whole present) {k : Key} {p : Phase} (hc : L.Created L' k p) (hp : p.pending = none)
    (hqueued : p.state ≠ .queued) (hclock : p.state ≠ .onClock) : L'.Whole present := by
  obtain ⟨inQueue, offered, one, weighed⟩ := h
  obtain ⟨lot, queue, offer, weighing⟩ := hc
  constructor <;> grind

theorem Whole.removed (h : L.Whole present) {k : Key} (hc : L.Removed L' k) : L'.Whole present := by
  obtain ⟨inQueue, offered, one, weighed⟩ := h
  obtain ⟨lot, queue, offer, weighing⟩ := hc
  constructor <;> grind

theorem Whole.unqueued (h : L.Whole present) {k : Key} {p : Phase} (hc : L.Unqueued L' k p) (hp : L.lot k = some p) : L'.Whole present := by
  obtain ⟨inQueue, offered, one, weighed⟩ := h
  obtain ⟨lot, queue, offer, weighing⟩ := hc
  have hmem : ∀ q m, m ∈ L.queue q → m ≠ k → m ∈ L'.queue q := fun q m hm hne => by
    rw [queue, List.mem_filter]
    exact ⟨hm, bne_iff_ne.mpr hne⟩
  clear queue
  constructor <;> grind

theorem Whole.enqueued (h : L.Whole present) {r : RostrumId} {k : Key} {p : Phase} (hc : L.Enqueued L' r k p) (hp : L.lot k = some p) :
    L'.Whole present := by
  obtain ⟨inQueue, offered, one, weighed⟩ := h
  obtain ⟨lot, queue, others, offer, weighing⟩ := hc
  have hmem : ∀ q m, m ∈ L'.queue q ↔ q = r ∧ m = k ∨ m ∈ L.queue q := fun q m => by
    by_cases hq : q = r
    · subst hq
      rw [queue.mem_iff, List.mem_cons]
      simp
    · simp [others q hq, hq]
  constructor <;> grind

/-- An offer starts where nothing is on the clock. -/
theorem Whole.onto (h : L.Whole true) (htied : L.Tied) {r : RostrumId} {k : Key} {p : Phase} (hc : L.Offered L' r k p)
    (hp : L.lot k = some p) (hidle : L.offer r = none) : L'.Whole true := by
  obtain ⟨inQueue, offered, one, weighed⟩ := h
  obtain ⟨lot, queue, others, offer, weighing⟩ := hc
  have hr : p.rostrum = some r := by
    obtain ⟨q, hq, -, hr⟩ := htied.queued r k (queue ▸ List.mem_cons_self)
    exact Option.some.inj (hp.symm.trans hq) ▸ hr
  have hmem : ∀ q m, m ∈ L.queue q → m ≠ k → m ∈ L'.queue q := fun q m hm hne => by
    by_cases hq : q = r
    · subst hq
      rw [queue, List.mem_cons] at hm
      exact hm.resolve_left hne
    · exact others q hq ▸ hm
  clear queue
  constructor <;> grind

end Links

end Sys2Proof.Machine
end

section
/-! PROOF. The links of a state: the invariant of R49 in them, and the records that each operation reads and leaves. -/

namespace Sys2Proof.Machine

/-! ## Lots by key (R45) -/

theorem Key.before_trans {a b c : Key} (h : a.before b = true) (h' : b.before c = true) : a.before c = true := by
  simp only [before, decide_eq_true_eq] at *
  omega

theorem Key.before_or_eq {a b : Key} (h : a.before b = false) : a = b ∨ b.before a = true := by
  obtain ⟨n, p⟩ := a
  obtain ⟨n', p'⟩ := b
  simp only [before, decide_eq_false_iff_not, decide_eq_true_eq, Key.mk.injEq] at *
  omega

namespace LotTable.Ordered

variable {T : LotTable}

/-- A change that keeps the keys keeps the order. -/
theorem map (h : T.Ordered) {f : Lot → Lot} (hf : ∀ l, (f l).key = l.key) : ({ T with lots := T.lots.map f } : LotTable).Ordered :=
  List.pairwise_map.mpr (List.Pairwise.imp (fun {a b} hab => by rwa [hf, hf]) h)

theorem filter (h : T.Ordered) (p : Lot → Bool) : ({ T with lots := T.lots.filter p } : LotTable).Ordered := List.Pairwise.filter p h

end LotTable.Ordered

theorem mem_insertLot {new l : Lot} {ls : List Lot} : l ∈ insertLot new ls ↔ l = new ∨ l ∈ ls := by
  induction ls with
  | nil => simp [insertLot]
  | cons x xs ih =>
    unfold insertLot
    split
    · rw [List.mem_cons]
    · rw [List.mem_cons, ih, List.mem_cons]
      tauto

/-- A lot put in its place keeps the order. -/
theorem pairwise_insertLot {new : Lot} {ls : List Lot} (h : ls.Pairwise fun a b => a.key.before b.key = true)
    (hnew : ∀ l ∈ ls, l.key ≠ new.key) : (insertLot new ls).Pairwise fun a b => a.key.before b.key = true := by
  induction ls with
  | nil => simp [insertLot]
  | cons x xs ih =>
    obtain ⟨hx, hxs⟩ := List.pairwise_cons.mp h
    unfold insertLot
    split
    · next hbefore =>
      refine List.pairwise_cons.mpr ⟨fun l hl => ?_, h⟩
      rcases List.mem_cons.mp hl with rfl | hl
      · exact hbefore
      · exact Key.before_trans hbefore (hx l hl)
    · next hbefore =>
      refine List.pairwise_cons.mpr ⟨fun l hl => ?_, ih hxs fun l hl => hnew l (List.mem_cons_of_mem _ hl)⟩
      rcases mem_insertLot.mp hl with rfl | hl
      · exact (Key.before_or_eq (Bool.eq_false_iff.mpr hbefore)).resolve_left (hnew x List.mem_cons_self).symm
      · exact hx l hl

namespace State

variable {s t : State}

theorem lot?_mem {k : Key} {l : Lot} (h : s.lot? k = some l) : l ∈ s.lotTable.lots := List.mem_of_find?_eq_some h

theorem lot?_eq_some_iff (h : s.lotTable.Ordered) {k : Key} {l : Lot} : s.lot? k = some l ↔ l ∈ s.lotTable.lots ∧ l.key = k := by
  refine ⟨fun hl => ⟨lot?_mem hl, lot?_key hl⟩, fun ⟨hmem, hkey⟩ => ?_⟩
  cases hf : s.lot? k with
  | none => exact absurd hkey (by simpa using List.find?_eq_none.mp hf l hmem)
  | some l' => rw [h.eq_of_key (lot?_mem hf) hmem ((lot?_key hf).trans hkey.symm)]

theorem lot?_of_mem (h : s.lotTable.Ordered) {l : Lot} (hl : l ∈ s.lotTable.lots) : s.lot? l.key = some l :=
  (lot?_eq_some_iff h).mpr ⟨hl, rfl⟩

theorem lot?_eq_none_iff {k : Key} : s.lot? k = none ↔ ∀ l ∈ s.lotTable.lots, l.key ≠ k := by simp [lot?, List.find?_eq_none]

theorem modLot_of_none {k : Key} (h : s.lot? k = none) (f : Lot → Lot) : s.modLot k f = s := by
  have hsame : s.lotTable.lots.map (fun l => if l.key = k then f l else l) = s.lotTable.lots :=
    (List.map_congr_left fun l hl => if_neg (lot?_eq_none_iff.mp h l hl)).trans (List.map_id _)
  rw [modLot, hsame]

/-- A lot table of the same lots under other keys: each lot changed on its own. -/
theorem lot?_of_map {f : Lot → Lot} (hf : ∀ l, (f l).key = l.key) (h : t.lotTable.lots = s.lotTable.lots.map f) (k : Key) :
    t.lot? k = (s.lot? k).map f := by
  rw [lot?, h, List.find?_map, lot?]
  refine congrArg (fun p => (s.lotTable.lots.find? p).map f) (funext fun l => ?_)
  rw [Function.comp_apply, hf]

theorem lot?_addLot {new : Lot} (hnew : s.lot? new.key = none) (k : Key) :
    (s.addLot new).lot? k = if k = new.key then some new else s.lot? k := by
  have hfind : ∀ ls : List Lot, (∀ l ∈ ls, l.key ≠ new.key) →
      (insertLot new ls).find? (·.key == k) = if k = new.key then some new else ls.find? (·.key == k) := by
    intro ls hls
    induction ls with
    | nil =>
      by_cases hk : k = new.key
      · simp [insertLot, hk]
      · simp [insertLot, hk, Ne.symm hk]
    | cons x xs ih =>
      have hx := hls x List.mem_cons_self
      have hih := ih fun l hl => hls l (List.mem_cons_of_mem _ hl)
      unfold insertLot
      by_cases hk : k = new.key
      · subst hk
        split
        · simp
        · simp [hih, hx]
      · split
        · simp [Ne.symm hk]
        · by_cases hxk : x.key = k <;> simp [hih, hk, hxk]
  exact hfind _ (lot?_eq_none_iff.mp hnew)

theorem lot?_removeLot (s : State) (k m : Key) : (s.removeLot k).lot? m = if m = k then none else s.lot? m := by
  unfold removeLot lot?
  rw [List.find?_filter]
  split
  · next h => rw [h]; simp
  · next h =>
    refine congrArg (fun p => List.find? p s.lotTable.lots) (funext fun l => ?_)
    by_cases hl : l.key = m <;> simp [hl, h]

/-! ## Links -/

/-- The links of a state. -/
def links (s : State) : Links where
  lot k := (s.lot? k).map Lot.phase
  queue r := (s.rostrum r).queue
  offer := s.offeredKey
  weighing i := (s.lane i).weighing.map fun p => (p.key, p.crates)

theorem links_lot {k : Key} {l : Lot} (h : s.lot? k = some l) : s.links.lot k = some l.phase := congrArg (Option.map Lot.phase) h

theorem links_lot_eq_some_iff {k : Key} {p : Phase} : s.links.lot k = some p ↔ ∃ l, s.lot? k = some l ∧ l.phase = p :=
  Option.map_eq_some_iff

theorem links_weighing_eq_some_iff {i : Fin 8} {k : Key} {c : Nat} :
    s.links.weighing i = some (k, c) ↔ ∃ p, (s.lane i).weighing = some p ∧ p.key = k ∧ p.crates = c := by
  simp [links, Option.map_eq_some_iff]

theorem links_offer_eq_some_iff {r : RostrumId} {k : Key} : s.links.offer r = some k ↔ ∃ o, (s.rostrum r).offer = some o ∧ o.key = k :=
  Option.map_eq_some_iff

/-- Outside trading nothing is in flight at lanes and clocks. -/
def Still (s : State) : Prop := s.trading = false → (∀ r, (s.rostrum r).offer = none) ∧ ∀ i, (s.lane i).weighing = none

/-- A lot that is named by its key, as a phase of the links. -/
theorem exists_lot (h : s.lotTable.Ordered) {k : Key} {P : Phase → Prop} :
    (∃ l ∈ s.lotTable.lots, l.key = k ∧ P l.phase) ↔ ∃ p, s.links.lot k = some p ∧ P p := by
  constructor
  · rintro ⟨l, hl, rfl, hp⟩
    exact ⟨l.phase, links_lot (lot?_of_mem h hl), hp⟩
  · rintro ⟨p, hp, hP⟩
    obtain ⟨l, hl, rfl⟩ := links_lot_eq_some_iff.mp hp
    exact ⟨l, lot?_mem hl, lot?_key hl, hP⟩

/-- Every lot, as a phase of the links. -/
theorem forall_lot (h : s.lotTable.Ordered) {P : Key → Phase → Prop} :
    (∀ l ∈ s.lotTable.lots, P l.key l.phase) ↔ ∀ k p, s.links.lot k = some p → P k p := by
  constructor
  · intro hall k p hp
    obtain ⟨l, hl, rfl⟩ := links_lot_eq_some_iff.mp hp
    exact lot?_key hl ▸ hall l (lot?_mem hl)
  · exact fun hall l hl => hall l.key l.phase (links_lot (lot?_of_mem h hl))

theorem Linked.tied (h : s.Linked) : s.links.Tied where
  topmost a p ha b q hb hn hlt := by
    obtain ⟨l, hl, rfl⟩ := links_lot_eq_some_iff.mp ha
    obtain ⟨m, hm, rfl⟩ := links_lot_eq_some_iff.mp hb
    obtain rfl := lot?_key hl
    obtain rfl := lot?_key hm
    exact h.keyed.2.1 l (lot?_mem hl) m (lot?_mem hm) hn.symm hlt
  founded := (forall_lot h.ordered (P := fun k _ => ∃ q, s.links.lot { number := k.number, part := 0 } = some q)).mp fun l hl => by
    obtain ⟨b, hb, hkey⟩ := h.keyed.2.2 l hl
    exact ⟨b.phase, hkey ▸ links_lot (lot?_of_mem h.ordered hb)⟩
  nodup := h.nodup
  queued r k hk := (exists_lot h.ordered).mp (h.queued r k hk)
  onClock r k hk := by
    obtain ⟨o, ho, rfl⟩ := links_offer_eq_some_iff.mp hk
    exact (exists_lot h.ordered (P := fun p => p.state = .onClock ∧ p.rostrum = some r)).mp (h.onClock r o ho)
  pending i k c hk := by
    obtain ⟨p, hp, rfl, rfl⟩ := links_weighing_eq_some_iff.mp hk
    exact (exists_lot h.ordered (P := fun q => q.pending = some { lane := unitNumber i, crates := p.crates })).mp (h.pending i p hp)
  opened k p x hp hx := (forall_lot h.ordered (P := fun _ p => p.pending = some x → p.state = .opened)).mp
    (fun l hl hx => (h.weighing l hl x hx).1) k p hp hx

theorem Linked.whole (h : s.Linked) : s.links.Whole (!s.supply.absent) where
  inQueue := (forall_lot h.ordered (P := fun k p => p.state = .queued → ∃ r, p.rostrum = some r ∧ k ∈ s.links.queue r)).mp
    fun l hl hs => h.inQueue l hl hs
  offered := (forall_lot h.ordered
      (P := fun k p => p.state = .onClock → ∃ r, p.rostrum = some r ∧ ((!s.supply.absent) = true → s.links.offer r = some k))).mp
    fun l hl hs => by
      obtain ⟨r, hr, hoffer⟩ := h.offered l hl hs
      exact ⟨r, hr, fun hp => links_offer_eq_some_iff.mpr (hoffer (Bool.not_eq_true' _ ▸ hp))⟩
  one a p b q ha hb hs hs' hr := by
    obtain ⟨l, hl, rfl⟩ := links_lot_eq_some_iff.mp ha
    obtain ⟨m, hm, rfl⟩ := links_lot_eq_some_iff.mp hb
    rw [← lot?_key hl, ← lot?_key hm]
    exact h.oneOnClock l (lot?_mem hl) m (lot?_mem hm) hs hs' hr
  weighed hp k p x hk hx := by
    obtain ⟨l, hl, rfl⟩ := links_lot_eq_some_iff.mp hk
    obtain ⟨i, hi, w, hw, hkey, hcrates⟩ := (h.weighing l (lot?_mem hl) x hx).2 (by simpa using hp)
    exact ⟨i, hi, links_weighing_eq_some_iff.mpr ⟨w, hw, hkey.trans (lot?_key hl), hcrates⟩⟩

theorem linked_of_links (ho : s.lotTable.Ordered) (ht : s.links.Tied) (hw : s.links.Whole (!s.supply.absent)) (hs : s.Still) :
    s.Linked where
  keyed := by
    refine ⟨ho, fun a ha b hb hn hlt => ?_, fun a ha => ?_⟩
    · exact ht.topmost a.key a.phase (links_lot (lot?_of_mem ho ha)) b.key b.phase (links_lot (lot?_of_mem ho hb)) hn.symm hlt
    · obtain ⟨q, hq⟩ := ht.founded a.key a.phase (links_lot (lot?_of_mem ho ha))
      obtain ⟨l, hl, -⟩ := links_lot_eq_some_iff.mp hq
      exact ⟨l, lot?_mem hl, lot?_key hl⟩
  nodup := ht.nodup
  queued r k hk := (exists_lot ho (P := fun p => p.state = .queued ∧ p.rostrum = some r)).mpr (ht.queued r k hk)
  inQueue := (forall_lot ho (P := fun k p => p.state = .queued → ∃ r, p.rostrum = some r ∧ k ∈ s.links.queue r)).mpr hw.inQueue
  onClock r o hoffer := (exists_lot ho (P := fun p => p.state = .onClock ∧ p.rostrum = some r)).mpr
    (ht.onClock r o.key (links_offer_eq_some_iff.mpr ⟨o, hoffer, rfl⟩))
  offered l hl hs := by
    obtain ⟨r, hr, hoffer⟩ := hw.offered l.key l.phase (links_lot (lot?_of_mem ho hl)) hs
    exact ⟨r, hr, fun hp => links_offer_eq_some_iff.mp (hoffer (by rw [hp]; rfl))⟩
  oneOnClock a ha b hb hs hs' hr :=
    hw.one a.key a.phase b.key b.phase (links_lot (lot?_of_mem ho ha)) (links_lot (lot?_of_mem ho hb)) hs hs' hr
  pending i p hp := (exists_lot ho (P := fun q => q.pending = some { lane := unitNumber i, crates := p.crates })).mpr
    (ht.pending i p.key p.crates (links_weighing_eq_some_iff.mpr ⟨p, hp, rfl, rfl⟩))
  weighing l hl x hx := by
    have hlot := links_lot (lot?_of_mem ho hl)
    refine ⟨ht.opened l.key l.phase x hlot hx, fun hp => ?_⟩
    obtain ⟨i, hi, hweigh⟩ := hw.weighed (by rw [hp]; rfl) l.key l.phase x hlot hx
    obtain ⟨w, hw, hkey, hcrates⟩ := links_weighing_eq_some_iff.mp hweigh
    exact ⟨i, hi, w, hw, hkey, hcrates⟩
  still := hs

end State

end Sys2Proof.Machine
end

section
/-! PROOF. The steps of which the changes of the links are made, and what they keep. -/

namespace Sys2Proof.Machine

/-- The phase of a lot that a full queue loses. -/
def Phase.displaced (p : Phase) : Phase := { p with state := .ready, rostrum := none }

namespace Links

/-- One step of the links. `sound` says that the rostra are sound, so that an offer starts on an idle clock and none is dropped. -/
inductive Step (sound trading : Bool) (L L' : Links) : Prop
  | restated (k : Key) (p : Phase) (st : LotState) (hc : L.Restated L' k p st) (hp : L.lot k = some p) (hstate : p.state ≠ .queued)
      (hsold : p.state = .sold → st = .sold) (hopen : p.pending ≠ none → st = .opened) (hqueued : st ≠ .queued)
      (hclock : st ≠ .onClock)
  | created (k : Key) (p : Phase) (hc : L.Created L' k p) (hnew : L.lot k = none) (hp : p.pending = none)
      (hroot : k.part = 0 ∨ ∃ q, L.lot { number := k.number, part := 0 } = some q)
      (hhigh : ∀ a q, L.lot a = some q → a.number = k.number → a.part < k.part)
      (hsold : ∀ a q, L.lot a = some q → a.number = k.number → q.state = .sold) (hqueued : p.state ≠ .queued)
      (hclock : p.state ≠ .onClock)
  | removed (k : Key) (p : Phase) (hc : L.Removed L' k) (hp : L.lot k = some p) (hqueued : p.state ≠ .queued)
      (hclock : p.state ≠ .onClock) (hnone : p.pending = none)
      (hroot : k.part = 0 → ∀ a q, L.lot a = some q → a.number = k.number → a = k)
  | unqueued (k : Key) (p : Phase) (hc : L.Unqueued L' k p) (hp : L.lot k = some p) (hqueued : p.state = .queued)
  | enqueued (r : RostrumId) (k : Key) (p : Phase) (hc : L.Enqueued L' r k p) (hp : L.lot k = some p)
      (hstate : p.state = .ready ∨ p.state = .unsold)
  | offered (r : RostrumId) (k : Key) (p : Phase) (hc : L.Offered L' r k p) (hp : L.lot k = some p) (ht : trading = true)
      (hidle : sound = true → L.offer r = none)
  | handedIn (i : Fin 8) (k : Key) (p : Phase) (c : Nat) (hc : L.HandedIn L' i k p c) (hp : L.lot k = some p)
      (hstate : p.state = .opened) (hnone : p.pending = none) (hidle : L.weighing i = none) (ht : trading = true)
  | ended (i : Fin 8) (k : Key) (p : Phase) (c : Nat) (hc : L.Ended L' i k p) (hp : L.lot k = some p)
      (hw : L.weighing i = some (k, c))
  | lost (lot : ∀ m, L'.lot m = L.lot m) (queue : ∀ r, L'.queue r = L.queue r)
      (offer : ∀ r, L'.offer r = L.offer r ∨ sound = false ∧ L'.offer r = none)
      (weighing : ∀ i, L'.weighing i = L.weighing i ∨ sound = false ∧ L'.weighing i = none)

/-- A run of steps of the links. -/
def Steps (sound trading : Bool) : Links → Links → Prop := Relation.ReflTransGen (Step sound trading)

/-- Nothing is on a clock or on a lane. -/
def Idle (L : Links) : Prop := (∀ r, L.offer r = none) ∧ ∀ i, L.weighing i = none

variable {L L' M : Links} {sound trading : Bool}

theorem Tied.step (h : L.Tied) (hs : L.Step sound trading L') : L'.Tied := by
  cases hs with
  | restated k p st hc hp hstate hsold hopen => exact h.restated hc hp hstate hsold hopen
  | created k p hc hnew hp hroot hhigh hsold => exact h.created hc hnew hp hroot hhigh hsold
  | removed k p hc hp hqueued hclock hnone hroot => exact h.removed hc hp hqueued hclock hnone hroot
  | unqueued k p hc hp hqueued => exact h.unqueued hc hp hqueued
  | enqueued r k p hc hp hstate => exact h.enqueued hc hp hstate
  | offered r k p hc hp => exact h.onto hc hp
  | handedIn i k p c hc hp hstate hnone => exact h.handedIn hc hp hstate hnone
  | ended i k p c hc hp hw => exact h.ended hc hp hw
  | lost lot queue offer weighing =>
    obtain ⟨topmost, founded, nodup, queued, onClock, pending, opened⟩ := h
    constructor
    case nodup => exact fun r => queue r ▸ nodup r
    all_goals grind

/-- With sound rostra, a step keeps the other half of the links, present or absent; an offer needs the main supply. -/
theorem Whole.step {present : Bool} (hp : trading = true → present = true) (htied : L.Tied) (h : L.Whole present)
    (hs : L.Step true trading L') : L'.Whole present := by
  cases hs with
  | restated k p st hc hp _ _ _ hqueued hclock => exact h.restated hc hp hqueued hclock
  | created k p hc _ hp _ _ _ hqueued hclock => exact h.created hc hp hqueued hclock
  | removed k p hc => exact h.removed hc
  | unqueued k p hc hp => exact h.unqueued hc hp
  | enqueued r k p hc hp => exact h.enqueued hc hp
  | offered r k p hc hk ht hidle =>
    obtain rfl := hp ht
    exact h.onto htied hc hk (hidle rfl)
  | handedIn i k p c hc hk _ _ hidle => exact h.handedIn hc hk hidle
  | ended i k p c hc hk hw => exact h.ended hc hk hw
  | lost lot queue offer weighing =>
    obtain ⟨inQueue, offered, one, weighed⟩ := h
    constructor <;> grind

/-- Outside trading nothing comes onto a clock or a lane. -/
theorem Idle.step (h : L.Idle) (hs : L.Step sound false L') : L'.Idle := by
  obtain ⟨hoffer, hweighing⟩ := h
  cases hs with
  | restated k p st hc => exact ⟨fun r => by rw [hc.offer, hoffer, ite_self], fun i => (hc.weighing i).trans (hweighing i)⟩
  | created k p hc => exact ⟨fun r => (hc.offer r).trans (hoffer r), fun i => (hc.weighing i).trans (hweighing i)⟩
  | removed k p hc => exact ⟨fun r => (hc.offer r).trans (hoffer r), fun i => (hc.weighing i).trans (hweighing i)⟩
  | unqueued k p hc => exact ⟨fun r => (hc.offer r).trans (hoffer r), fun i => (hc.weighing i).trans (hweighing i)⟩
  | enqueued r k p hc => exact ⟨fun r => (hc.offer r).trans (hoffer r), fun i => (hc.weighing i).trans (hweighing i)⟩
  | offered _ _ _ _ _ ht => exact absurd ht (by decide)
  | handedIn _ _ _ _ _ _ _ _ _ ht => exact absurd ht (by decide)
  | ended i k p c hc => exact ⟨fun r => (hc.offer r).trans (hoffer r), fun i => by rw [hc.weighing, hweighing, ite_self]⟩
  | lost _ _ offer weighing =>
    exact ⟨fun r => (offer r).elim (·.trans (hoffer r)) (·.2), fun i => (weighing i).elim (·.trans (hweighing i)) (·.2)⟩

namespace Steps

theorem refl (L : Links) : L.Steps sound trading L := Relation.ReflTransGen.refl

theorem one (h : L.Step sound trading L') : L.Steps sound trading L' := Relation.ReflTransGen.single h

theorem then_ (h : L.Steps sound trading M) (h' : M.Step sound trading L') : L.Steps sound trading L' :=
  Relation.ReflTransGen.tail h h'

theorem trans (h : L.Steps sound trading M) (h' : M.Steps sound trading L') : L.Steps sound trading L' :=
  Relation.ReflTransGen.trans h h'

theorem tied (h : L.Steps sound trading L') (ht : L.Tied) : L'.Tied := by
  induction h with
  | refl => exact ht
  | tail _ hs ih => exact ih.step hs

theorem whole {present : Bool} (h : L.Steps true trading L') (hp : trading = true → present = true) (ht : L.Tied)
    (hw : L.Whole present) : L'.Whole present := by
  induction h with
  | refl => exact hw
  | tail hrun hs ih => exact ih.step hp (tied hrun ht) hs

theorem idle (h : L.Steps sound false L') (hi : L.Idle) : L'.Idle := by
  induction h with
  | refl => exact hi
  | tail _ hs ih => exact ih.step hs

end Steps

/-! ## A lot taken at the head of a queue (R50) -/

/-- The lot that a queue loses to a lot taken at its head. -/
def tail (L : Links) (r : RostrumId) : Option Key := if 128 ≤ (L.queue r).length then (L.queue r).getLast? else none

/-- A lot is taken at the head of a queue, which loses its tail when it is full. -/
structure HeadTaken (L L' : Links) (r : RostrumId) (k : Key) (p : Phase) : Prop where
  lot : ∀ m, L'.lot m =
    if m = k then some { p with state := .queued, rostrum := some r }
    else if L.tail r = some m then (L.lot m).map Phase.displaced else L.lot m
  queue : L'.queue r = k :: if (L.queue r).length < 128 then L.queue r else (L.queue r).dropLast
  others : ∀ q, q ≠ r → L'.queue q = L.queue q
  offer : ∀ r, L'.offer r = L.offer r
  weighing : ∀ i, L'.weighing i = L.weighing i

theorem dropLast_eq_filter {ks : List Key} (h : ks.Nodup) {k : Key} (hk : ks.getLast? = some k) : ks.dropLast = ks.filter (· != k) := by
  obtain ⟨xs, rfl⟩ := List.getLast?_eq_some_iff.mp hk
  have hout : k ∉ xs := fun hmem => (List.nodup_append.mp h).2.2 k hmem k (List.mem_singleton_self k) rfl
  have hxs : xs.filter (· != k) = xs := List.filter_eq_self.mpr fun m hm => bne_iff_ne.mpr (ne_of_mem_of_not_mem hm hout)
  rw [List.dropLast_concat, List.filter_append, hxs]
  simp

/-- The links once the queue of `r` has lost its tail `k`, a lot of phase `q`. -/
def withoutTail (L : Links) (k : Key) (q : Phase) : Links where
  lot m := if m = k then some q.displaced else L.lot m
  queue r := (L.queue r).filter (· != k)
  offer := L.offer
  weighing := L.weighing

theorem HeadTaken.steps {r : RostrumId} {k : Key} {p : Phase} (hc : L.HeadTaken L' r k p) (h : L.Tied) (hp : L.lot k = some p)
    (hs : p.state = .ready ∨ p.state = .unsold) : L.Steps sound trading L' := by
  obtain ⟨lot, queue, others, offer, weighing⟩ := hc
  by_cases hfull : 128 ≤ (L.queue r).length
  · have htail : L.tail r = (L.queue r).getLast? := if_pos hfull
    obtain ⟨t, ht⟩ : ∃ t, (L.queue r).getLast? = some t := by
      cases hq : (L.queue r).getLast? with
      | some t => exact ⟨t, rfl⟩
      | none => rw [List.getLast?_eq_none_iff.mp hq] at hfull; exact absurd hfull (by decide)
    have hmem : t ∈ L.queue r := List.mem_of_getLast? ht
    obtain ⟨q, hq, hstate, hrostrum⟩ := h.queued r t hmem
    have hne : k ≠ t := by
      rintro rfl
      obtain rfl := Option.some.inj (hp.symm.trans hq)
      rcases hs with hs | hs <;> rw [hs] at hstate <;> cases hstate
    have hothers : ∀ x, x ≠ r → (L.queue x).filter (· != t) = L.queue x := fun x hx =>
      List.filter_eq_self.mpr fun m hm => bne_iff_ne.mpr fun heq => by
        obtain ⟨q', hq', -, hrostrum'⟩ := h.queued x t (heq ▸ hm)
        obtain rfl := Option.some.inj (hq.symm.trans hq')
        exact hx (Option.some.inj (hrostrum'.symm.trans hrostrum))
    rw [if_neg (Nat.not_lt.mpr hfull), dropLast_eq_filter (h.nodup r) ht] at queue
    refine (Steps.one (.unqueued t q (L' := L.withoutTail t q) ⟨fun _ => rfl, fun _ => rfl, fun _ => rfl, fun _ => rfl⟩ hq hstate)).then_
      (.enqueued r k p ⟨fun m => ?_, List.Perm.of_eq queue, fun x hx => (others x hx).trans (hothers x hx).symm, offer, weighing⟩
        ((if_neg hne).trans hp) hs)
    rw [lot, htail, ht]
    by_cases hm : m = k
    · rw [if_pos hm, if_pos hm]
    · by_cases hmt : m = t
      · subst hmt
        rw [if_neg hm, if_neg hm, if_pos rfl, hq]
        exact (if_pos rfl).symm
      · rw [if_neg hm, if_neg hm, if_neg fun heq => hmt (Option.some.inj heq).symm]
        exact (if_neg hmt).symm
  · have htail : L.tail r = none := if_neg hfull
    rw [if_pos (Nat.not_le.mp hfull)] at queue
    refine .one (.enqueued r k p ⟨fun m => ?_, List.Perm.of_eq queue, others, offer, weighing⟩ hp hs)
    rw [lot, htail, if_neg (c := none = some m) nofun]

end Links

end Sys2Proof.Machine
end

section
/-! PROOF. Every elementary change of a state as steps of its links: the lots, the lanes and the queues. -/

namespace Sys2Proof.Machine

namespace State

variable {s t u : State}

/-! ## The links after an operation -/

theorem links_lot_eq (s : State) (k : Key) : s.links.lot k = (s.lot? k).map Lot.phase := rfl

theorem links_queue_eq (s : State) (r : RostrumId) : s.links.queue r = (s.rostrum r).queue := rfl

theorem links_offer_eq (s : State) (r : RostrumId) : s.links.offer r = s.offeredKey r := rfl

theorem links_weighing_eq (s : State) (i : Fin 8) : s.links.weighing i = (s.lane i).weighing.map fun p => (p.key, p.crates) := rfl

theorem links_lot_congr (h : t.lotTable.lots = s.lotTable.lots) (m : Key) : t.links.lot m = s.links.lot m := by
  simp only [links, lot?, h]

theorem links_queue_congr (ha : t.rostrumA = s.rostrumA) (hb : t.rostrumB = s.rostrumB) (r : RostrumId) :
    t.links.queue r = s.links.queue r := congrArg Rostrum.queue (rostrum_congr ha hb r)

theorem links_offer_congr (ha : t.rostrumA = s.rostrumA) (hb : t.rostrumB = s.rostrumB) (r : RostrumId) :
    t.links.offer r = s.links.offer r := offeredKey_congr (rostrum_congr ha hb r)

theorem links_weighing_congr (h : t.lanes = s.lanes) (i : Fin 8) : t.links.weighing i = s.links.weighing i := by
  simp only [links, lane_congr h i]

/-- Of the links an operation changes the lot of one key alone. -/
theorem links_lot_modLot {k : Key} {f : Lot → Lot} (h : t.lotTable = (s.modLot k f).lotTable) (hf : ∀ l, (f l).key = l.key)
    {lot : Lot} (hl : s.lot? k = some lot) (m : Key) : t.links.lot m = if m = k then some (f lot).phase else s.links.lot m := by
  have ht : t.links.lot m = (s.modLot k f).links.lot m := links_lot_congr (by rw [h]) m
  rw [ht, links_lot_eq, lot?_modLot s k m f hf]
  split
  · next hm => rw [hm, hl, Option.map_some, if_pos (lot?_key hl)]; rfl
  · next hm =>
    rw [links_lot_eq, Option.map_map]
    cases hlm : s.lot? m with
    | none => rfl
    | some l => simp [lot?_key hlm, hm]

theorem links_lot_addLot {new : Lot} (hnew : s.lot? new.key = none) (h : t.lotTable.lots = (s.addLot new).lotTable.lots) (m : Key) :
    t.links.lot m = if m = new.key then some new.phase else s.links.lot m := by
  rw [links_lot_congr h, links_lot_eq, lot?_addLot hnew]
  split <;> rfl

theorem links_lot_removeLot {k : Key} (h : t.lotTable = (s.removeLot k).lotTable) (m : Key) :
    t.links.lot m = if m = k then none else s.links.lot m := by
  rw [links_lot_congr (s := s.removeLot k) (by rw [h]), links_lot_eq, lot?_removeLot]
  split <;> rfl

/-- A record of one lane. -/
theorem links_weighing_modLane {i : Fin 8} {f : Lane → Lane} (h : t.lanes = (s.modLane i f).lanes) (j : Fin 8) :
    t.links.weighing j = if j = i then (f (s.lane i)).weighing.map fun p => (p.key, p.crates) else s.links.weighing j := by
  rw [links_weighing_congr h, links_weighing_eq, lane_modLane]
  split <;> rfl

/-- Blocks that the links do not speak of. -/
theorem steps_of_same {sound : Bool} (hlots : t.lotTable.lots = s.lotTable.lots) (hlanes : t.lanes = s.lanes)
    (ha : t.rostrumA = s.rostrumA) (hb : t.rostrumB = s.rostrumB) : s.links.Steps sound s.trading t.links :=
  .one (.lost (links_lot_congr hlots) (links_queue_congr ha hb) (fun r => .inl (links_offer_congr ha hb r))
    fun i => .inl (links_weighing_congr hlanes i))

/-! ## The order of the lots -/

theorem modLot_ordered (h : s.lotTable.Ordered) {k : Key} {f : Lot → Lot} (ht : t.lotTable = (s.modLot k f).lotTable)
    (hf : ∀ l, (f l).key = l.key) : t.lotTable.Ordered := by
  rw [ht]
  exact h.map fun l => by split <;> simp [hf]

theorem addLot_ordered (h : s.lotTable.Ordered) {new : Lot} (hnew : s.lot? new.key = none)
    (ht : t.lotTable.lots = (s.addLot new).lotTable.lots) : t.lotTable.Ordered := by
  rw [LotTable.Ordered, ht]
  exact pairwise_insertLot h (lot?_eq_none_iff.mp hnew)

theorem lots_ordered (h : s.lotTable.Ordered) (ht : t.lotTable.lots = s.lotTable.lots) : t.lotTable.Ordered := by
  rwa [LotTable.Ordered, ht]

/-! ## Weighings -/

variable {sound : Bool}

theorem weighing_of_links (ht : s.links.Tied) {i : Fin 8} {p : PendingWeighing} (hp : (s.lane i).weighing = some p) :
    ∃ lot, s.lot? p.key = some lot ∧ lot.pending = some { lane := unitNumber i, crates := p.crates } := by
  obtain ⟨q, hq, hpending⟩ := ht.pending i p.key p.crates (links_weighing_eq_some_iff.mpr ⟨p, hp, rfl, rfl⟩)
  obtain ⟨lot, hlot, rfl⟩ := links_lot_eq_some_iff.mp hq
  exact ⟨lot, hlot, hpending⟩

/-- The end of a weighing, whatever it leaves in the lot. -/
theorem weighing_steps (ht : s.links.Tied) {i : Fin 8} {p : PendingWeighing} (hp : (s.lane i).weighing = some p) {f : Lot → Lot}
    (hlots : t.lotTable = (s.modLot p.key f).lotTable) (hkey : ∀ l, (f l).key = l.key)
    (hf : ∀ l, (f l).phase = { l.phase with pending := none }) (ha : t.rostrumA = s.rostrumA) (hb : t.rostrumB = s.rostrumB)
    {g : Lane → Lane} (hlanes : t.lanes = (s.modLane i g).lanes) (hg : ∀ l, (g l).weighing = none) :
    s.links.Steps sound s.trading t.links := by
  obtain ⟨lot, hlot, -⟩ := weighing_of_links ht hp
  refine .one (.ended i p.key lot.phase p.crates ⟨fun m => ?_, links_queue_congr ha hb, links_offer_congr ha hb, fun j => ?_⟩
    (links_lot hlot) (links_weighing_eq_some_iff.mpr ⟨p, hp, rfl, rfl⟩))
  · rw [links_lot_modLot hlots hkey hlot, hf]
  · rw [links_weighing_modLane hlanes, hg]
    rfl

/-- What the end of a weighing makes of the lots, of the lanes and of the other blocks. -/
theorem endWeighing_blocks {i : Fin 8} {p : PendingWeighing} (hp : (s.lane i).weighing = some p) {result : WeighResult}
    (hr : result ≠ .taken) (gross : Option Int) (number : Option Nat) (ticket : Option TicketStatus) :
    (s.endWeighing i result gross number ticket).lotTable = (s.modLot p.key fun l => { l with pending := none }).lotTable ∧
      (s.endWeighing i result gross number ticket).lanes =
        (s.modLane i fun l =>
          { l with weighing := none, last := some { result, gross, key := p.key, number, ticket }, attention := true }).lanes := by
  simp only [endWeighing, hp, if_neg hr]
  unfold releaseWeighing
  cases hl : s.lot? p.key with
  | none =>
    rw [modLot_of_none hl]
    exact ⟨rfl, rfl⟩
  | some lot => exact ⟨by simp, by simp [modLane]⟩

theorem weighingEnded_steps (ht : s.links.Tied) (i : Fin 8) {result : WeighResult} (hr : result ≠ .taken) (gross : Option Int) :
    s.links.Steps sound s.trading (s.endWeighing i result gross none none).links := by
  cases hp : (s.lane i).weighing with
  | none =>
    rw [show s.endWeighing i result gross none none = s by simp [endWeighing, hp]]
    exact .refl _
  | some p =>
    obtain ⟨hlots, hlanes⟩ := endWeighing_blocks hp hr gross none none
    exact weighing_steps ht hp hlots (fun _ => rfl) (fun _ => rfl) (by simp) (by simp) hlanes fun _ => rfl

theorem weighingEnded_ordered (h : s.lotTable.Ordered) (i : Fin 8) {result : WeighResult} (hr : result ≠ .taken)
    (gross : Option Int) : (s.endWeighing i result gross none none).lotTable.Ordered := by
  cases hp : (s.lane i).weighing with
  | none => simpa [endWeighing, hp] using h
  | some p => exact modLot_ordered h (endWeighing_blocks hp hr gross none none).1 fun _ => rfl

theorem weighingTaken_steps (ht : s.links.Tied) {i : Fin 8} {p : PendingWeighing} (hp : (s.lane i).weighing = some p) (w : Weighing)
    (e : Nat) (gross : Option Int) (number : Option Nat) (ticket : Option TicketStatus) :
    s.links.Steps sound s.trading ((s.modLot p.key fun l => l.enter w e).endWeighing i .taken gross number ticket).links := by
  have htaken := endWeighing_taken (s := s.modLot p.key fun l => l.enter w e) hp gross number ticket
  exact weighing_steps ht hp (f := fun l => l.enter w e)
    (g := fun l =>
      { l with weighing := none, last := some { result := .taken, gross, key := p.key, number, ticket }, attention := true })
    (by rw [htaken]; rfl) (fun _ => rfl) (fun _ => rfl) (by simp) (by simp) (by rw [htaken]; rfl) fun _ => rfl

theorem handIn_steps {lot : Lot} (hl : s.lot? lot.key = some lot) {i : Fin 8} (c : Nat) (hs : lot.state = .opened)
    (hnone : lot.pending = none) (hidle : (s.lane i).weighing = none) (ht : s.trading = true) :
    s.links.Steps sound s.trading (s.handIn lot i c).links := by
  refine .one (.handedIn i lot.key lot.phase c ⟨fun m => ?_, links_queue_congr (by simp) (by simp),
    links_offer_congr (by simp) (by simp), fun j => ?_⟩ (links_lot hl) hs hnone ?_ ht)
  · have hlots : (s.handIn lot i c).lotTable =
        (s.modLot lot.key fun l => { l with pending := some { lane := unitNumber i, crates := c } }).lotTable := by simp [handIn, commit]
    rw [links_lot_modLot hlots (fun _ => rfl) hl]
    rfl
  · simp only [links, lane_handIn]
    split <;> rfl
  · simp [links, hidle]

/-! ## Lots that come and go -/

/-- The number that OPEN LOT finds is of no living lot. -/
theorem openedLot_fresh (ht : s.links.Tied) (hroom : s.lotTable.lots.length < 1024) (w : Bool) (k : Key)
    (hk : k.number = (searchNumber s.lotTable.lots Config.maxLots s.lotTable.counter w).1) : s.links.lot k = none := by
  have hfree := searchNumber_free hroom s.lotTable.counter w
  by_contra hsome
  obtain ⟨p, hp⟩ := Option.ne_none_iff_exists'.mp hsome
  obtain ⟨q, hq⟩ := ht.founded k p hp
  obtain ⟨l, hl, -⟩ := links_lot_eq_some_iff.mp hq
  exact hfree ⟨l, lot?_mem hl, by rw [lot?_key hl, hk]⟩

theorem lot?_eq_none_of_links {k : Key} (h : s.links.lot k = none) : s.lot? k = none := Option.map_eq_none_iff.mp h

theorem openedLot_steps (ht : s.links.Tied) (boat species : Nat) (t : Fin 8) (hroom : s.lotTable.lots.length < 1024) :
    s.links.Steps sound s.trading (s.openedLot boat species t).links := by
  have hfresh := openedLot_fresh ht hroom s.lotTable.dayWrap
  have hnone : ∀ a q, s.links.lot a = some q →
      a.number ≠ (searchNumber s.lotTable.lots Config.maxLots s.lotTable.counter s.lotTable.dayWrap).1 := fun a q ha hn =>
    absurd ha (by rw [hfresh a hn]; nofun)
  refine .one (.created _ (Lot.opened _ boat species t).phase
    ⟨links_lot_addLot (lot?_eq_none_of_links (hfresh _ rfl)) rfl, links_queue_congr (by simp) (by simp),
      links_offer_congr (by simp) (by simp), links_weighing_congr (by simp)⟩ (hfresh _ rfl) rfl (.inl rfl)
    (fun a q ha hn => absurd hn (hnone a q ha)) (fun a q ha hn => absurd hn (hnone a q ha)) nofun nofun)

theorem openedLot_ordered (ht : s.links.Tied) (h : s.lotTable.Ordered) (boat species : Nat) (t : Fin 8)
    (hroom : s.lotTable.lots.length < 1024) : (s.openedLot boat species t).lotTable.Ordered :=
  addLot_ordered h (new := Lot.opened _ boat species t)
    (lot?_eq_none_of_links (openedLot_fresh ht hroom s.lotTable.dayWrap _ rfl)) rfl

theorem retire_lotTable (s : State) (lot : Lot) : (s.retire lot).lotTable = (s.removeLot lot.key).lotTable := by
  unfold retire
  by_cases hs : lot.state = .sold <;> simp [hs, removeLot]

theorem Key.eq_of {a b : Key} (hnumber : a.number = b.number) (hpart : a.part = b.part) : a = b := by
  cases a
  cases b
  cases hnumber
  cases hpart
  rfl

/-- A lot without an other of its number stands alone. -/
theorem eq_of_not_familyLives {key : Key} (h : ¬ s.familyLives key = true) {l : Lot} (hl : l ∈ s.lotTable.lots)
    (hn : l.key.number = key.number) : l.key = key := by
  by_contra hne
  exact h (List.any_eq_true.mpr ⟨l, hl, by simp [hn, hne]⟩)

theorem Lot.isWaiting_iff {l : Lot} : l.isWaiting = true ↔ l.state = .ready ∨ l.state = .unsold := by simp [Lot.isWaiting]

/-- A lot that may retire is on no lane, in no queue and on no clock, and is the part 0 of no other lot. -/
theorem mayRetire_free (ho : s.lotTable.Ordered) (ht : s.links.Tied) {lot : Lot} (hl : s.lot? lot.key = some lot)
    (hmay : s.mayRetire lot) :
    lot.state ≠ .queued ∧ lot.state ≠ .onClock ∧ lot.pending = none ∧
      (lot.key.part = 0 → ∀ l ∈ s.lotTable.lots, l.key.number = lot.key.number → l.key = lot.key) := by
  have hpending : lot.state ≠ .opened → lot.pending = none := fun hs => by
    by_contra hsome
    obtain ⟨x, hx⟩ := Option.ne_none_iff_exists'.mp hsome
    exact hs (ht.opened lot.key lot.phase x (links_lot hl) hx)
  have halone : lot.state ≠ .sold → lot.key.part = 0 → ∀ l ∈ s.lotTable.lots, l.key.number = lot.key.number → l.key = lot.key := by
    intro hs hpart l hmem hn
    by_contra hne
    have hlt : lot.key.part < l.key.part := by
      rw [hpart]
      exact Nat.pos_of_ne_zero fun h0 => hne (Key.eq_of hn (h0.trans hpart.symm))
    exact hs (ht.topmost lot.key lot.phase (links_lot hl) l.key l.phase (links_lot (lot?_of_mem ho hmem)) hn hlt)
  rcases hmay with ⟨hs, hnone⟩ | hs | ⟨hs, hfamily⟩
  · exact ⟨by rw [hs]; decide, by rw [hs]; decide, hnone, halone (by rw [hs]; decide)⟩
  · rcases Lot.isWaiting_iff.mp hs with hs | hs <;>
      exact ⟨by rw [hs]; decide, by rw [hs]; decide, hpending (by rw [hs]; decide), halone (by rw [hs]; decide)⟩
  · exact ⟨by rw [hs]; decide, by rw [hs]; decide, hpending (by rw [hs]; decide), fun hpart l hmem hn =>
      eq_of_not_familyLives (fun hf => hfamily ⟨hpart, hf⟩) hmem hn⟩

theorem retire_steps (ho : s.lotTable.Ordered) (ht : s.links.Tied) {lot : Lot} (hl : s.lot? lot.key = some lot)
    (hmay : s.mayRetire lot) : s.links.Steps sound s.trading (s.retire lot).links := by
  obtain ⟨hqueued, hclock, hnone, halone⟩ := mayRetire_free ho ht hl hmay
  refine .one (.removed lot.key lot.phase
    ⟨links_lot_removeLot (retire_lotTable s lot), links_queue_congr (by simp) (by simp), links_offer_congr (by simp) (by simp),
      links_weighing_congr (by simp)⟩ (links_lot hl) hqueued hclock hnone fun hpart a q ha hn => ?_)
  obtain ⟨l, hlm, -⟩ := links_lot_eq_some_iff.mp ha
  have hkey := lot?_key hlm
  exact hkey ▸ halone hpart l (lot?_mem hlm) (hkey.symm ▸ hn)

/-! ## Queues -/

theorem closeLot_steps {lot : Lot} (hl : s.lot? lot.key = some lot) (hs : lot.state = .opened) (hnone : lot.pending = none)
    (ht : s.links.Tied) : s.links.Steps sound s.trading (s.closeLot lot).links := by
  have hoffer : ∀ r, s.links.offer r ≠ some lot.key := fun r hr => by
    obtain ⟨p, hp, hclock, -⟩ := ht.onClock r lot.key hr
    obtain rfl := Option.some.inj ((links_lot hl).symm.trans hp)
    exact absurd (hs.symm.trans hclock) (by decide)
  refine .one (.restated lot.key lot.phase .ready ⟨fun m => ?_, links_queue_congr (by simp) (by simp), fun r => ?_,
    links_weighing_congr (by simp)⟩ (links_lot hl) ?_ ?_ ?_ (by decide) (by decide))
  · rw [links_lot_modLot (s := s) (t := s.closeLot lot) rfl (fun _ => rfl) hl]
    rfl
  · rw [if_neg (hoffer r)]
    exact links_offer_congr (by simp) (by simp) r
  · exact fun h => absurd (hs.symm.trans h) (by decide)
  · exact fun h => absurd (hs.symm.trans h) (by decide)
  · exact fun h => absurd hnone h

theorem enqueue_steps (r : RostrumId) (atHead : Bool) (override : Nat) {lot : Lot} (hl : s.lot? lot.key = some lot)
    (hw : lot.isWaiting = true) : s.links.Steps sound s.trading (s.enqueue r atHead override lot).links := by
  have hrostrum : ∀ q, (s.enqueue r atHead override lot).rostrum q =
      if q = r then { s.rostrum r with queue := if atHead then lot.key :: (s.rostrum r).queue else (s.rostrum r).queue ++ [lot.key] }
      else s.rostrum q := fun q => by
    unfold enqueue
    by_cases h : q = r
    · rw [if_pos h, h, modRostrum_rostrum, rostrum_modLot_frame]
    · rw [if_neg h, modRostrum_rostrum_ne _ _ h, rostrum_modLot_frame]
  have hlots : (s.enqueue r atHead override lot).lotTable =
      (s.modLot lot.key fun l => { l with override := overrideOf override, rostrum := some r, state := .queued }).lotTable := by
    simp [enqueue]
  refine .one (.enqueued r lot.key lot.phase
    ⟨fun m => ?_, ?_, fun q hq => ?_, fun q => ?_, links_weighing_congr (by simp)⟩ (links_lot hl) (Lot.isWaiting_iff.mp hw))
  · rw [links_lot_modLot hlots (fun _ => rfl) hl]
    rfl
  · simp only [links, hrostrum, if_true]
    cases atHead with
    | true => exact .refl _
    | false => exact List.perm_append_singleton _ _
  · simp only [links, hrostrum, if_neg hq]
  · simp only [links, offeredKey, hrostrum]
    split
    · next h => rw [h]
    · rfl

/-- The queues without a lot: only the queue that its record names holds it. -/
theorem rostrum_unqueue (ht : s.links.Tied) {lot : Lot} (hl : s.lot? lot.key = some lot) (r : RostrumId) :
    (s.unqueue lot).rostrum r = { s.rostrum r with queue := (s.rostrum r).queue.filter (· != lot.key) } := by
  have hother : lot.rostrum ≠ some r → (s.rostrum r).queue.filter (· != lot.key) = (s.rostrum r).queue := fun hne =>
    List.filter_eq_self.mpr fun m hm => bne_iff_ne.mpr fun heq => by
      obtain ⟨p, hp, -, hr⟩ := ht.queued r m hm
      subst heq
      obtain rfl := Option.some.inj ((links_lot hl).symm.trans hp)
      exact hne hr
  unfold unqueue
  cases hq : lot.rostrum with
  | none => rw [hother (by rw [hq]; nofun)]
  | some q =>
    by_cases hqr : r = q
    · rw [hqr, modRostrum_rostrum]
    · dsimp only
      rw [modRostrum_rostrum_ne _ _ hqr, hother (by rw [hq]; exact fun h => hqr (Option.some.inj h).symm)]

theorem unqueue_steps (ht : s.links.Tied) {lot : Lot} (hl : s.lot? lot.key = some lot) (hs : lot.state = .queued) :
    s.links.Steps sound s.trading
      ((s.unqueue lot).modLot lot.key fun l => { l with state := .ready, rostrum := none }).links := by
  have hlots : ((s.unqueue lot).modLot lot.key fun l => { l with state := .ready, rostrum := none }).lotTable =
      (s.modLot lot.key fun l => { l with state := .ready, rostrum := none }).lotTable := by
    unfold unqueue
    cases lot.rostrum <;> simp [modLot_lotTable]
  have hlanes : (s.unqueue lot).lanes = s.lanes := by
    unfold unqueue
    cases lot.rostrum <;> simp
  refine .one (.unqueued lot.key lot.phase ⟨fun m => ?_, fun r => ?_, fun r => ?_, links_weighing_congr hlanes⟩ (links_lot hl) hs)
  · rw [links_lot_modLot hlots (fun _ => rfl) hl]
    rfl
  · simp only [links, rostrum_modLot_frame, rostrum_unqueue ht hl]
  · simp only [links, offeredKey, rostrum_modLot_frame, rostrum_unqueue ht hl]

end State

end Sys2Proof.Machine
end

section
/-! PROOF. Every elementary change of a state as steps of its links: the clocks and the press. -/

namespace Sys2Proof.Machine

/-- A lot after a full queue has lost its tail. -/
def Lot.displacedBy (tail : Option Key) (l : Lot) : Lot := if some l.key = tail then { l with state := .ready, rostrum := none } else l

theorem Lot.displacedBy_key (tail : Option Key) (l : Lot) : (l.displacedBy tail).key = l.key := by
  unfold Lot.displacedBy
  split <;> rfl

theorem Rostrum.takes_queue (x : Rostrum) (k : Key) :
    (x.takes (some k)).queue = k :: if x.queue.length < 128 then x.queue else x.queue.dropLast := by
  unfold takes
  by_cases h : x.queue.length < 128 <;> simp [h]

theorem Rostrum.takes_offer (x : Rostrum) (key : Option Key) : (x.takes key).offer = x.offer := by
  unfold takes
  split
  · rfl
  · split <;> rfl

theorem Rostrum.takes_desks (x : Rostrum) (key : Option Key) : (x.takes key).desks = x.desks := by
  unfold takes
  split
  · rfl
  · split <;> rfl

@[simp] theorem Rostrum.answer_queue (x : Rostrum) (a : DeskAnswer) : (x.answer a).queue = x.queue := by
  unfold answer
  split <;> simp

@[simp] theorem Rostrum.answer_desks (x : Rostrum) (a : DeskAnswer) : (x.answer a).desks = x.desks := by
  unfold answer
  split <;> simp

/-- No other clock offers the lot of an offer. -/
theorem Links.Tied.offer_ne {L : Links} (h : L.Tied) {r q : RostrumId} {k : Key} (hr : L.offer r = some k) (hq : q ≠ r) :
    L.offer q ≠ some k := fun hk => by
  obtain ⟨p, hp, -, hpr⟩ := h.onClock r k hr
  obtain ⟨p', hp', -, hpq⟩ := h.onClock q k hk
  obtain rfl := Option.some.inj (hp.symm.trans hp')
  exact hq (Option.some.inj (hpq.symm.trans hpr))

/-- A lot on a clock is in no queue. -/
theorem Links.Tied.not_mem_queue {L : Links} (h : L.Tied) {r : RostrumId} {k : Key} (hr : L.offer r = some k) (q : RostrumId) :
    k ∉ L.queue q := fun hk => by
  obtain ⟨p, hp, hclock, -⟩ := h.onClock r k hr
  obtain ⟨p', hp', hqueued, -⟩ := h.queued q k hk
  obtain rfl := Option.some.inj (hp.symm.trans hp')
  exact absurd (hclock.symm.trans hqueued) (by decide)

/-- The links once the lot of a key is in a state of no queue and of no clock. -/
def Links.withState (L : Links) (k : Key) (p : Phase) (st : LotState) : Links where
  lot m := if m = k then some { p with state := st } else L.lot m
  queue := L.queue
  offer r := if L.offer r = some k then none else L.offer r
  weighing := L.weighing

theorem Links.restated_withState (L : Links) (k : Key) (p : Phase) (st : LotState) : L.Restated (L.withState k p st) k p st :=
  ⟨fun _ => rfl, fun _ => rfl, fun _ => rfl, fun _ => rfl⟩

/-- The links with one more lot. -/
def Links.withNew (L : Links) (k : Key) (p : Phase) : Links := { L with lot := fun m => if m = k then some p else L.lot m }

/-- A lot on a clock leaves it for a state of no queue and of no clock. -/
theorem Links.Tied.off_clock {L L' : Links} {sound trading : Bool} (h : L.Tied) {k : Key} {p : Phase} {st : LotState}
    (hc : L.Restated L' k p st) (hp : L.lot k = some p) (hs : p.state = .onClock) (hqueued : st ≠ .queued) (hclock : st ≠ .onClock) :
    L.Steps sound trading L' := by
  refine .one (.restated k p st hc hp (by rw [hs]; decide) (fun hsold => absurd (hs.symm.trans hsold) (by decide)) (fun hne => ?_)
    hqueued hclock)
  obtain ⟨x, hx⟩ := Option.ne_none_iff_exists'.mp hne
  exact absurd (hs.symm.trans (h.opened k p x hp hx)) (by decide)

namespace State

variable {s t u : State} {sound : Bool}

/-- The lot on a rostrum's clock. -/
theorem offer_of_links (ht : s.links.Tied) {r : RostrumId} {o : Offer} (ho : (s.rostrum r).offer = some o) :
    ∃ lot, s.lot? o.key = some lot ∧ lot.state = .onClock ∧ lot.rostrum = some r := by
  obtain ⟨p, hp, hclock, hr⟩ := ht.onClock r o.key (links_offer_eq_some_iff.mpr ⟨o, ho, rfl⟩)
  obtain ⟨lot, hlot, rfl⟩ := links_lot_eq_some_iff.mp hp
  exact ⟨lot, hlot, hclock, hr⟩

theorem links_offer_of_offer {r : RostrumId} {o : Offer} (ho : (s.rostrum r).offer = some o) : s.links.offer r = some o.key :=
  links_offer_eq_some_iff.mpr ⟨o, ho, rfl⟩

theorem links_offer_none {r : RostrumId} (ho : (s.rostrum r).offer = none) : s.links.offer r = none := by
  rw [links_offer_eq, offeredKey, ho]
  rfl

theorem links_queue_of {r q : RostrumId} (h : t.rostrum r = s.rostrum q) : t.links.queue r = s.links.queue q :=
  congrArg Rostrum.queue h

/-! ## Offers -/

theorem rostrum_change_steps (ht : sound = true → (s.rostrum r).Sound ∧ s.Still) {f : Rostrum → Rostrum}
    (queue : (f (s.rostrum r)).queue = (s.rostrum r).queue)
    (offer : (f (s.rostrum r)).offer.map (·.key) = (s.rostrum r).offer.map (·.key) ∨
      (f (s.rostrum r)).offer = none ∧ (s.trading = true → (s.rostrum r).Sound → (s.rostrum r).offer = none)) :
    s.links.Steps sound s.trading (s.modRostrum r f).links := by
  refine .one (.lost (links_lot_congr (by simp)) (fun q => ?_) (fun q => ?_) fun i => .inl (links_weighing_congr (by simp) i))
  · by_cases hq : q = r
    · rw [hq, links_queue_eq, modRostrum_rostrum, queue]
      rfl
    · exact links_queue_of (modRostrum_rostrum_ne _ _ hq)
  · by_cases hq : q = r
    · subst hq
      rw [links_offer_eq, links_offer_eq, offeredKey, offeredKey, modRostrum_rostrum]
      rcases offer with hsame | ⟨hnone, hidle⟩
      · exact .inl hsame
      · cases sound with
        | false => exact .inr ⟨rfl, by rw [hnone]; rfl⟩
        | true =>
          obtain ⟨hsound, hstill⟩ := ht rfl
          have hold : (s.rostrum q).offer = none := by
            cases htr : s.trading with
            | true => exact hidle htr hsound
            | false => exact (hstill htr).1 q
          rw [hnone, hold]
          exact .inl rfl
    · exact .inl (offeredKey_congr (modRostrum_rostrum_ne _ _ hq))

theorem startOffer_steps (ht : s.links.Tied) {r : RostrumId} (htrading : s.trading = true)
    (hidle : sound = true → (s.rostrum r).offer = none) : s.links.Steps sound s.trading (s.startOffer r).links := by
  cases hq : (s.rostrum r).queue with
  | nil =>
    rw [startOffer_nil hq]
    exact .refl _
  | cons k rest =>
    obtain ⟨f, hf⟩ := rostrum_startOffer hq
    obtain ⟨p, hp, -⟩ := ht.queued r k (by rw [links_queue_eq, hq]; exact List.mem_cons_self)
    obtain ⟨lot, hlot, rfl⟩ := links_lot_eq_some_iff.mp hp
    have hlots : (s.startOffer r).lotTable = (s.modLot k fun l => { l with state := .onClock }).lotTable := by
      simp [startOffer_cons hq]
    refine .one (.offered r k lot.phase ⟨fun m => ?_, ?_, fun q hne => links_queue_of (rostrum_startOffer_ne s hne), fun q => ?_,
      links_weighing_congr (by simp)⟩ hp htrading fun h => links_offer_none (hidle h))
    · rw [links_lot_modLot hlots (fun _ => rfl) hlot]
      rfl
    · rw [links_queue_eq, links_queue_eq, hf, hq]
      simp [offerHead]
    · by_cases hne : q = r
      · rw [if_pos hne, hne, links_offer_eq, offeredKey, hf]
        simp [offerHead]
      · rw [if_neg hne]
        exact offeredKey_congr (rostrum_startOffer_ne s hne)

theorem unsold_steps (ht : s.links.Tied) {r : RostrumId} {o : Offer} (ho : (s.rostrum r).offer = some o) {f : Rostrum → Rostrum}
    (queue : ∀ x, (f x).queue = x.queue) (offer : ∀ x, (f x).offer = none) :
    s.links.Steps sound s.trading ((s.modLot o.key fun l => { l with state := .unsold }).modRostrum r f).links := by
  obtain ⟨lot, hlot, hclock, -⟩ := offer_of_links ht ho
  have hoffer := links_offer_of_offer ho
  refine ht.off_clock (st := .unsold) ⟨fun m => ?_, fun q => ?_, fun q => ?_, links_weighing_congr (by simp)⟩ (links_lot hlot) hclock
    (by decide) (by decide)
  · rw [links_lot_modLot (s := s) (k := o.key) (f := fun l => { l with state := .unsold }) (by simp) (fun _ => rfl) hlot]
    rfl
  · by_cases hq : q = r
    · rw [hq, links_queue_eq, modRostrum_rostrum, queue]
      rfl
    · exact links_queue_of (modRostrum_rostrum_ne _ _ hq)
  · by_cases hq : q = r
    · rw [hq, if_pos hoffer, links_offer_eq, offeredKey, modRostrum_rostrum, offer]
      rfl
    · rw [if_neg (ht.offer_ne hoffer hq)]
      exact offeredKey_congr (modRostrum_rostrum_ne _ _ hq)

/-! ## A lot taken at the head of a queue -/

theorem links_lot_headInsert (s : State) (r : RostrumId) (k m : Key) :
    (s.headInsert r k).links.lot m =
      if s.links.tail r = some m then (s.links.lot m).map Phase.displaced else s.links.lot m := by
  have htail : (s.rostrum r).displaces (some k) = s.links.tail r := by
    unfold Links.tail Rostrum.displaces
    rw [links_queue_eq]
    simp only [Option.isSome_some, true_and]
  have hlots : (s.headInsert r k).lotTable.lots = s.lotTable.lots.map (·.displacedBy (s.links.tail r)) := by
    rw [lotTable_headInsert, htail]
    rfl
  rw [links_lot_eq, lot?_of_map (Lot.displacedBy_key _) hlots, links_lot_eq]
  cases hm : s.lot? m with
  | none => simp
  | some l =>
    obtain rfl := lot?_key hm
    by_cases hd : some l.key = s.links.tail r
    · simp [Lot.displacedBy, hd, Lot.phase, Phase.displaced]
    · simp [Lot.displacedBy, hd, Ne.symm hd]

/-- A head insertion by the clock, of a lot that is QUEUED already in the state `u`. -/
theorem headTaken_of {L : Links} {r : RostrumId} {k : Key} {p : Phase} (hout : k ∉ L.queue r)
    (hlot : ∀ m, u.links.lot m = if m = k then some { p with state := .queued, rostrum := some r } else L.lot m)
    (hqueue : ∀ q, u.links.queue q = L.queue q) (hlots : t.lotTable = (u.headInsert r k).lotTable)
    (htaken : (t.rostrum r).queue = ((u.rostrum r).takes (some k)).queue) (hothers : ∀ q, q ≠ r → (t.rostrum q).queue = (u.rostrum q).queue)
    (hoffer : ∀ q, t.links.offer q = L.offer q) (hweighing : ∀ i, t.links.weighing i = L.weighing i) :
    L.HeadTaken t.links r k p := by
  have htail : u.links.tail r = L.tail r := by rw [Links.tail, Links.tail, hqueue]
  have hnot : L.tail r ≠ some k := fun h => by
    unfold Links.tail at h
    split at h
    · exact hout (List.mem_of_getLast? h)
    · cases h
  refine ⟨fun m => ?_, ?_, fun q hq => (hothers q hq).trans (hqueue q), hoffer, hweighing⟩
  · rw [links_lot_congr (s := u.headInsert r k) (by rw [hlots]), links_lot_headInsert, htail, hlot]
    by_cases hm : m = k
    · rw [hm, if_neg hnot]
      simp
    · simp [hm]
  · rw [links_queue_eq, htaken, Rostrum.takes_queue, ← links_queue_eq, hqueue]

theorem putBack_steps (ht : s.links.Tied) (r : RostrumId) {f : Rostrum → Rostrum} (queue : ∀ x, (f x).queue = x.queue)
    (offer : ∀ x, (f x).offer = none) : s.links.Steps sound s.trading ((s.putBack r).modRostrum r f).links := by
  cases ho : (s.rostrum r).offer with
  | none =>
    rw [show s.putBack r = s by simp [putBack, ho]]
    refine .one (.lost (links_lot_congr (by simp)) (fun q => ?_) (fun q => .inl ?_) fun i => .inl (links_weighing_congr (by simp) i))
    · by_cases hq : q = r
      · rw [hq, links_queue_eq, modRostrum_rostrum, queue]
        rfl
      · exact links_queue_of (modRostrum_rostrum_ne _ _ hq)
    · by_cases hq : q = r
      · rw [hq, links_offer_eq, offeredKey, modRostrum_rostrum, offer, links_offer_none ho]
        rfl
      · exact offeredKey_congr (modRostrum_rostrum_ne _ _ hq)
  | some o =>
    obtain ⟨lot, hlot, hclock, hr⟩ := offer_of_links ht ho
    have hoffer := links_offer_of_offer ho
    have hp := links_lot hlot
    have hmid := s.links.restated_withState o.key lot.phase .unsold
    have hback : s.putBack r = (s.modLot o.key fun l => { l with state := .queued }).headInsert r o.key := by simp [putBack, ho]
    have hsteps : s.links.Steps sound s.trading (s.links.withState o.key lot.phase .unsold) :=
      ht.off_clock hmid hp hclock (by decide) (by decide)
    refine hsteps.trans (Links.HeadTaken.steps (r := r) (k := o.key) (p := { lot.phase with state := .unsold }) ?_ (hsteps.tied ht)
      (if_pos rfl) (.inr rfl))
    refine headTaken_of (u := s.modLot o.key fun l => { l with state := .queued }) (ht.not_mem_queue hoffer r) (fun m => ?_)
      (fun q => links_queue_of (rostrum_modLot_frame ..)) ?_ ?_ (fun q hq => ?_) (fun q => ?_) (links_weighing_congr (by simp))
    · rw [links_lot_modLot (s := s) (k := o.key) (f := fun l => { l with state := .queued }) rfl (fun _ => rfl) hlot]
      by_cases hm : m = o.key
      · simp [hm, Lot.phase, hr]
      · simp [hm, Links.withState]
    · rw [modRostrum_lotTable, hback]
    · rw [modRostrum_rostrum, queue, hback, rostrum_headInsert]
    · rw [modRostrum_rostrum_ne _ _ hq, hback, rostrum_headInsert_ne _ hq]
    · by_cases hq : q = r
      · have hleft : (s.links.withState o.key lot.phase .unsold).offer r = none := if_pos hoffer
        rw [hq, hleft, links_offer_eq, offeredKey, modRostrum_rostrum, offer]
        rfl
      · have hkeep : (s.links.withState o.key lot.phase .unsold).offer q = s.links.offer q := if_neg (ht.offer_ne hoffer hq)
        rw [hkeep]
        exact offeredKey_congr ((modRostrum_rostrum_ne _ _ hq).trans (rostrum_putBack_ne s hq))

/-! ## The press -/

/-- A winning press: the lot on the clock, the crates asked for and the net they are sold at (R63, R66). -/
theorem judgePress_lot {r : RostrumId} {d : Fin 96} {quantity : Nat} {c : Candidate} {v : Valuation}
    (h : s.judgePress r d quantity = .ok (c, v)) :
    ∃ o, (s.rostrum r).offer = some o ∧ s.lot? o.key = some c.lot ∧ c.k ≤ c.lot.n ∧ c.net = soldNet c.lot c.k ∧
      (c.isPart = true → s.partCheck c.lot c.k = none) := by
  unfold judgePress at h
  split at h; · cases h
  split at h
  case h_2 | h_3 => cases h
  split at h; · cases h
  next account offer hbuyer hoffer _ =>
    split at h; · cases h
    next lot hlot =>
      extract_lets k at h
      split at h; · cases h
      next hk =>
        split at h
        case h_1 | h_2 => cases h
        next boat hpart hboat =>
          extract_lets c' at h
          cases hb : s.book c' with
          | error a => rw [hb] at h; cases h
          | ok v' =>
            rw [hb] at h
            obtain ⟨rfl, rfl⟩ := Prod.mk.inj (Except.ok.inj h)
            exact ⟨offer, hoffer, hlot, Nat.not_lt.mp hk, rfl, fun hp => by rwa [if_pos (of_decide_eq_true hp)] at hpart⟩

/-- The parts of the number of a lot on a clock are below it, and sold. -/
theorem below_of_onClock (ht : s.links.Tied) {k : Key} {p : Phase} (hp : s.links.lot k = some p) (hs : p.state = .onClock) {a : Key}
    {q : Phase} (ha : s.links.lot a = some q) (hn : a.number = k.number) : a = k ∨ a.part < k.part ∧ q.state = .sold := by
  rcases Nat.lt_trichotomy a.part k.part with hlt | heq | hgt
  · exact .inr ⟨hlt, ht.topmost a q ha k p hp hn.symm hlt⟩
  · exact .inl (Key.eq_of hn heq)
  · exact absurd (hs.symm.trans (ht.topmost k p hp a q ha hn hgt)) (by decide)

theorem links_postSale (c : Candidate) (v : Valuation) (hl : s.lot? c.lot.key = some c.lot) (m : Key) :
    (s.postSale c v).links.lot m = if m = c.lot.key then some { c.lot.phase with state := .sold } else s.links.lot m := by
  rw [links_lot_modLot (s := s) (k := c.lot.key) (f := fun l => { l with state := .sold, sale := some (c.sale v) })
    (lotTable_postSale ..) (fun _ => rfl) hl]
  rfl

theorem offer_win (s : State) (r : RostrumId) (c : Candidate) (v : Valuation) : ((s.win r c v).rostrum r).offer = none := by
  obtain ⟨f, hf⟩ := rostrum_win s r c v
  rw [hf]
  simp [wonRostrum]

theorem queue_win (s : State) (r : RostrumId) (c : Candidate) (v : Valuation) :
    ((s.win r c v).rostrum r).queue = ((s.rostrum r).takes (c.left r)).queue := by
  obtain ⟨f, hf⟩ := rostrum_win s r c v
  rw [hf]
  simp [wonRostrum, Rostrum.lotEnd]

/-- A winning press takes the lot off the clock. -/
theorem links_offer_win (ht : s.links.Tied) {r : RostrumId} {c : Candidate} (hoffer : s.links.offer r = some c.lot.key) (v : Valuation)
    (q : RostrumId) : (s.win r c v).links.offer q = if s.links.offer q = some c.lot.key then none else s.links.offer q := by
  by_cases hq : q = r
  · rw [hq, if_pos hoffer]
    exact links_offer_none (offer_win s r c v)
  · rw [if_neg (ht.offer_ne hoffer hq)]
    exact offeredKey_congr (rostrum_win_ne s hq c v)

theorem win_whole_steps (ht : s.links.Tied) {r : RostrumId} {c : Candidate} (hoffer : s.links.offer r = some c.lot.key)
    (hl : s.lot? c.lot.key = some c.lot) (hs : c.lot.state = .onClock) (hwhole : c.isPart = false) (v : Valuation) :
    s.links.Steps sound s.trading (s.win r c v).links := by
  refine ht.off_clock (st := .sold) ⟨fun m => ?_, fun q => ?_, links_offer_win ht hoffer v, links_weighing_congr (by simp)⟩
    (links_lot hl) hs (by decide) (by decide)
  · rw [links_lot_congr (s := s.postSale c v) (by rw [lotTable_win_whole hwhole]), links_postSale c v hl]
  · by_cases hq : q = r
    · rw [hq, links_queue_eq, queue_win, Candidate.left, hwhole]
      rfl
    · exact links_queue_of (rostrum_win_ne s hq c v)

/-- The key of a remainder is of no living lot (R44). -/
theorem remainder_fresh (ht : s.links.Tied) {c : Candidate} (hl : s.lot? c.lot.key = some c.lot) (hs : c.lot.state = .onClock)
    (r : RostrumId) : s.links.lot (c.remainder r).key = none := by
  by_contra hsome
  obtain ⟨q, hq⟩ := Option.ne_none_iff_exists'.mp hsome
  rcases below_of_onClock ht (links_lot hl) hs hq rfl with heq | ⟨hlt, -⟩
  · exact absurd (congrArg Key.part heq) (Nat.succ_ne_self _)
  · exact absurd hlt (Nat.not_lt.mpr (Nat.le_succ _))

theorem lot?_postSale_fresh (ht : s.links.Tied) {c : Candidate} (hl : s.lot? c.lot.key = some c.lot) (hs : c.lot.state = .onClock)
    (r : RostrumId) (v : Valuation) : (s.postSale c v).lot? (c.remainder r).key = none := by
  refine lot?_eq_none_of_links ?_
  rw [links_postSale c v hl, if_neg, remainder_fresh ht hl hs]
  exact fun heq => absurd (congrArg Key.part heq) (Nat.succ_ne_self _)

theorem win_part_steps (ht : s.links.Tied) {r : RostrumId} {c : Candidate} (hoffer : s.links.offer r = some c.lot.key)
    (hl : s.lot? c.lot.key = some c.lot) (hs : c.lot.state = .onClock) (hpart : c.isPart = true) (v : Valuation) :
    s.links.Steps sound s.trading (s.win r c v).links := by
  have hp := links_lot hl
  let key := (c.remainder r).key
  let sold := s.links.withState c.lot.key c.lot.phase .sold
  let new : Phase := { state := .ready, rostrum := none, pending := none }
  have hne : key ≠ c.lot.key := fun heq => absurd (congrArg Key.part heq) (Nat.succ_ne_self _)
  have hfresh : sold.lot key = none := (if_neg hne).trans (remainder_fresh ht hl hs r)
  have hsold : s.links.Steps sound s.trading sold := ht.off_clock (s.links.restated_withState ..) hp hs (by decide) (by decide)
  have hbelow : ∀ a q, sold.lot a = some q → a.number = key.number → a.part < key.part ∧ q.state = .sold := by
    intro a q ha hn
    by_cases hak : a = c.lot.key
    · obtain rfl := Option.some.inj ((if_pos hak).symm.trans ha)
      exact ⟨hak ▸ Nat.lt_succ_self _, rfl⟩
    · obtain ⟨hlt, hq⟩ := (below_of_onClock ht hp hs ((if_neg hak).symm.trans ha) hn).resolve_left hak
      exact ⟨Nat.lt_succ_of_lt hlt, hq⟩
  have hroot : ∃ q, sold.lot { number := key.number, part := 0 } = some q := (hsold.tied ht).founded c.lot.key _ (if_pos rfl)
  have hcreated : s.links.Steps sound s.trading (sold.withNew key new) :=
    hsold.then_ (.created key new ⟨fun _ => rfl, fun _ => rfl, fun _ => rfl, fun _ => rfl⟩ hfresh rfl (.inr hroot)
      (fun a q ha hn => (hbelow a q ha hn).1) (fun a q ha hn => (hbelow a q ha hn).2) (by decide) (by decide))
  refine hcreated.trans (Links.HeadTaken.steps (r := r) (k := key) (p := new) ?_ (hcreated.tied ht) (if_pos rfl) (.inl rfl))
  have hlot : ∀ m, ((s.postSale c v).addLot (c.remainder r)).links.lot m =
      if m = key then some (c.remainder r).phase else sold.lot m := fun m => by
    rw [links_lot_addLot (lot?_postSale_fresh ht hl hs r v) rfl, links_postSale c v hl]
    rfl
  have hrostrum : ∀ q, ((s.postSale c v).addLot (c.remainder r)).rostrum q = s.rostrum q := fun q => by
    rw [rostrum_addLot_frame, rostrum_postSale]
  refine headTaken_of (u := (s.postSale c v).addLot (c.remainder r)) (fun hmem => ?_) (fun m => ?_)
    (fun q => links_queue_of (hrostrum q)) ?_ ?_ (fun q hq => ?_) (links_offer_win ht hoffer v) (links_weighing_congr (by simp))
  · obtain ⟨p, hlive, -⟩ := ht.queued r key hmem
    rw [remainder_fresh ht hl hs r] at hlive
    cases hlive
  · rw [hlot]
    by_cases hm : m = key
    · rw [if_pos hm, if_pos hm]
      rfl
    · rw [if_neg hm, if_neg hm]
      exact (if_neg hm).symm
  · rw [lotTable_win_part hpart, lotTable_headInsert, hrostrum]
    simp [lotTable_postSale, key]
  · rw [queue_win, Candidate.left, hpart, hrostrum]
    rfl
  · rw [rostrum_win_ne s hq, hrostrum]

theorem win_steps (ht : s.links.Tied) {r : RostrumId} {d : Fin 96} {quantity : Nat} {c : Candidate} {v : Valuation}
    (h : s.judgePress r d quantity = .ok (c, v)) : s.links.Steps sound s.trading (s.win r c v).links := by
  obtain ⟨o, ho, hl, -⟩ := judgePress_lot h
  obtain ⟨lot, hlot, hclock, -⟩ := offer_of_links ht ho
  obtain rfl := Option.some.inj (hlot.symm.trans hl)
  have hkey : c.lot.key = o.key := lot?_key hl
  rw [← hkey] at hl
  have hoffer : s.links.offer r = some c.lot.key := hkey ▸ links_offer_of_offer ho
  cases hpart : c.isPart with
  | true => exact win_part_steps ht hoffer hl hclock hpart v
  | false => exact win_whole_steps ht hoffer hl hclock hpart v

end State

end Sys2Proof.Machine
end

section
/-! PROOF. Every elementary change keeps the lots, the queues, the offers and the pending weighings linked (R49). -/

namespace Sys2Proof.Machine

namespace State

variable {s t : State}

theorem links_idle_iff : s.links.Idle ↔ (∀ r, (s.rostrum r).offer = none) ∧ ∀ i, (s.lane i).weighing = none := by
  simp [Links.Idle, links, offeredKey]

theorem map_ordered (h : s.lotTable.Ordered) {f : Lot → Lot} (hf : ∀ l, (f l).key = l.key)
    (ht : t.lotTable.lots = s.lotTable.lots.map f) : t.lotTable.Ordered := by
  rw [LotTable.Ordered, ht]
  exact h.map hf

theorem headInsert_ordered (h : s.lotTable.Ordered) (r : RostrumId) (k : Key) : (s.headInsert r k).lotTable.Ordered :=
  map_ordered h (Lot.displacedBy_key ((s.rostrum r).displaces (some k))) (by rw [lotTable_headInsert]; rfl)

theorem putBack_ordered (h : s.lotTable.Ordered) (r : RostrumId) : (s.putBack r).lotTable.Ordered := by
  unfold putBack
  split
  · exact h
  · next o _ => exact headInsert_ordered (s := s.modLot o.key fun l => { l with state := .queued }) (modLot_ordered h rfl fun _ => rfl) _ _

theorem startOffer_ordered (h : s.lotTable.Ordered) (r : RostrumId) : (s.startOffer r).lotTable.Ordered := by
  cases hq : (s.rostrum r).queue with
  | nil => rwa [startOffer_nil hq]
  | cons k rest =>
    exact modLot_ordered (k := k) (f := fun l => { l with state := .onClock }) h (by simp [startOffer_cons hq]) fun _ => rfl

theorem win_ordered (h : s.lotTable.Ordered) (ht : s.links.Tied) {r : RostrumId} {d : Fin 96} {quantity : Nat} {c : Candidate}
    {v : Valuation} (hj : s.judgePress r d quantity = .ok (c, v)) : (s.win r c v).lotTable.Ordered := by
  obtain ⟨o, ho, hl, -⟩ := judgePress_lot hj
  obtain ⟨lot, hlot, hclock, -⟩ := offer_of_links ht ho
  obtain rfl := Option.some.inj (hlot.symm.trans hl)
  rw [← lot?_key hl] at hl
  have hsold : (s.postSale c v).lotTable.Ordered :=
    map_ordered h (f := fun l => if l.key = c.lot.key then { l with state := .sold, sale := some (c.sale v) } else l)
      (fun l => by split <;> rfl) (by rw [lotTable_postSale])
  cases hpart : c.isPart with
  | false => exact (lotTable_win_whole hpart r v).symm ▸ hsold
  | true =>
    have hnew : ((s.postSale c v).addLot (c.remainder r)).lotTable.Ordered :=
      addLot_ordered hsold (lot?_postSale_fresh ht hl hclock r v) rfl
    exact map_ordered hnew (Lot.displacedBy_key ((s.rostrum r).displaces (some (c.remainder r).key)))
      (by rw [lotTable_win_part hpart]; rfl)

end State

/-- Every elementary change keeps the key order (R45). -/
theorem Change.ordered {s t : State} (h : Change s t) (ho : s.lotTable.Ordered) (ht : s.links.Tied) : t.lotTable.Ordered := by
  cases h
  case weighingEnded i result gross hr => exact State.weighingEnded_ordered ho i hr gross
  case weighingTaken i p legal number ticket hp _ _ _ =>
    rw [State.endWeighing_taken (s := s.modLot p.key _) hp]
    exact State.modLot_ordered ho rfl fun _ => rfl
  case opened boat species ty a _ _ hroom => exact State.openedLot_ordered ht ho boat species ty hroom
  case handedIn lot i c _ _ _ _ _ _ _ _ _ _ _ => exact State.modLot_ordered (s := s.commit _ _ c) ho rfl fun _ => rfl
  case closed lot _ _ _ _ _ => exact State.modLot_ordered ho rfl fun _ => rfl
  case retired lot _ _ =>
    rw [State.retire_lotTable]
    exact ho.filter _
  case queued r atHead override lot _ _ _ =>
    exact State.modLot_ordered ho (k := lot.key)
      (f := fun l => { l with override := overrideOf override, rostrum := some r, state := .queued }) (by simp [State.enqueue])
      fun _ => rfl
  case unqueued lot _ _ =>
    have hlots : (s.unqueue lot).lotTable = s.lotTable := by
      unfold State.unqueue
      cases lot.rostrum <;> simp
    exact State.modLot_ordered (s := s.unqueue lot) (hlots.symm ▸ ho) rfl fun _ => rfl
  case offerStarted r _ _ => exact State.startOffer_ordered ho r
  case putBack r f _ _ _ _ =>
    rw [State.modRostrum_lotTable]
    exact State.putBack_ordered ho r
  case unsold r o f _ _ _ _ _ =>
    rw [State.modRostrum_lotTable]
    exact State.modLot_ordered ho rfl fun _ => rfl
  case won r d quantity c v hj => exact State.win_ordered ho ht hj
  all_goals exact State.lots_ordered ho (by simp)

/-- Every elementary change is a run of steps of the links; with sound rostra, of steps that keep both halves of them. -/
theorem Change.steps {s t : State} (h : Change s t) {sound : Bool} (ho : s.lotTable.Ordered) (ht : s.links.Tied)
    (hs : sound = true → (∀ r, (s.rostrum r).Sound) ∧ s.Still) : s.links.Steps sound s.trading t.links := by
  cases h
  case lane i f _ hweighing _ =>
    refine .one (.lost (State.links_lot_congr rfl) (State.links_queue_congr rfl rfl) (fun r => .inl (State.links_offer_congr rfl rfl r))
      fun j => ?_)
    rw [State.links_weighing_modLane rfl]
    split
    · next hj =>
      rw [hj, State.links_weighing_eq]
      rcases hweighing with hsame | ⟨hidle, hnone⟩
      · exact .inl (congrArg _ hsame)
      · rw [hnone]
        cases sound with
        | false => exact .inr ⟨rfl, rfl⟩
        | true => exact .inl (by rw [((hs rfl).2 hidle).2 i])
    · exact .inl rfl
  case weighingEnded i result gross hr => exact State.weighingEnded_steps ht i hr gross
  case weighingTaken i p legal number ticket hp _ _ _ => exact State.weighingTaken_steps ht hp _ _ _ _ _
  case opened boat species ty a _ _ hroom => exact State.openedLot_steps ht boat species ty hroom
  case handedIn lot i c hl hopened hnone hidle _ _ _ _ _ _ htrading => exact State.handIn_steps hl c hopened hnone hidle htrading
  case closed lot hl hopened hnone _ _ => exact State.closeLot_steps hl hopened hnone ht
  case retired lot hl hmay => exact State.retire_steps ho ht hl hmay
  case queued r atHead override lot hl hw _ => exact State.enqueue_steps r atHead override hl hw
  case unqueued lot hl hq => exact State.unqueue_steps ht hl hq
  case offerStarted r hidle htrading => exact State.startOffer_steps ht htrading fun h => hidle ((hs h).1 r)
  case rostrum r f _ queue _ offer => exact State.rostrum_change_steps (fun h => ⟨(hs h).1 r, (hs h).2⟩) queue offer
  case putBack r f _ queue _ offer => exact State.putBack_steps ht r queue offer
  case unsold r o f ho' _ queue _ offer => exact State.unsold_steps ht ho' queue offer
  case won r d quantity c v hj => exact State.win_steps ht hj
  case deskAssigned r d buyer _ _ _ _ =>
    exact State.rostrum_change_steps (r := r) (f := fun x => { x with desks := x.desks.set d (some buyer) })
      (fun h => ⟨(hs h).1 r, (hs h).2⟩) rfl (.inl rfl)
  case deskReleased r d buyer _ =>
    exact State.rostrum_change_steps (r := r) (f := fun x => { x with desks := x.desks.set d none })
      (fun h => ⟨(hs h).1 r, (hs h).2⟩) rfl (.inl rfl)
  all_goals exact State.steps_of_same (by simp) (by simp) (by simp) (by simp)

/-- Outside trading nothing comes into flight, and trading ends with nothing in flight. -/
theorem Change.still {s t : State} (h : Change s t) (hsteps : s.links.Steps true s.trading t.links) (hs : s.Still) : t.Still := by
  have hkeep : s.trading = false → (∀ r, (t.rostrum r).offer = none) ∧ ∀ i, (t.lane i).weighing = none := fun hidle => by
    have hold : s.links.Idle := State.links_idle_iff.mpr (hs hidle)
    exact State.links_idle_iff.mp (Links.Steps.idle (hidle ▸ hsteps) hold)
  intro ht
  cases hold : s.trading with
  | false => exact hkeep hold
  | true =>
    cases h
    case supply f _ _ still =>
      obtain ⟨hoffers, hweighings, -⟩ := (still ht).resolve_left (by rw [hold]; decide)
      exact ⟨hoffers, hweighings⟩
    all_goals
      refine absurd ?_ (Bool.eq_false_iff.mp ht)
      rw [← hold]
      simp [State.trading]

/-- Every elementary change keeps the lots, queues, offers and pending weighings linked (R49). -/
theorem Change.linked {s t : State} (h : Change s t) (hr : ∀ r, (s.rostrum r).Sound) (hs : s.Linked) : t.Linked := by
  have hsteps : s.links.Steps true s.trading t.links := h.steps hs.ordered hs.tied fun _ => ⟨hr, hs.still⟩
  have hpresent : s.trading = true → (!s.supply.absent) = true := fun ht => by
    simpa using (Supply.trading_eq_true_iff.mp ht).1
  refine State.linked_of_links (h.ordered hs.ordered hs.tied) (hsteps.tied hs.tied) ?_ (h.still hsteps hs.still)
  rw [h.absent]
  exact hsteps.whole hpresent hs.tied hs.whole

end Sys2Proof.Machine
end

section
/-! PROOF. RECORDS CLEAR, the loss of the main supply, the power-on and every step keep the lots and the queues linked (R49, R165). -/

namespace Sys2Proof.Machine

namespace Links

variable {L : Links}

theorem eq_of {L' : Links} (lot : ∀ k, L'.lot k = L.lot k) (queue : ∀ r, L'.queue r = L.queue r) (offer : ∀ r, L'.offer r = L.offer r)
    (weighing : ∀ i, L'.weighing i = L.weighing i) : L' = L := by
  cases L
  cases L'
  exact Links.mk.injEq .. ▸ ⟨funext lot, funext queue, funext offer, funext weighing⟩

/-- Nothing is linked. -/
structure Empty (L : Links) : Prop where
  lot : ∀ k, L.lot k = none
  queue : ∀ r, L.queue r = []
  idle : L.Idle

theorem Empty.tied (h : L.Empty) : L.Tied := by
  obtain ⟨lot, queue, offer, weighing⟩ := h
  constructor <;> simp [lot, queue, offer, weighing]

theorem Empty.whole (h : L.Empty) (present : Bool) : L.Whole present := by
  obtain ⟨lot, queue, offer, weighing⟩ := h
  constructor <;> simp [lot]

/-- Without the main supply the queues alone have to be whole. -/
theorem Whole.absent {present : Bool} (h : L.Whole present) : L.Whole false := by
  obtain ⟨inQueue, offered, one, -⟩ := h
  refine ⟨inQueue, fun k p hp hs => ?_, one, nofun⟩
  obtain ⟨r, hr, -⟩ := offered k p hp hs
  exact ⟨r, hr, nofun⟩

/-- With no lot on a clock and no pending part, nothing has to be on offer or weighed. -/
theorem Whole.calm (h : L.Whole false) (hclock : ∀ k p, L.lot k = some p → p.state ≠ .onClock)
    (hpending : ∀ k p, L.lot k = some p → p.pending = none) (present : Bool) : L.Whole present where
  inQueue := h.inQueue
  offered k p hp hs := absurd hs (hclock k p hp)
  one := h.one
  weighed _ k p x hp hx := by
    rw [hpending k p hp] at hx
    cases hx

/-- The links without the pending parts. -/
def unpended (L : Links) : Links := { L with lot := fun k => (L.lot k).map fun p => { p with pending := none } }

theorem unpended_lot {k : Key} {p : Phase} (h : L.lot k = some p) : L.unpended.lot k = some { p with pending := none } := by
  show (L.lot k).map _ = _
  rw [h]
  rfl

theorem exists_of_unpended {k : Key} {p : Phase} (h : L.unpended.lot k = some p) :
    ∃ q, L.lot k = some q ∧ p = { q with pending := none } := by
  obtain ⟨q, hq, rfl⟩ := Option.map_eq_some_iff.mp h
  exact ⟨q, hq, rfl⟩

theorem Tied.unpended (h : L.Tied) (hi : L.Idle) : L.unpended.Tied where
  topmost a p ha b q hb hn hlt := by
    obtain ⟨p', ha', rfl⟩ := exists_of_unpended ha
    obtain ⟨q', hb', rfl⟩ := exists_of_unpended hb
    exact h.topmost a p' ha' b q' hb' hn hlt
  founded a p ha := by
    obtain ⟨p', ha', rfl⟩ := exists_of_unpended ha
    obtain ⟨q, hq⟩ := h.founded a p' ha'
    exact ⟨_, unpended_lot hq⟩
  nodup := h.nodup
  queued r k hk := by
    obtain ⟨p, hp, hs, hr⟩ := h.queued r k hk
    exact ⟨_, unpended_lot hp, hs, hr⟩
  onClock r k hk := by
    obtain ⟨p, hp, hs, hr⟩ := h.onClock r k hk
    exact ⟨_, unpended_lot hp, hs, hr⟩
  pending i k c hk := by
    rw [show L.unpended.weighing i = none from hi.2 i] at hk
    cases hk
  opened k p x hp hx := by
    obtain ⟨p', hp', rfl⟩ := exists_of_unpended hp
    cases hx

theorem Whole.unpended (h : L.Whole false) : L.unpended.Whole false where
  inQueue k p hp hs := by
    obtain ⟨p', hp', rfl⟩ := exists_of_unpended hp
    exact h.inQueue k p' hp' hs
  offered k p hp hs := by
    obtain ⟨p', hp', rfl⟩ := exists_of_unpended hp
    exact h.offered k p' hp' hs
  one a p b q ha hb hs hs' hr := by
    obtain ⟨p', ha', rfl⟩ := exists_of_unpended ha
    obtain ⟨q', hb', rfl⟩ := exists_of_unpended hb
    exact h.one a p' b q' ha' hb' hs hs' hr
  weighed := nofun

end Links

theorem LotTable.Ordered.nodup {T : LotTable} (h : T.Ordered) : (T.lots.map (·.key)).Nodup :=
  List.pairwise_map.mpr (h.imp fun {a b} hab heq => by rw [heq, Key.before_irrefl] at hab; cases hab)

namespace State

variable {s t : State}

/-! ## Cleared records -/

theorem linked_of_empty (hlots : s.lotTable.lots = []) (h : s.links.Empty) : s.Linked :=
  linked_of_links (by rw [LotTable.Ordered, hlots]; exact .nil) h.tied (h.whole _) fun _ => links_idle_iff.mp h.idle

theorem links_lot_of_nil (h : s.lotTable.lots = []) (k : Key) : s.links.lot k = none := by simp [links_lot_eq, lot?, h]

theorem clearRecords_linked (hfree : s.inFlight = false) (hr : ∀ r, (s.rostrum r).Sound) : s.clearRecords.Linked := by
  obtain ⟨hidle, -, hweighings, -⟩ := s.inFlight_eq_false_iff.mp hfree
  have hlots : s.clearRecords.lotTable.lots = [] := by simp [LotTable.empty]
  refine linked_of_empty hlots ⟨links_lot_of_nil hlots, fun r => ?_, links_idle_iff.mpr ⟨fun r => ?_, fun i => ?_⟩⟩
  · rw [links_queue_eq, clearRecords_rostrum]
    rfl
  · rw [clearRecords_rostrum]
    show (s.rostrum r).offer = none
    have hoffer := (hr r).1
    rw [hidle r] at hoffer
    simpa using hoffer
  · rw [clearRecords_lane]
    exact hweighings i

theorem coldClear_linked (s : State) (cause : RestartCause) : (s.coldClear.powered cause).Linked := by
  have hlots : (s.coldClear.powered cause).lotTable.lots = [] := rfl
  refine linked_of_empty hlots ⟨links_lot_of_nil hlots, fun r => ?_, links_idle_iff.mpr ⟨fun r => ?_, fun i => ?_⟩⟩
  · rw [links_queue_eq, rostrum_powered, coldClear_rostrum]
    rfl
  · rw [rostrum_powered, coldClear_rostrum]
    rfl
  · rw [lane_powered, coldClear_lane]
    rfl

/-! ## The loss of the main supply (R165) -/

theorem loseVolatile_lotTable (s : State) : s.loseVolatile.lotTable = s.lotTable := by simp [loseVolatile, all8, all4]

theorem loseVolatile_steps (s : State) (trading : Bool) : s.links.Steps false trading s.loseVolatile.links := by
  refine .one (.lost (links_lot_congr (by rw [loseVolatile_lotTable])) (fun r => ?_) (fun r => .inr ⟨rfl, ?_⟩)
    fun i => .inr ⟨rfl, ?_⟩)
  · rw [links_queue_eq, loseVolatile_rostrum]
    rfl
  · rw [links_offer_eq, offeredKey, loseVolatile_rostrum]
    rfl
  · rw [links_weighing_eq, loseVolatile_lane]
    rfl

theorem loseVolatile_linked (h : s.Linked) : s.loseVolatile.Linked := by
  have hpresent : (!s.loseVolatile.supply.absent) = false := by simp [Supply.lose]
  have hqueue : ∀ r, s.loseVolatile.links.queue r = s.links.queue r := fun r => by
    rw [links_queue_eq, loseVolatile_rostrum]
    rfl
  have hlot : ∀ k, s.loseVolatile.links.lot k = s.links.lot k := links_lot_congr (by rw [loseVolatile_lotTable])
  refine linked_of_links (lots_ordered h.ordered (by rw [loseVolatile_lotTable])) ((s.loseVolatile_steps false).tied h.tied) ?_
    fun _ => ⟨fun r => ?_, fun i => ?_⟩
  · rw [hpresent]
    obtain ⟨inQueue, offered, one, -⟩ := h.whole.absent
    exact ⟨by simpa only [hlot, hqueue] using inQueue, fun k p hp hs => (offered k p (hlot k ▸ hp) hs).imp fun r hr => ⟨hr.1, nofun⟩,
      by simpa only [hlot] using one, nofun⟩
  · rw [loseVolatile_rostrum]
    rfl
  · rw [loseVolatile_lane]
    rfl

/-! ## The retained records put right (R47, R76) -/

theorem links_foldl_dropPending (s : State) : (s.lotTable.lots.foldl dropPending s).links = s.links.unpended := by
  have hrostrum : ∀ r, (s.lotTable.lots.foldl dropPending s).rostrum r = s.rostrum r := fun r =>
    foldl_keeps (g := (·.rostrum r)) (fun s l => rostrum_congr (by simp) (by simp) r) _ _
  have hlane : ∀ i, (s.lotTable.lots.foldl dropPending s).lane i = s.lane i := fun i =>
    foldl_keeps (g := (·.lane i)) (fun s l => lane_congr (by simp) i) _ _
  have hlot : ∀ k, (s.lotTable.lots.foldl dropPending s).links.lot k = s.links.unpended.lot k := fun k => by
    have hlots : (s.lotTable.lots.foldl dropPending s).lotTable.lots =
        s.lotTable.lots.map (Lot.settled (s.lotTable.lots.map (·.key)) [] []) := by
      rw [lotTable_foldl_dropPending, settled_pendingKeys]
      rfl
    rw [links_lot_eq, lot?_of_map (fun l => l.settled_key ..) hlots]
    show _ = ((s.lot? k).map Lot.phase).map _
    cases hl : s.lot? k with
    | none => rfl
    | some l =>
      have hmem : l.key ∈ s.lotTable.lots.map (·.key) := List.mem_map_of_mem (lot?_mem hl)
      rw [Option.map_some, Option.map_some, Option.map_some, Option.map_some, Lot.settled, if_pos hmem]
      simp [Lot.phase]
  refine Links.eq_of hlot (fun r => links_queue_of (hrostrum r)) (fun r => offeredKey_congr (hrostrum r)) fun i => ?_
  rw [links_weighing_eq, hlane]
  rfl

/-- One lot found on a clock goes back to its queue (R76). -/
theorem putBackFound_steps (ht : s.links.Tied) (hi : s.links.Idle) {l : Lot}
    (hl : l.state = .onClock → ∃ p, s.links.lot l.key = some p ∧ p.state = .onClock ∧ p.rostrum = l.rostrum) :
    s.links.Steps true false (s.putBackFound l).links := by
  unfold putBackFound
  split
  · next hs =>
    split
    · exact .refl _
    · next r hr =>
      obtain ⟨p, hp, hclock, hrostrum⟩ := hl hs
      obtain ⟨lot, hlot, rfl⟩ := links_lot_eq_some_iff.mp hp
      have hout : l.key ∉ s.links.queue r := fun hk => by
        obtain ⟨q, hq, hqueued, -⟩ := ht.queued r l.key hk
        obtain rfl := Option.some.inj (hp.symm.trans hq)
        exact absurd (hclock.symm.trans hqueued) (by decide)
      have hsteps : s.links.Steps true false (s.links.withState l.key lot.phase .unsold) :=
        ht.off_clock (s.links.restated_withState ..) hp hclock (by decide) (by decide)
      refine hsteps.trans (Links.HeadTaken.steps (r := r) (k := l.key) (p := { lot.phase with state := .unsold }) ?_ (hsteps.tied ht)
        (if_pos rfl) (.inr rfl))
      refine headTaken_of (u := s.modLot l.key fun x => { x with state := .queued }) hout (fun m => ?_)
        (fun q => links_queue_of (rostrum_modLot_frame ..)) rfl (by rw [rostrum_headInsert]) (fun q hq => by rw [rostrum_headInsert_ne _ hq])
        (fun q => ?_) (links_weighing_congr (by simp))
      · rw [links_lot_modLot (s := s) (k := l.key) (f := fun x => { x with state := .queued }) rfl (fun _ => rfl) hlot]
        by_cases hm : m = l.key
        · simp [hm, Lot.phase, show lot.rostrum = some r from hrostrum.trans hr]
        · simp [hm, Links.withState]
      · have hnone : (s.links.withState l.key lot.phase .unsold).offer q = none := by simp [Links.withState, hi.1 q]
        rw [hnone, links_offer_eq, offeredKey]
        by_cases hq : q = r
        · rw [hq, rostrum_headInsert, Rostrum.takes_offer, rostrum_modLot_frame]
          exact hi.1 r
        · rw [rostrum_headInsert_ne _ hq, rostrum_modLot_frame]
          exact hi.1 q
  · exact .refl _

/-- A lot on a clock stays there while another goes back. -/
theorem putBackFound_onClock (ht : s.links.Tied) {l : Lot} {k : Key} (hne : k ≠ l.key) {p : Phase} (hp : s.links.lot k = some p)
    (hs : p.state = .onClock) : (s.putBackFound l).links.lot k = some p := by
  unfold putBackFound
  split
  · split
    · exact hp
    · next r _ =>
      obtain ⟨x, hx, -⟩ := links_lot_eq_some_iff.mp hp
      have hmod : (s.modLot l.key fun x => { x with state := .queued }).links.lot k = some p := by
        rw [links_lot_eq, lot?_modLot s l.key k (fun x => { x with state := .queued }) fun _ => rfl, hx]
        rw [links_lot hx] at hp
        simp only [Option.map_some, if_neg (show x.key ≠ l.key from (lot?_key hx).symm ▸ hne)]
        exact hp
      have htail : (s.modLot l.key fun x => { x with state := .queued }).links.tail r ≠ some k := fun htail => by
        unfold Links.tail at htail
        split at htail
        · have hmem : k ∈ s.links.queue r := by
            rw [links_queue_eq, ← rostrum_modLot_frame s l.key (fun x => { x with state := .queued })]
            exact List.mem_of_getLast? htail
          obtain ⟨q, hq, hqueued, -⟩ := ht.queued r k hmem
          obtain rfl := Option.some.inj (hp.symm.trans hq)
          exact absurd (hs.symm.trans hqueued) (by decide)
        · cases htail
      rw [links_lot_headInsert, if_neg htail, hmod]
  · exact hp

theorem foldl_putBackFound_steps {ls : List Lot} (hkeys : (ls.map (·.key)).Nodup) (ht : s.links.Tied) (hi : s.links.Idle)
    (hls : ∀ l ∈ ls, l.state = .onClock → ∃ p, s.links.lot l.key = some p ∧ p.state = .onClock ∧ p.rostrum = l.rostrum) :
    s.links.Steps true false (ls.foldl putBackFound s).links := by
  induction ls generalizing s with
  | nil => exact .refl _
  | cons l ls ih =>
    obtain ⟨hout, hnodup⟩ := List.nodup_cons.mp hkeys
    have hfirst := putBackFound_steps ht hi (hls l List.mem_cons_self)
    refine hfirst.trans (ih hnodup (hfirst.tied ht) (hfirst.idle hi) fun x hx hs => ?_)
    obtain ⟨p, hp, hclock, hr⟩ := hls x (List.mem_cons_of_mem _ hx) hs
    have hne : x.key ≠ l.key := fun heq => hout (List.mem_map.mpr ⟨x, hx, heq⟩)
    exact ⟨p, putBackFound_onClock ht hne hp hclock, hclock, hr⟩

/-- The retained records of a dark part: every lot is settled, and the links are in order. -/
theorem warmReconcile_steps (h : s.Linked) (hi : s.links.Idle) : s.links.unpended.Steps true false s.warmReconcile.links := by
  have hlinks := s.links_foldl_dropPending
  have hwarm : s.warmReconcile.links = s.reconcileLots.links := by
    have hrostrum : ∀ r, s.warmReconcile.rostrum r = s.reconcileLots.rostrum r := fun r =>
      rostrum_congr (by simp [warmReconcile]) (by simp [warmReconcile]) r
    exact Links.eq_of (links_lot_congr (by simp [warmReconcile])) (fun r => links_queue_of (hrostrum r))
      (fun r => offeredKey_congr (hrostrum r)) (links_weighing_congr (by simp))
  rw [hwarm, ← hlinks]
  refine foldl_putBackFound_steps h.ordered.nodup (hlinks ▸ h.tied.unpended hi) (hlinks ▸ hi) fun l hl hs => ?_
  exact ⟨_, by rw [hlinks, Links.unpended_lot (links_lot (lot?_of_mem h.ordered hl))], hs, rfl⟩

theorem warmReconcile_linked (h : s.Linked) (ha : s.supply.absent = true) (cause : RestartCause) :
    (s.warmReconcile.powered cause).Linked := by
  have hi : s.links.Idle := links_idle_iff.mpr (h.still (Supply.trading_eq_false_iff.mpr (.inl ha)))
  have hsteps := warmReconcile_steps h hi
  have hlots := s.warmReconcile_reconciled.lots h
  have hsettled : ∀ k p, s.warmReconcile.links.lot k = some p → p.state ≠ .onClock ∧ p.pending = none := by
    intro k p hp
    obtain ⟨x, hx, rfl⟩ := links_lot_eq_some_iff.mp hp
    have hmem := lot?_mem hx
    rw [hlots] at hmem
    obtain ⟨l, hl, rfl⟩ := List.mem_map.mp hmem
    refine ⟨fun hs => ?_, if_pos (List.mem_map_of_mem hl)⟩
    by_cases hback : l.key ∈ bothKeys s.foundOnClock
    · simp [Lot.phase, Lot.settled, hback] at hs
    · have hclock : l.state = .onClock := by
        simp only [Lot.phase, Lot.settled, if_neg hback] at hs
        split at hs
        · cases hs
        · exact hs
      obtain ⟨r, hr, -⟩ := h.offered l hl hclock
      exact hback (mem_bothKeys.mpr ⟨r, h.foundOnClock_eq_some_iff.mpr ⟨l, hl, decide_eq_true ⟨hclock, hr⟩, rfl⟩⟩)
  have htied := h.tied.unpended hi
  have hwhole : s.links.unpended.Whole false := h.whole.absent.unpended
  refine linked_of_links (s := s.warmReconcile.powered cause) ?_ (hsteps.tied htied)
    ((hsteps.whole nofun htied hwhole).calm (fun k p hp => (hsettled k p hp).1) (fun k p hp => (hsettled k p hp).2) _)
    fun _ => links_idle_iff.mp (hsteps.idle hi)
  exact map_ordered h.ordered (fun l => l.settled_key ..) (congrArg LotTable.lots hlots)

/-! ## Every step -/

/-- One millisecond touches no link. -/
theorem tick_linked (h : s.Linked) : s.tick.Linked := by
  have hlots : s.tick.lotTable = s.lotTable := by simp
  have hlinks : s.tick.links = s.links := by
    refine Links.eq_of (links_lot_congr (by rw [hlots])) (fun r => ?_) (fun r => ?_) fun i => ?_
    · rw [links_queue_eq, tick_rostrum]
      rfl
    · rw [links_offer_eq, offeredKey, tick_rostrum]
      rfl
    · rw [links_weighing_eq, links_weighing_eq, tick_lane, Lane.tick, Option.map_map]
      rfl
  have htrading : s.tick.trading = s.trading := by
    have hsupply : s.tick.supply = s.supply.tick := by simp
    rw [trading, hsupply]
    rfl
  refine linked_of_links (lots_ordered h.ordered (by rw [hlots])) (hlinks ▸ h.tied) (by simpa [hlinks, Supply.tick] using h.whole)
    fun ht => ?_
  rw [← links_idle_iff, hlinks]
  exact links_idle_iff.mpr (h.still (htrading ▸ ht))

end State

/-- A property that every command keeps, by its elementary changes, RECORDS CLEAR, the loss of the main supply and a power-on, where a
second property holds. -/
structure KeptGiven (P Q : State → Prop) : Prop where
  change : ∀ s t, Change s t → P s → Q s → Q t
  cleared : ∀ s : State, s.inFlight = false → P s → Q s → Q s.clearRecords
  lost : ∀ s : State, P s → Q s → Q s.loseVolatile
  cold : ∀ s : State, P s → Q s → Q (s.coldClear.powered .powerOnCold)
  warm : ∀ s : State, s.supply.absent = true → P s → Q s → Q (s.warmReconcile.powered .powerOnWarm)

namespace KeptGiven

variable {P Q R : State → Prop}

/-- A property kept on its own is kept together with one that it carries. -/
theorem and (hP : KeptGiven (fun _ => True) P) (hQ : KeptGiven P Q) : KeptGiven (fun _ => True) fun s => P s ∧ Q s where
  change s t h _ hs := ⟨hP.change s t h trivial hs.1, hQ.change s t h hs.1 hs.2⟩
  cleared s h _ hs := ⟨hP.cleared s h trivial hs.1, hQ.cleared s h hs.1 hs.2⟩
  lost s _ hs := ⟨hP.lost s trivial hs.1, hQ.lost s hs.1 hs.2⟩
  cold s _ hs := ⟨hP.cold s trivial hs.1, hQ.cold s hs.1 hs.2⟩
  warm s h _ hs := ⟨hP.warm s h trivial hs.1, hQ.warm s h hs.1 hs.2⟩

theorem mono (hP : KeptGiven P Q) (h : ∀ s, R s → P s) : KeptGiven R Q where
  change s t hc hs := hP.change s t hc (h s hs)
  cleared s hf hs := hP.cleared s hf (h s hs)
  lost s hs := hP.lost s (h s hs)
  cold s hs := hP.cold s (h s hs)
  warm s ha hs := hP.warm s ha (h s hs)

theorem exec (hP : KeptGiven (fun _ => True) P) {c : Instr} {s t : State} (h : Machine.exec c s = .next t) (hs : P s) : P t :=
  exec_keeps (fun s t h => hP.change s t h trivial) (fun s _ h => hP.cleared s h trivial) (fun s _ => hP.lost s trivial)
    (fun s _ => hP.cold s trivial) (fun s h => hP.warm s h trivial) h hs

/-- A property that every command and one millisecond keep is kept by every step. -/
theorem step (hP : KeptGiven (fun _ => True) P) (hqueue : ∀ (s : State) (q : List Instr), P s → P { s with pending := q })
    (htick : ∀ s : State, P s → P s.tick) {s t : State} (h : Machine.step s = .next t) (hs : P s) : P t :=
  step_keeps hqueue htick (fun _ _ _ h => hP.exec h) h hs

end KeptGiven

theorem rostra_sound_kept : KeptGiven (fun _ => True) fun s => ∀ r, (s.rostrum r).Sound where
  change s t h _ := h.rostra_sound
  cleared s _ _ hs r := by
    rw [State.clearRecords_rostrum]
    exact (hs r).clear
  lost s _ hs r := by
    rw [State.loseVolatile_rostrum]
    exact (hs r).lose
  cold s _ _ r := by
    rw [State.rostrum_powered, State.coldClear_rostrum]
    exact Rostrum.sound_fresh (by simp) _
  warm s _ _ hs r := by
    rw [State.rostrum_powered]
    exact State.warmReconcile_rostra_sound hs r

theorem tallied_kept : KeptGiven (fun _ => True) fun s => s.accountTable.Tallied where
  change s t h _ := h.tallied
  cleared s _ _ _ := by simpa using AccountTable.tallied_empty
  lost s _ hs := by simpa using hs.withHall _ none
  cold _ _ _ := AccountTable.tallied_empty
  warm s _ _ hs := by simpa using State.warmReconcile_tallied hs

theorem linked_kept : KeptGiven (fun s => ∀ r, (s.rostrum r).Sound) State.Linked where
  change _ _ h := h.linked
  cleared _ hfree hr _ := State.clearRecords_linked hfree hr
  lost _ _ hs := State.loseVolatile_linked hs
  cold s _ _ := s.coldClear_linked _
  warm _ ha _ hs := State.warmReconcile_linked hs ha _

/-- The rostra are sound and the lots are linked. -/
def State.InTrade (s : State) : Prop := (∀ r, (s.rostrum r).Sound) ∧ s.Linked

theorem inTrade_kept : KeptGiven (fun _ => True) State.InTrade := rostra_sound_kept.and linked_kept

theorem State.tick_inTrade {s : State} (h : s.InTrade) : s.tick.InTrade := ⟨fun r => s.tick_rostrum r ▸ (h.1 r).tick, tick_linked h.2⟩

theorem State.inTrade_withPending {s : State} (h : s.InTrade) (q : List Instr) : State.InTrade { s with pending := q } :=
  ⟨fun r => by cases r <;> [exact h.1 .a; exact h.1 .b], linked_of_links h.2.ordered h.2.tied h.2.whole h.2.still⟩

end Sys2Proof.Machine
end

section
/-! PROOF. The desk counts and the live-lot counts of the accounts (R59, R112). -/

namespace Sys2Proof.Machine

/-! ## What an operation keeps of the lots -/

/-- What a lot keeps from its opening to its end. -/
def Lot.fixed (l : Lot) : Key × Nat × Fin 8 := (l.key, l.boat, l.crateType)

/-- The table keeps its lots, whatever their records become. -/
def State.SameLots (s t : State) : Prop := t.lotTable.lots.map Lot.fixed = s.lotTable.lots.map Lot.fixed

namespace State

variable {s t u : State}

theorem SameLots.of_eq (h : t.lotTable.lots = s.lotTable.lots) : s.SameLots t := by rw [SameLots, h]

theorem SameLots.of_map {f : Lot → Lot} (h : t.lotTable.lots = s.lotTable.lots.map f) (hf : ∀ l, (f l).fixed = l.fixed) : s.SameLots t := by
  rw [SameLots, h, List.map_map]
  exact List.map_congr_left fun l _ => hf l

theorem SameLots.trans (h : s.SameLots t) (h' : t.SameLots u) : s.SameLots u := Eq.trans h' h

theorem SameLots.modLot (s : State) (k : Key) {f : Lot → Lot} (h : t.lotTable = (s.modLot k f).lotTable) (hf : ∀ l, (f l).fixed = l.fixed) :
    s.SameLots t :=
  .of_map (f := fun l => if l.key = k then f l else l) (by rw [h]; rfl) fun l => by split <;> [exact hf l; rfl]

theorem SameLots.headInsert (s : State) (r : RostrumId) (k : Key) : s.SameLots (s.headInsert r k) :=
  .of_map (f := Lot.displacedBy ((s.rostrum r).displaces (some k))) (by rw [lotTable_headInsert]; rfl) fun l => by
    unfold Lot.displacedBy
    split <;> rfl

theorem SameLots.putBack (s : State) (r : RostrumId) : s.SameLots (s.putBack r) := by
  unfold State.putBack
  split
  · exact .of_eq rfl
  · next o _ =>
    exact (SameLots.modLot s o.key (t := s.modLot o.key fun l => { l with state := .queued }) rfl fun _ => rfl).trans (.headInsert _ _ _)

theorem SameLots.startOffer (s : State) (r : RostrumId) : s.SameLots (s.startOffer r) := by
  cases hq : (s.rostrum r).queue with
  | nil => exact .of_eq (by rw [startOffer_nil hq])
  | cons k rest => exact .modLot s k (f := fun l => { l with state := .onClock }) (by simp [startOffer_cons hq]) fun _ => rfl

theorem SameLots.endWeighing (s : State) (i : Fin 8) {result : WeighResult} (hr : result ≠ .taken) (gross : Option Int) :
    s.SameLots (s.endWeighing i result gross none none) := by
  cases hp : (s.lane i).weighing with
  | none => exact .of_eq (by simp [State.endWeighing, hp])
  | some p => exact .modLot s p.key (endWeighing_blocks hp hr gross none none).1 fun _ => rfl

theorem SameLots.unqueue (s : State) (lot : Lot) : s.SameLots (s.unqueue lot) := by
  unfold State.unqueue
  cases lot.rostrum with
  | none => exact .of_eq rfl
  | some r => exact .of_eq (by simp)

end State

end Sys2Proof.Machine
end

section
/-! PROOF. Every step keeps the counts of the account records (R59, R112), and the lots and the queues linked (R49). -/

namespace Sys2Proof.Machine

/-- What the counts speak of in an account record. -/
def Account.counts (a : Account) : Nat × AccountKind × Nat × Nat := (a.number, a.kind, a.deskCount, a.liveLots)

/-- An account record with another live-lot count. -/
def Account.countLots (f : Nat → Nat) (a : Account) : Account := { a with liveLots := f a.liveLots }

/-- An account record with another desk count. -/
def Account.countDesks (f : Nat → Nat) (a : Account) : Account := { a with deskCount := f a.deskCount }

theorem map_field_onNumber {β : Type} (φ : Account → β) (n : Nat) {f : Account → Account} (hf : ∀ a, φ (f a) = φ a) (xs : List Account) :
    (xs.map (·.onNumber n f)).map φ = xs.map φ := by
  rw [List.map_map]
  exact List.map_congr_left fun a _ => a.onNumber_field φ n hf

/-- Records that agree in what matters still agree after the same change. -/
theorem map_onNumber_congr {β : Type} {φ : Account → β} {f g : Account → Account} (hnumber : ∀ {a b}, φ a = φ b → a.number = b.number)
    (hfg : ∀ {a b}, φ a = φ b → φ (f a) = φ (g b)) {xs ys : List Account} (h : xs.map φ = ys.map φ) (n : Nat) :
    (xs.map (·.onNumber n f)).map φ = (ys.map (·.onNumber n g)).map φ := by
  induction xs generalizing ys with
  | nil =>
    obtain rfl := List.map_eq_nil_iff.mp h.symm
    rfl
  | cons x xs ih =>
    cases ys with
    | nil => cases h
    | cons y ys =>
      simp only [List.map_cons, List.cons.injEq] at h
      have hhead : φ (x.onNumber n f) = φ (y.onNumber n g) := by
        by_cases hn : x.number = n
        · rw [Account.onNumber_self hn, Account.onNumber_self ((hnumber h.1).symm.trans hn)]
          exact hfg h.1
        · rw [Account.onNumber_ne hn, Account.onNumber_ne fun heq => hn ((hnumber h.1).trans heq)]
          exact h.1
      simp only [List.map_cons, hhead, ih h.2]

namespace State

variable {s t : State}

/-- The number of living lots of a boat. -/
def lotsOf (s : State) (boat : Nat) : Nat := s.lotTable.lots.countP (·.boat == boat)

theorem SameLots.lotsOf_eq (h : s.SameLots t) (boat : Nat) : t.lotsOf boat = s.lotsOf boat := by
  have hcount : ∀ u : State, u.lotsOf boat = (u.lotTable.lots.map Lot.fixed).countP (·.2.1 == boat) := fun u => by
    rw [List.countP_map]
    rfl
  rw [hcount, hcount, h]

theorem SameLots.exists_boat (h : s.SameLots t) {l : Lot} (hl : l ∈ t.lotTable.lots) : ∃ m ∈ s.lotTable.lots, m.boat = l.boat := by
  have hmem : l.fixed ∈ s.lotTable.lots.map Lot.fixed := h ▸ List.mem_map_of_mem hl
  obtain ⟨m, hm, heq⟩ := List.mem_map.mp hmem
  exact ⟨m, hm, congrArg (·.2.1) heq⟩

/-- The kind of the account of a number. -/
def kindOf (s : State) (n : Nat) : Option AccountKind := (s.account? n).map (·.kind)

theorem exists_kind_iff {n : Nat} {k : AccountKind} : (∃ a ∈ s.account? n, a.kind = k) ↔ s.kindOf n = some k := by
  simp [kindOf, Option.map_eq_some_iff]

theorem kindOf_congr (h : t.accounts.map Account.counts = s.accounts.map Account.counts) (n : Nat) : t.kindOf n = s.kindOf n := by
  have hfind : ∀ u : State, u.kindOf n = ((u.accounts.map Account.counts).find? (·.1 == n)).map (·.2.1) := fun u => by
    rw [List.find?_map, Option.map_map]
    rfl
  rw [hfind, hfind, h]

/-- A change of the accounts that keeps numbers and kinds, with lots and desks that agree with the new counts. -/
theorem Counted.of_map {g : Account → Account} (haccounts : t.accounts.map Account.counts = (s.accounts.map g).map Account.counts)
    (hnumber : ∀ a, (g a).number = a.number) (hkind : ∀ a, (g a).kind = a.kind)
    (hdesks : ∀ a ∈ s.accounts, (g a).deskCount = t.desksOf a.number) (hlots : ∀ a ∈ s.accounts, (g a).liveLots = t.lotsOf a.number)
    (hboats : ∀ l ∈ t.lotTable.lots, s.kindOf l.boat = some .boat)
    (hbuyers : ∀ r d, ∀ n ∈ (t.rostrum r).desk d, s.kindOf n = some .buyer) : t.Counted := by
  have hkinds : ∀ n, t.kindOf n = s.kindOf n := fun n => by
    let u : State := { s with accountTable := { s.accountTable with accounts := s.accounts.map g } }
    have hu : u.kindOf n = s.kindOf n := by
      simp only [u, kindOf, account?, List.find?_map, Option.map_map, Function.comp_def, hnumber, hkind]
    exact (kindOf_congr (s := u) haccounts n).trans hu
  have hall : ∀ a ∈ t.accounts, ∃ b ∈ s.accounts, a.number = b.number ∧ a.deskCount = (g b).deskCount ∧ a.liveLots = (g b).liveLots := by
    intro a ha
    have hmem : a.counts ∈ (s.accounts.map g).map Account.counts := haccounts ▸ List.mem_map_of_mem ha
    obtain ⟨x, hx, heq⟩ := List.mem_map.mp hmem
    obtain ⟨b, hb, rfl⟩ := List.mem_map.mp hx
    simp only [Account.counts, Prod.mk.injEq] at heq
    exact ⟨b, hb, heq.1.symm.trans (hnumber b), heq.2.2.1.symm, heq.2.2.2.symm⟩
  refine ⟨fun a ha => ?_, fun a ha => ?_, fun l hl => exists_kind_iff.mpr ((hkinds _).trans (hboats l hl)),
    fun r d n hn => exists_kind_iff.mpr ((hkinds n).trans (hbuyers r d n hn))⟩
  · obtain ⟨b, hb, hnum, hdesk, -⟩ := hall a ha
    rw [hdesk, hnum, hdesks b hb]
  · obtain ⟨b, hb, hnum, -, hlive⟩ := hall a ha
    rw [hlive, hnum, hlots b hb]
    rfl

theorem desksOf_congr (h : ∀ r, (t.rostrum r).desks = (s.rostrum r).desks) (n : Nat) : t.desksOf n = s.desksOf n := by
  simp only [desksOf, show t.rostrumA.desks = s.rostrumA.desks from h .a, show t.rostrumB.desks = s.rostrumB.desks from h .b]

theorem desk_congr (h : ∀ r, (t.rostrum r).desks = (s.rostrum r).desks) (r : RostrumId) (d : Fin 96) :
    (t.rostrum r).desk d = (s.rostrum r).desk d := by rw [Rostrum.desk, Rostrum.desk, h]

theorem Counted.buyers_of_desks (h : s.Counted) (hd : ∀ r, (t.rostrum r).desks = (s.rostrum r).desks) (r : RostrumId) (d : Fin 96) (n : Nat)
    (hn : n ∈ (t.rostrum r).desk d) : s.kindOf n = some .buyer := exists_kind_iff.mp (h.buyers r d n (desk_congr hd r d ▸ hn))

/-- Neither the counts nor the lots nor the desks change. -/
theorem Counted.same (h : s.Counted) (ha : t.accounts.map Account.counts = s.accounts.map Account.counts) (hl : s.SameLots t)
    (hd : ∀ r, (t.rostrum r).desks = (s.rostrum r).desks) : t.Counted :=
  .of_map (g := id) (by rw [ha, List.map_id]) (fun _ => rfl) (fun _ => rfl)
    (fun a ha => (h.desks a ha).trans (desksOf_congr hd _).symm) (fun a ha => (h.lots a ha).trans (hl.lotsOf_eq _).symm)
    (fun l hl' => by
      obtain ⟨m, hm, heq⟩ := hl.exists_boat hl'
      exact heq ▸ exists_kind_iff.mp (h.boats m hm))
    (h.buyers_of_desks hd)

/-- The live-lot count of one boat follows its lots. -/
theorem Counted.of_lots (h : s.Counted) {boat : Nat} {f : Nat → Nat}
    (ha : t.accounts.map Account.counts =
      (s.accounts.map (·.onNumber boat (Account.countLots f))).map Account.counts)
    (hl : ∀ n, t.lotsOf n = if n = boat then f (s.lotsOf n) else s.lotsOf n)
    (hboats : ∀ l ∈ t.lotTable.lots, s.kindOf l.boat = some .boat) (hd : ∀ r, (t.rostrum r).desks = (s.rostrum r).desks) : t.Counted := by
  refine .of_map ha (Account.onNumber_number boat (f := Account.countLots f) fun _ => rfl)
    (Account.onNumber_field (f := Account.countLots f) (·.kind) boat fun _ => rfl)
    (fun a ha => ?_) (fun a ha => ?_) hboats (h.buyers_of_desks hd)
  · rw [a.onNumber_field (f := Account.countLots f) (·.deskCount) boat fun _ => rfl, h.desks a ha, desksOf_congr hd]
  · rw [hl]
    by_cases hn : a.number = boat
    · rw [Account.onNumber_self hn, if_pos hn]
      exact congrArg f (h.lots a ha)
    · rw [Account.onNumber_ne hn, if_neg hn]
      exact h.lots a ha

/-! ## Lots that come and go -/

theorem insertLot_perm (new : Lot) (ls : List Lot) : (insertLot new ls).Perm (new :: ls) := by
  induction ls with
  | nil => exact .refl _
  | cons l ls ih =>
    unfold insertLot
    split
    · exact .refl _
    · exact (ih.cons l).trans (.swap new l ls)

theorem lotsOf_insert (new : Lot) (h : t.lotTable.lots.map Lot.fixed = (insertLot new s.lotTable.lots).map Lot.fixed) (n : Nat) :
    t.lotsOf n = if n = new.boat then s.lotsOf n + 1 else s.lotsOf n := by
  have hinsert : t.lotsOf n = (new :: s.lotTable.lots).countP (·.boat == n) :=
    (SameLots.lotsOf_eq (s := { s with lotTable := { s.lotTable with lots := insertLot new s.lotTable.lots } }) h n).trans
      ((insertLot_perm new _).countP_eq _)
  rw [hinsert, List.countP_cons]
  by_cases hn : n = new.boat
  · simp [hn, lotsOf]
  · simp [hn, Ne.symm hn, lotsOf]

/-- A lot of the table stands in it once. -/
theorem removeLot_perm (ho : s.lotTable.Ordered) {lot : Lot} (hl : s.lot? lot.key = some lot) :
    s.lotTable.lots.Perm (lot :: s.lotTable.lots.filter (·.key != lot.key)) := by
  have hmem := lot?_mem hl
  have hfilter : s.lotTable.lots.filter (·.key != lot.key) = s.lotTable.lots.erase lot := by
    rw [List.Nodup.erase_eq_filter (List.Nodup.of_map _ ho.nodup)]
    refine List.filter_congr fun x hx => ?_
    by_cases hk : x.key = lot.key
    · simp [ho.eq_of_key hx hmem hk]
    · have hne : x ≠ lot := fun heq => hk (congrArg Lot.key heq)
      rw [bne_iff_ne.mpr hk, bne_iff_ne.mpr hne]
  rw [hfilter]
  exact List.perm_cons_erase hmem

theorem lotsOf_removeLot (ho : s.lotTable.Ordered) {lot : Lot} (hl : s.lot? lot.key = some lot) (n : Nat) :
    (s.removeLot lot.key).lotsOf n = if n = lot.boat then s.lotsOf n - 1 else s.lotsOf n := by
  have hcount : s.lotsOf n = (lot :: s.lotTable.lots.filter (·.key != lot.key)).countP (·.boat == n) := (removeLot_perm ho hl).countP_eq _
  rw [List.countP_cons] at hcount
  have hrest : (s.removeLot lot.key).lotsOf n = (s.lotTable.lots.filter (·.key != lot.key)).countP (·.boat == n) := rfl
  rw [hrest, hcount]
  by_cases hn : n = lot.boat
  · simp [hn]
  · simp [hn, Ne.symm hn]

theorem rostra_desks_congr (ha : t.rostrumA = s.rostrumA) (hb : t.rostrumB = s.rostrumB) (r : RostrumId) :
    (t.rostrum r).desks = (s.rostrum r).desks := congrArg Rostrum.desks (rostrum_congr ha hb r)

theorem openedLot_counted (h : s.Counted) (boat species : Nat) (ty : Fin 8) (hkind : s.kindOf boat = some .boat) :
    (s.openedLot boat species ty).Counted := by
  refine h.of_lots (boat := boat) (f := (· + 1)) rfl (lotsOf_insert (Lot.opened _ boat species ty) rfl) (fun l hl => ?_)
    (rostra_desks_congr (by simp) (by simp))
  rcases mem_insertLot.mp (show l ∈ insertLot _ s.lotTable.lots from hl) with rfl | hmem
  · exact hkind
  · exact exists_kind_iff.mp (h.boats l hmem)

theorem retire_counted (h : s.Counted) (ho : s.lotTable.Ordered) {lot : Lot} (hl : s.lot? lot.key = some lot) : (s.retire lot).Counted := by
  refine h.of_lots (boat := lot.boat) (f := (· - 1)) ?_ (fun n => ?_) (fun l hmem => ?_) (rostra_desks_congr (by simp) (by simp))
  · rw [accounts_retire, List.map_map, List.map_map]
    refine List.map_congr_left fun a _ => ?_
    by_cases hn : a.number = lot.boat
    · simp only [Function.comp_apply, Account.onNumber_self hn]
      rfl
    · simp only [Function.comp_apply, Account.onNumber_ne hn]
  · rw [lotsOf, retire_lotTable]
    exact lotsOf_removeLot ho hl n
  · rw [retire_lotTable] at hmem
    exact exists_kind_iff.mp (h.boats l (List.mem_of_mem_filter hmem))

/-- The lots after a winning press (R43, R44). -/
theorem lots_win (s : State) (r : RostrumId) (c : Candidate) (v : Valuation) :
    (s.win r c v).lotTable.lots.map Lot.fixed =
      (if c.isPart then insertLot (c.remainder r) (s.postSale c v).lotTable.lots else (s.postSale c v).lotTable.lots).map Lot.fixed := by
  cases hpart : c.isPart with
  | false =>
    rw [lotTable_win_whole hpart]
    rfl
  | true =>
    have hlots : (s.win r c v).lotTable.lots =
        (insertLot (c.remainder r) (s.postSale c v).lotTable.lots).map
          (Lot.displacedBy ((s.rostrum r).displaces (some (c.remainder r).key))) := by
      rw [lotTable_win_part hpart]
      rfl
    rw [hlots, List.map_map, if_pos rfl]
    refine List.map_congr_left fun l _ => ?_
    simp only [Function.comp_apply, Lot.displacedBy]
    split <;> rfl

theorem postSale_sameLots (s : State) (c : Candidate) (v : Valuation) : s.SameLots (s.postSale c v) :=
  .of_map (f := fun l => if l.key = c.lot.key then { l with state := .sold, sale := some (c.sale v) } else l)
    (by rw [lotTable_postSale]) fun l => by split <;> rfl

theorem soldAccounts_counts (xs : List Account) (c : Candidate) (v : Valuation) :
    (soldAccounts xs c v).map Account.counts = xs.map Account.counts := by
  unfold soldAccounts
  rw [map_field_onNumber, map_field_onNumber, map_field_onNumber, map_field_onNumber] <;> exact fun _ => rfl

theorem desks_win (s : State) (r : RostrumId) (c : Candidate) (v : Valuation) (q : RostrumId) :
    ((s.win r c v).rostrum q).desks = (s.rostrum q).desks := by
  by_cases hq : q = r
  · obtain ⟨f, hf⟩ := rostrum_win s r c v
    rw [hq, hf]
    simp [wonRostrum, Rostrum.lotEnd, Rostrum.takes_desks]
  · rw [rostrum_win_ne s hq]

theorem win_counted (h : s.Counted) {r : RostrumId} {d : Fin 96} {quantity : Nat} {c : Candidate} {v : Valuation}
    (hj : s.judgePress r d quantity = .ok (c, v)) : (s.win r c v).Counted := by
  obtain ⟨-, hboat, hlot, -⟩ := judgePress_ok hj
  have hcount : (s.win r c v).lotTable.lots.map Lot.fixed = _ := lots_win s r c v
  have hsame := s.postSale_sameLots c v
  cases hpart : c.isPart with
  | false =>
    rw [hpart] at hcount
    refine h.same ?_ (hcount.trans hsame) (desks_win s r c v)
    rw [accounts_win, hpart, map_field_onNumber, soldAccounts_counts]
    exact fun _ => rfl
  | true =>
    rw [hpart, if_pos rfl] at hcount
    refine h.of_lots (boat := c.lot.boat) (f := (· + 1)) ?_ (fun n => ?_) (fun l hl => ?_) (desks_win s r c v)
    · rw [accounts_win, hpart]
      refine map_onNumber_congr (fun h => (Prod.mk.inj h).1) (fun h => ?_) (soldAccounts_counts s.accounts c v) c.lot.boat
      simp only [Account.countLots, Prod.mk.injEq] at h ⊢
      exact ⟨h.1, h.2.1, h.2.2.1, congrArg (· + 1) h.2.2.2⟩
    · rw [lotsOf_insert (s := s.postSale c v) (c.remainder r) hcount, hsame.lotsOf_eq]
      rfl
    · have hmem : l.fixed ∈ (insertLot (c.remainder r) (s.postSale c v).lotTable.lots).map Lot.fixed := hcount ▸ List.mem_map_of_mem hl
      obtain ⟨m, hm, heq⟩ := List.mem_map.mp hmem
      have hmboat : m.boat = l.boat := congrArg (·.2.1) heq
      rw [← hmboat]
      rcases mem_insertLot.mp hm with rfl | hold
      · exact exists_kind_iff.mp (h.boats c.lot hlot)
      · obtain ⟨x, hx, hxb⟩ := hsame.exists_boat hold
        exact hxb ▸ exists_kind_iff.mp (h.boats x hx)

end State

end Sys2Proof.Machine
end

section
/-! PROOF. Every step keeps the counts of the account records (R59, R112): desks, accounts, and every other change. -/

namespace Sys2Proof.Machine

/-- One entry of a list replaced: what the old one counted goes, what the new one counts comes. -/
theorem countP_set_add {α : Type} (p : α → Bool) (l : List α) {i : Nat} (h : i < l.length) (a : α) :
    (l.set i a).countP p + (if p l[i] then 1 else 0) = l.countP p + (if p a then 1 else 0) := by
  induction l generalizing i with
  | nil => exact absurd h (Nat.not_lt_zero _)
  | cons x xs ih =>
    cases i with
    | zero => simp only [List.set_cons_zero, List.countP_cons, List.getElem_cons_zero]; omega
    | succ i =>
      have hrest := ih (Nat.lt_of_succ_lt_succ h)
      simp only [List.set_cons_succ, List.countP_cons, List.getElem_cons_succ]
      omega

/-- The desk entries of a rostrum that name an account. -/
def Rostrum.desksNaming (x : Rostrum) (n : Nat) : Nat := x.desks.toList.countP (· == some n)

theorem Rostrum.desksNaming_set (x : Rostrum) (d : Fin 96) (v : Option Nat) (n : Nat) :
    Rostrum.desksNaming { x with desks := x.desks.set d v } n + (if x.desk d == some n then 1 else 0) =
      x.desksNaming n + if v == some n then 1 else 0 := by
  have hcount := countP_set_add (· == some n) x.desks.toList (i := d) (by simp) v
  simpa [Vector.toList_set, desksNaming, Rostrum.desk] using hcount

theorem Rostrum.desksNaming_pos_iff (x : Rostrum) (n : Nat) : 0 < x.desksNaming n ↔ ∃ d, n ∈ x.desk d := by
  rw [desksNaming, List.countP_pos_iff]
  constructor
  · rintro ⟨v, hv, heq⟩
    obtain ⟨i, hi, rfl⟩ := Vector.getElem_of_mem (Vector.mem_toList_iff.mp hv)
    exact ⟨⟨i, hi⟩, eq_of_beq heq⟩
  · rintro ⟨d, hd⟩
    exact ⟨x.desk d, Vector.mem_toList_iff.mpr (Vector.getElem_mem _), beq_iff_eq.mpr hd⟩

namespace State

variable {s t : State}

theorem desksOf_eq (s : State) (n : Nat) : s.desksOf n = s.rostrumA.desksNaming n + s.rostrumB.desksNaming n := List.countP_append

theorem desksOf_pos_iff (s : State) (n : Nat) : 0 < s.desksOf n ↔ ∃ r d, n ∈ (s.rostrum r).desk d := by
  rw [desksOf_eq, Nat.add_pos_iff_pos_or_pos, Rostrum.desksNaming_pos_iff, Rostrum.desksNaming_pos_iff]
  constructor
  · rintro (h | h)
    · exact ⟨.a, h⟩
    · exact ⟨.b, h⟩
  · rintro ⟨r, h⟩
    cases r with
    | a => exact .inl h
    | b => exact .inr h

/-! ## Desks (R59, R60) -/

/-- A rostrum with one desk entry replaced. -/
def setDesk (s : State) (r : RostrumId) (d : Fin 96) (v : Option Nat) : State := s.modRostrum r fun x => { x with desks := x.desks.set d v }

theorem desksOf_setDesk (s : State) (r : RostrumId) (d : Fin 96) (v : Option Nat) (n : Nat) :
    (s.setDesk r d v).desksOf n + (if (s.rostrum r).desk d == some n then 1 else 0) = s.desksOf n + if v == some n then 1 else 0 := by
  have hset := ((s.rostrum r).desksNaming_set d v n)
  rw [desksOf_eq, desksOf_eq]
  cases r with
  | a =>
    show Rostrum.desksNaming { s.rostrumA with desks := s.rostrumA.desks.set d v } n + s.rostrumB.desksNaming n + _ = _
    rw [Nat.add_right_comm]
    exact (congrArg (· + s.rostrumB.desksNaming n) hset).trans (Nat.add_right_comm _ _ _)
  | b =>
    show s.rostrumA.desksNaming n + Rostrum.desksNaming { s.rostrumB with desks := s.rostrumB.desks.set d v } n + _ = _
    rw [Nat.add_assoc, Nat.add_assoc]
    exact congrArg (s.rostrumA.desksNaming n + ·) hset

theorem desk_setDesk (s : State) (r q : RostrumId) (d e : Fin 96) (v : Option Nat) {n : Nat}
    (h : n ∈ ((s.setDesk r d v).rostrum q).desk e) : v = some n ∨ n ∈ (s.rostrum q).desk e := by
  unfold setDesk at h
  by_cases hq : q = r
  · rw [hq, modRostrum_rostrum, Rostrum.desk] at h
    dsimp only at h
    by_cases he : e = d
    · rw [he] at h
      simp at h
      exact .inl h
    · have hne : (d : Nat) ≠ e := fun heq => he (Fin.ext heq.symm)
      rw [hq]
      simpa [Rostrum.desk, hne] using Or.inr (a := v = some n) h
  · rw [modRostrum_rostrum_ne _ _ hq] at h
    exact .inr h

theorem deskCount_counted (h : s.Counted) {r : RostrumId} {d : Fin 96} {v : Option Nat} {buyer : Nat} {f : Nat → Nat}
    (hcount : ∀ n, (s.setDesk r d v).desksOf n = if n = buyer then f (s.desksOf n) else s.desksOf n)
    (hv : ∀ n, v = some n → s.kindOf n = some .buyer) : ((s.setDesk r d v).modDeskCount buyer f).Counted := by
  refine .of_map (s := s) (g := fun a => a.onNumber buyer (Account.countDesks f)) (by cases r <;> rfl)
    (Account.onNumber_number buyer (f := Account.countDesks f) fun _ => rfl)
    (Account.onNumber_field (f := Account.countDesks f) (·.kind) buyer fun _ => rfl) (fun a ha => ?_) (fun a ha => ?_)
    (fun l hl => exists_kind_iff.mp (h.boats l (by simpa [setDesk] using hl))) (fun q e n hn => ?_)
  · have hdesks : ((s.setDesk r d v).modDeskCount buyer f).desksOf a.number = (s.setDesk r d v).desksOf a.number :=
      desksOf_congr (rostra_desks_congr (by simp) (by simp)) _
    rw [hdesks, hcount]
    by_cases hn : a.number = buyer
    · rw [Account.onNumber_self hn, if_pos hn]
      exact congrArg f (h.desks a ha)
    · rw [Account.onNumber_ne hn, if_neg hn]
      exact h.desks a ha
  · rw [a.onNumber_field (f := Account.countDesks f) (·.liveLots) buyer fun _ => rfl, h.lots a ha, lotsOf]
    simp [setDesk]
  · rw [rostrum_modDeskCount] at hn
    rcases desk_setDesk s r q d e v hn with hnew | hold
    · exact hv n hnew
    · exact exists_kind_iff.mp (h.buyers q e n hold)

theorem deskAssigned_counted (h : s.Counted) {r : RostrumId} {d : Fin 96} {buyer : Nat} (hkind : s.kindOf buyer = some .buyer)
    (hfree : (s.rostrum r).desk d = none) : ((s.setDesk r d (some buyer)).modDeskCount buyer (· + 1)).Counted := by
  refine deskCount_counted h (fun n => ?_) fun n hn => (Option.some.inj hn) ▸ hkind
  have hcount := s.desksOf_setDesk r d (some buyer) n
  rw [hfree] at hcount
  by_cases hn : n = buyer
  · simpa [hn] using hcount
  · simpa [hn, Ne.symm hn] using hcount

theorem deskReleased_counted (h : s.Counted) {r : RostrumId} {d : Fin 96} {buyer : Nat}
    (htaken : (s.rostrum r).desk d = some buyer) : ((s.setDesk r d none).modDeskCount buyer (· - 1)).Counted := by
  refine deskCount_counted h (fun n => ?_) nofun
  have hcount := s.desksOf_setDesk r d none n
  rw [htaken] at hcount
  by_cases hn : n = buyer
  · simp [hn] at hcount ⊢
    omega
  · simpa [hn, Ne.symm hn] using hcount

/-! ## Accounts (R97, R102) -/

theorem kindOf_of_mem (h : s.accountTable.Tallied) {a : Account} (ha : a ∈ s.accounts) : s.kindOf a.number = some a.kind := by
  rw [kindOf, h.ordered.find ha]
  rfl

/-- Accounts that come or go without lots and desks. -/
theorem Counted.of_accounts (h : s.Counted) (ht : t.accountTable.Tallied) (hl : t.lotTable = s.lotTable)
    (hd : ∀ r, (t.rostrum r).desks = (s.rostrum r).desks)
    (hmem : ∀ a ∈ t.accounts, a ∈ s.accounts ∨ a.deskCount = 0 ∧ a.liveLots = 0 ∧ s.account? a.number = none)
    (hkept : ∀ a ∈ s.accounts, a ∈ t.accounts ∨ a.deskCount = 0 ∧ a.liveLots = 0) : t.Counted := by
  have hlots : ∀ n, t.lotsOf n = s.lotsOf n := fun n => by rw [lotsOf, hl, lotsOf]
  have hnone : ∀ n, s.account? n = none → s.desksOf n = 0 ∧ s.lotsOf n = 0 := fun n hn => by
    have hkind : s.kindOf n = none := by rw [kindOf, hn]; rfl
    constructor
    · refine Nat.eq_zero_of_not_pos fun hpos => ?_
      obtain ⟨r, d, hmem⟩ := (s.desksOf_pos_iff n).mp hpos
      have hsome := exists_kind_iff.mp (h.buyers r d n hmem)
      rw [hkind] at hsome
      cases hsome
    · refine List.countP_eq_zero.mpr fun l hl heq => ?_
      have hsome := exists_kind_iff.mp (h.boats l hl)
      rw [eq_of_beq heq, hkind] at hsome
      cases hsome
  have hlive : ∀ n k, s.kindOf n = some k → 0 < s.desksOf n ∨ 0 < s.lotsOf n → t.kindOf n = some k := fun n k hn hpos => by
    obtain ⟨a, ha, rfl⟩ := exists_kind_iff.mpr hn
    have hnumber := account?_number ha
    have hmem := account?_mem ha
    rcases hkept a hmem with hstay | ⟨hdesk, hlot⟩
    · exact hnumber ▸ kindOf_of_mem ht hstay
    · have hdesks := h.desks a hmem
      have hlots := h.lots a hmem
      rw [hdesk, hnumber] at hdesks
      rw [hlot, hnumber] at hlots
      unfold lotsOf at hpos
      omega
  refine ⟨fun a ha => ?_, fun a ha => ?_, fun l hl' => ?_, fun r d n hn => ?_⟩
  · rw [desksOf_congr hd]
    rcases hmem a ha with hold | ⟨hdesk, -, hfresh⟩
    · exact h.desks a hold
    · rw [hdesk, (hnone a.number hfresh).1]
  · show a.liveLots = t.lotsOf a.number
    rw [hlots]
    rcases hmem a ha with hold | ⟨-, hlive, hfresh⟩
    · exact h.lots a hold
    · rw [hlive, (hnone a.number hfresh).2]
  · rw [hl] at hl'
    refine exists_kind_iff.mpr (hlive _ _ (exists_kind_iff.mp (h.boats l hl')) (.inr ?_))
    exact List.countP_pos_iff.mpr ⟨l, hl', beq_self_eq_true _⟩
  · refine exists_kind_iff.mpr (hlive _ _ (h.buyers_of_desks hd r d n hn) (.inl ?_))
    exact (s.desksOf_pos_iff n).mpr ⟨r, d, desk_congr hd r d ▸ hn⟩

theorem accountAdded_counted (h : s.Counted) (ht : s.accountTable.Tallied) {number : Nat} (kind : AccountKind) (limit cls : Nat)
    (hfresh : s.account? number = none) (hroom : s.accountTable.accounts.length < 512) :
    (s.addAccount (Account.opened number kind limit cls)).Counted := by
  refine h.of_accounts (addAccount_tallied ht hfresh rfl hroom) rfl (rostra_desks_congr rfl rfl) (fun a ha => ?_) fun a ha => .inl ?_
  · rcases mem_insertAccount.mp ha with rfl | hold
    · exact .inr ⟨rfl, rfl, hfresh⟩
    · exact .inl hold
  · exact mem_insertAccount.mpr (.inr ha)

theorem accountClosed_counted (h : s.Counted) (ht : s.accountTable.Tallied) {a : Account} (hfound : s.account? a.number = some a)
    (hunheld : s.closeReason a = none) : (s.removeAccount a.number).Counted := by
  obtain ⟨hbalance, -, -, hlive, hdesk, -⟩ := (s.closeReason_eq_none_iff a).mp hunheld
  have hmem := account?_mem hfound
  refine h.of_accounts (removeAccount_tallied ht hmem hbalance) rfl (rostra_desks_congr rfl rfl)
    (fun b hb => .inl (List.mem_of_mem_filter hb)) fun b hb => ?_
  by_cases hn : b.number = a.number
  · rw [ht.ordered.eq_of_number hb hmem hn]
    exact .inr ⟨hdesk, hlive⟩
  · exact .inl (List.mem_filter.mpr ⟨hb, bne_iff_ne.mpr hn⟩)

/-! ## What the other changes leave -/

theorem endWeighing_counts (s : State) (i : Fin 8) {result : WeighResult} (hr : result ≠ .taken) (gross : Option Int) :
    (s.endWeighing i result gross none none).accounts.map Account.counts = s.accounts.map Account.counts := by
  cases hp : (s.lane i).weighing with
  | none => rw [show s.endWeighing i result gross none none = s by simp [endWeighing, hp]]
  | some p =>
    rw [accounts_endWeighing hp hr, List.map_map]
    refine List.map_congr_left fun a _ => ?_
    simp only [Function.comp_apply, uncommitted]
    split
    · rfl
    · refine Account.onNumber_field Account.counts _ ?_ a
      exact fun _ => rfl

theorem completeOrder_counts (s : State) (b : Fin 4) (code : IceCode) :
    (s.completeOrder b code).accounts.map Account.counts = s.accounts.map Account.counts := by
  cases ho : (s.bay b).order with
  | none => rw [show s.completeOrder b code = s by simp [completeOrder, ho]]
  | some o =>
    rw [accounts_completeOrder ho, map_field_onNumber]
    exact fun _ => rfl

theorem modRostrum_desks_self {r : RostrumId} {f : Rostrum → Rostrum} (hf : (f (s.rostrum r)).desks = (s.rostrum r).desks) (q : RostrumId) :
    ((s.modRostrum r f).rostrum q).desks = (s.rostrum q).desks := by
  by_cases hq : q = r
  · rw [hq, modRostrum_rostrum, hf]
  · rw [modRostrum_rostrum_ne _ _ hq]

theorem modRostrum_desks {r : RostrumId} {f : Rostrum → Rostrum} (hf : ∀ x, (f x).desks = x.desks)
    (h : ∀ q, (t.rostrum q).desks = (s.rostrum q).desks) (q : RostrumId) : ((t.modRostrum r f).rostrum q).desks = (s.rostrum q).desks :=
  (modRostrum_desks_self (hf _) q).trans (h q)

theorem unqueue_desks (s : State) (lot : Lot) (q : RostrumId) : ((s.unqueue lot).rostrum q).desks = (s.rostrum q).desks := by
  unfold unqueue
  cases lot.rostrum with
  | none => rfl
  | some r => exact modRostrum_desks_self (f := fun x => { x with queue := x.queue.filter (· != lot.key) }) rfl q

theorem startOffer_desks (s : State) (r q : RostrumId) : ((s.startOffer r).rostrum q).desks = (s.rostrum q).desks := by
  by_cases hq : q = r
  · subst hq
    cases hqueue : (s.rostrum q).queue with
    | nil => rw [startOffer_nil hqueue]
    | cons k rest =>
      obtain ⟨f, hf⟩ := rostrum_startOffer hqueue
      rw [hf]
      simp [offerHead]
  · rw [rostrum_startOffer_ne s hq]

theorem putBack_desks (s : State) (r q : RostrumId) : ((s.putBack r).rostrum q).desks = (s.rostrum q).desks := by
  by_cases hq : q = r
  · rw [hq, rostrum_putBack, Rostrum.takes_desks]
  · rw [rostrum_putBack_ne s hq]

end State

open State in
/-- Every elementary change keeps the counts (R59, R112). -/
theorem Change.counted {s t : State} (h : Change s t) (ho : s.lotTable.Ordered) (ht : s.accountTable.Tallied) (hs : s.Counted) :
    t.Counted := by
  cases h
  case opened boat species ty a ha hk _ => exact openedLot_counted hs boat species ty (exists_kind_iff.mp ⟨a, ha, hk⟩)
  case retired lot hl _ => exact retire_counted hs ho hl
  case won r d quantity c v hj => exact win_counted hs hj
  case deskAssigned r d buyer a ha hk hfree => exact deskAssigned_counted hs (exists_kind_iff.mp ⟨a, ha, hk⟩) hfree
  case deskReleased r d buyer htaken => exact deskReleased_counted hs htaken
  case accountAdded number kind limit cls hfresh hroom => exact accountAdded_counted hs ht kind limit cls hfresh hroom
  case accountClosed a hfound hunheld => exact accountClosed_counted hs ht hfound hunheld
  case weighingEnded i result gross hr =>
    exact hs.same (endWeighing_counts s i hr gross) (.endWeighing s i hr gross) (rostra_desks_congr (by simp) (by simp))
  case weighingTaken i p legal number ticket hp _ _ _ =>
    rw [endWeighing_taken (s := s.modLot p.key _) hp]
    exact hs.same rfl (.modLot s p.key rfl fun _ => rfl) (rostra_desks_congr rfl rfl)
  case handedIn lot i c _ _ _ _ _ _ _ _ _ _ _ =>
    exact hs.same (by rw [accounts_handIn, map_field_onNumber]; exact fun _ => rfl) (.modLot s lot.key rfl fun _ => rfl)
      (rostra_desks_congr rfl rfl)
  case closed lot _ _ _ _ _ => exact hs.same rfl (.modLot s lot.key rfl fun _ => rfl) (rostra_desks_congr rfl rfl)
  case queued r atHead override lot _ _ _ =>
    refine hs.same (by simp [accounts]) (.modLot s lot.key
      (f := fun l => { l with override := overrideOf override, rostrum := some r, state := .queued }) (by simp [enqueue]) fun _ => rfl)
      (modRostrum_desks (s := s.modLot lot.key _) (fun _ => rfl) (rostra_desks_congr rfl rfl))
  case unqueued lot _ _ =>
    exact hs.same (by simp [accounts]) ((State.SameLots.unqueue s lot).trans (.modLot _ lot.key rfl fun _ => rfl)) (unqueue_desks s lot)
  case offerStarted r _ _ => exact hs.same (by simp [accounts]) (.startOffer s r) (startOffer_desks s r)
  case rostrum r f _ _ hdesks _ => exact hs.same (by simp [accounts]) (.of_eq (by simp)) (modRostrum_desks_self hdesks)
  case putBack r f _ _ hdesks _ =>
    exact hs.same (by simp [accounts]) ((State.SameLots.putBack s r).trans (.of_eq (by simp))) (modRostrum_desks (hdesks ·) (putBack_desks s r))
  case unsold r o f _ _ _ hdesks _ =>
    exact hs.same (by simp [accounts]) (.modLot s o.key (f := fun l => { l with state := .unsold }) (by simp) fun _ => rfl)
      (modRostrum_desks (hdesks ·) (rostra_desks_congr rfl rfl))
  case accountSet n limit cls state => 
    exact hs.same (by rw [accounts_modAccount, map_field_onNumber]; exact fun _ => rfl) (.of_eq rfl) (rostra_desks_congr rfl rfl)
  case posted n d =>
    exact hs.same (by rw [accounts_post, map_field_onNumber]; exact fun _ => rfl) (.of_eq (by simp)) (rostra_desks_congr (by simp) (by simp))
  case issued a ty n d _ _ _ =>
    exact hs.same (by rw [accounts_issueCrates, map_field_onNumber]; exact fun _ => rfl) (.of_eq (by simp))
      (rostra_desks_congr (by simp) (by simp))
  case settled g w a _ =>
    exact hs.same (by rw [accounts_settle, map_field_onNumber]; exact fun _ => rfl) (.of_eq (by simp))
      (rostra_desks_congr (by simp) (by simp))
  case transferred a b ty n d _ _ _ _ _ =>
    refine hs.same ?_ (.of_eq (by simp)) (rostra_desks_congr (by simp) (by simp))
    rw [accounts_transferCrates, map_field_onNumber, map_field_onNumber, map_field_onNumber, map_field_onNumber] <;> exact fun _ => rfl
  case orderTaken b a q price weight _ _ _ _ _ =>
    exact hs.same (by rw [accounts_takeOrder, map_field_onNumber]; exact fun _ => rfl) (.of_eq rfl) (rostra_desks_congr rfl rfl)
  case orderCompleted b code =>
    exact hs.same (completeOrder_counts s b code) (.of_eq (by simp)) (rostra_desks_congr (by simp) (by simp))
  all_goals exact hs.same (by simp [accounts]) (.of_eq (by simp)) (rostra_desks_congr (by simp) (by simp))

end Sys2Proof.Machine
end

section
/-! PROOF. The counts after RECORDS CLEAR, the loss of the main supply and a power-on; the statement of R49, R59 and R112. -/

namespace Sys2Proof.Machine

namespace State

variable {s t : State}

/-- Cleared records count nothing. -/
theorem counted_of_empty (ha : s.accounts = []) (hl : s.lotTable.lots = [])
    (hd : ∀ r, (s.rostrum r).desks = Vector.replicate 96 none) : s.Counted where
  desks a h := by
    rw [show s.accountTable.accounts = [] from ha] at h
    cases h
  lots a h := by
    rw [show s.accountTable.accounts = [] from ha] at h
    cases h
  boats l h := by
    rw [hl] at h
    cases h
  buyers r d n h := by
    rw [Rostrum.desk, hd] at h
    simp at h

theorem clearRecords_counted (s : State) : s.clearRecords.Counted :=
  counted_of_empty (by simp [accounts, AccountTable.empty]) (by simp [LotTable.empty]) fun r => by
    rw [clearRecords_rostrum]
    rfl

theorem coldClear_counted (s : State) (cause : RestartCause) : (s.coldClear.powered cause).Counted :=
  counted_of_empty rfl rfl fun r => by
    rw [rostrum_powered, coldClear_rostrum]
    rfl

theorem loseVolatile_counted (h : s.Counted) : s.loseVolatile.Counted :=
  h.same (by simp [accounts]) (.of_eq (by rw [loseVolatile_lotTable])) fun r => by
    rw [loseVolatile_rostrum]
    rfl

theorem warmReconcile_counted (h : s.Counted) (hl : s.Linked) (cause : RestartCause) : (s.warmReconcile.powered cause).Counted := by
  obtain ⟨hlots, hrostra, haccounts, -⟩ := s.warmReconcile_reconciled
  refine h.same ?_ (.of_map (congrArg LotTable.lots (hlots hl)) fun _ => rfl) fun r => ?_
  · show s.warmReconcile.accountTable.accounts.map Account.counts = _
    rw [haccounts, List.map_map]
    rfl
  · rw [rostrum_powered, hrostra hl, Rostrum.takes_desks]

theorem tick_counted (h : s.Counted) : s.tick.Counted :=
  h.same (by simp [accounts]) (.of_eq (by simp)) fun r => by
    rw [tick_rostrum]
    rfl

end State

theorem counted_kept : KeptGiven (fun s => s.InTrade ∧ s.accountTable.Tallied) State.Counted where
  change _ _ h hp := h.counted hp.1.2.ordered hp.2
  cleared s _ _ _ := s.clearRecords_counted
  lost _ _ hs := State.loseVolatile_counted hs
  cold s _ _ := s.coldClear_counted _
  warm _ _ hp hs := State.warmReconcile_counted hs hp.1.2 _

theorem inTrade_tallied_kept : KeptGiven (fun _ => True) fun s => s.InTrade ∧ s.accountTable.Tallied :=
  inTrade_kept.and (tallied_kept.mono fun _ _ => trivial)

theorem State.inTrade_tallied_withPending {s : State} (h : s.InTrade ∧ s.accountTable.Tallied) (q : List Instr) :
    State.InTrade { s with pending := q } ∧ ({ s with pending := q } : State).accountTable.Tallied :=
  ⟨State.inTrade_withPending h.1 q, h.2⟩

theorem State.tick_inTrade_tallied {s : State} (h : s.InTrade ∧ s.accountTable.Tallied) : s.tick.InTrade ∧ s.tick.accountTable.Tallied :=
  ⟨tick_inTrade h.1, by simpa using h.2⟩

/-- Settles O17: every elementary change is a run of steps of the links, and moves the counts with the lots and the desks. -/
theorem stepKeepsTheLotsAndTheQueuesLinked : Obligations.StepKeepsTheLotsAndTheQueuesLinked := by
  intro s t hr hl h
  refine ⟨(inTrade_kept.step (fun _ q h => State.inTrade_withPending h q) (fun _ => State.tick_inTrade) h ⟨hr, hl⟩).2, fun ht hc => ?_⟩
  refine ((inTrade_tallied_kept.and counted_kept).step (fun s q hs => ?_) (fun s hs => ?_) h ⟨⟨⟨hr, hl⟩, ht⟩, hc⟩).2
  · refine ⟨State.inTrade_tallied_withPending hs.1 q, hs.2.same rfl (.of_eq rfl) fun r => ?_⟩
    cases r <;> rfl
  · exact ⟨State.tick_inTrade_tallied hs.1, State.tick_counted hs.2⟩

end Sys2Proof.Machine
end

section
/-! PROOF. The crates that the lots bind, after each operation on the lots (R28). -/

namespace Sys2Proof.Machine

/-! ## What one lot binds -/

/-- The crates of a type that a lot binds of a boat's holding. -/
def Lot.boundFor (l : Lot) (boat : Nat) (ty : Fin 8) : Nat := if l.boat = boat ∧ l.crateType = ty then l.bound else 0

/-- A lot's boat and type with the crates that it binds. -/
def Lot.claim (l : Lot) : Nat × Fin 8 × Nat := (l.boat, l.crateType, l.bound)

theorem LotTable.bound_eq (T : LotTable) (boat : Nat) (ty : Fin 8) : T.bound boat ty = (T.lots.map (·.boundFor boat ty)).sum := rfl

/-- A change of a lot's state between two that are not SOLD binds the same crates. -/
theorem Lot.bound_congr {l m : Lot} (hn : m.n = l.n) (hp : m.pending = l.pending) (hs : m.state = .sold ↔ l.state = .sold) :
    m.bound = l.bound := by simp only [bound, hn, hp, hs]

theorem Lot.claim_congr {l m : Lot} (hb : m.boat = l.boat) (ht : m.crateType = l.crateType) (hn : m.n = l.n) (hp : m.pending = l.pending)
    (hs : m.state = .sold ↔ l.state = .sold) : m.claim = l.claim := by rw [claim, claim, hb, ht, bound_congr hn hp hs]

/-- The sum of a figure over lots of different keys, after one of them has changed. -/
theorem sum_map_modKey {ls : List Lot} (h : (ls.map (·.key)).Nodup) {lot : Lot} (hl : lot ∈ ls) (φ : Lot → Nat) (f : Lot → Lot) :
    ((ls.map fun l => if l.key = lot.key then f l else l).map φ).sum + φ lot = (ls.map φ).sum + φ (f lot) := by
  induction ls with
  | nil => cases hl
  | cons x xs ih =>
    obtain ⟨hx, hxs⟩ := List.nodup_cons.mp h
    rcases List.mem_cons.mp hl with rfl | hmem
    · have hrest : xs.map (fun l => if l.key = lot.key then f l else l) = xs :=
        (List.map_congr_left fun l hl => if_neg fun heq => hx (List.mem_map.mpr ⟨l, hl, heq⟩)).trans (List.map_id _)
      simp only [List.map_cons, List.sum_cons, hrest, if_true]
      omega
    · have hne : x.key ≠ lot.key := fun heq => hx (List.mem_map.mpr ⟨lot, hmem, heq.symm⟩)
      simp only [List.map_cons, List.sum_cons, if_neg hne, add_assoc]
      rw [ih hxs hmem]

namespace State

variable {s t u : State}

/-! ## Lots that bind what they bound -/

/-- The lots bind the crates that they bound. -/
def SameClaims (s t : State) : Prop := t.lotTable.lots.map Lot.claim = s.lotTable.lots.map Lot.claim

theorem SameClaims.of_eq (h : t.lotTable.lots = s.lotTable.lots) : s.SameClaims t := by rw [SameClaims, h]

theorem SameClaims.of_map {f : Lot → Lot} (h : t.lotTable.lots = s.lotTable.lots.map f) (hf : ∀ l ∈ s.lotTable.lots, (f l).claim = l.claim) :
    s.SameClaims t := by
  rw [SameClaims, h, List.map_map]
  exact List.map_congr_left hf

theorem SameClaims.trans (h : s.SameClaims t) (h' : t.SameClaims u) : s.SameClaims u := Eq.trans h' h

theorem SameClaims.bound_eq (h : s.SameClaims t) (boat : Nat) (ty : Fin 8) : t.lotTable.bound boat ty = s.lotTable.bound boat ty := by
  have hclaims : ∀ v : State, v.lotTable.bound boat ty =
      ((v.lotTable.lots.map Lot.claim).map fun x => if x.1 = boat ∧ x.2.1 = ty then x.2.2 else 0).sum := fun v => by
    rw [List.map_map]
    rfl
  rw [hclaims, hclaims, h]

theorem SameClaims.owned (h : s.SameClaims t) {P : Nat → Prop} (hs : ∀ l ∈ s.lotTable.lots, l.bound ≠ 0 → P l.boat) :
    ∀ l ∈ t.lotTable.lots, l.bound ≠ 0 → P l.boat := by
  intro l hl hbound
  have hmem : l.claim ∈ s.lotTable.lots.map Lot.claim := h ▸ List.mem_map_of_mem hl
  obtain ⟨m, hm, heq⟩ := List.mem_map.mp hmem
  simp only [Lot.claim, Prod.mk.injEq] at heq
  obtain ⟨hboat, -, hsame⟩ := heq
  exact hboat ▸ hs m hm (hsame ▸ hbound)

/-- A change of one lot. -/
theorem SameClaims.modLot (ho : s.lotTable.Ordered) {k : Key} {lot : Lot} (hl : s.lot? k = some lot) {f : Lot → Lot}
    (h : t.lotTable = (s.modLot k f).lotTable) (hf : (f lot).claim = lot.claim) : s.SameClaims t :=
  .of_map (f := fun l => if l.key = k then f l else l) (by rw [h]; rfl) fun l hmem => by
    split
    · next hk => rwa [ho.eq_of_key hmem (lot?_mem hl) (hk.trans (lot?_key hl).symm)]
    · rfl

/-- A lot that a full queue loses was not SOLD. -/
theorem SameClaims.headInsert {r : RostrumId} {k : Key}
    (h : ∀ l ∈ s.lotTable.lots, (s.rostrum r).displaces (some k) = some l.key → l.state ≠ .sold) : s.SameClaims (s.headInsert r k) :=
  .of_map (f := Lot.displacedBy ((s.rostrum r).displaces (some k))) (by rw [lotTable_headInsert]; rfl) fun l hl => by
    unfold Lot.displacedBy
    split
    · next hd => exact Lot.claim_congr rfl rfl rfl rfl (iff_of_false (by simp) (h l hl hd.symm))
    · rfl

/-- A queued lot's record. -/
theorem queued_of_links (ho : s.lotTable.Ordered) (ht : s.links.Tied) {r : RostrumId} {l : Lot} (hl : l ∈ s.lotTable.lots)
    (hk : l.key ∈ (s.rostrum r).queue) : l.state = .queued := by
  obtain ⟨p, hp, hs, -⟩ := ht.queued r l.key hk
  obtain rfl := Option.some.inj ((links_lot (lot?_of_mem ho hl)).symm.trans hp)
  exact hs

theorem SameClaims.putBack (ho : s.lotTable.Ordered) (ht : s.links.Tied) (r : RostrumId) : s.SameClaims (s.putBack r) := by
  cases hoffer : (s.rostrum r).offer with
  | none => exact .of_eq (by simp [State.putBack, hoffer])
  | some o =>
    obtain ⟨lot, hlot, hclock, -⟩ := offer_of_links ht hoffer
    have hback : s.putBack r = (s.modLot o.key fun l => { l with state := .queued }).headInsert r o.key := by
      simp [State.putBack, hoffer]
    rw [hback]
    refine (SameClaims.modLot ho hlot (t := s.modLot o.key fun l => { l with state := .queued }) rfl
      (Lot.claim_congr rfl rfl rfl rfl (iff_of_false (by simp) (by rw [hclock]; simp)))).trans (.headInsert fun l hl hd => ?_)
    have hmem := Rostrum.displaces_mem hd
    rw [rostrum_modLot_frame] at hmem
    obtain ⟨x, hx, rfl⟩ := List.mem_map.mp hl
    split
    · simp
    · next hne =>
      rw [if_neg hne] at hmem
      rw [queued_of_links ho ht hx hmem]
      simp

theorem SameClaims.startOffer (ho : s.lotTable.Ordered) (ht : s.links.Tied) (r : RostrumId) : s.SameClaims (s.startOffer r) := by
  cases hq : (s.rostrum r).queue with
  | nil => exact .of_eq (by rw [startOffer_nil hq])
  | cons k rest =>
    have hk : k ∈ (s.rostrum r).queue := hq ▸ List.mem_cons_self
    obtain ⟨p, hp, -⟩ := ht.queued r k hk
    obtain ⟨lot, hlot, -⟩ := links_lot_eq_some_iff.mp hp
    have hstate := queued_of_links ho ht (lot?_mem hlot) ((lot?_key hlot).symm ▸ hk)
    exact .modLot ho hlot (f := fun l => { l with state := .onClock }) (by simp [startOffer_cons hq])
      (Lot.claim_congr rfl rfl rfl rfl (iff_of_false (by simp) (by rw [hstate]; simp)))

theorem SameClaims.unqueue (s : State) (lot : Lot) : s.SameClaims (s.unqueue lot) := by
  unfold State.unqueue
  cases lot.rostrum with
  | none => exact .of_eq rfl
  | some r => exact .of_eq (by simp)

/-! ## Lots that bind more or less -/

theorem bound_modLot (ho : s.lotTable.Ordered) {k : Key} {lot : Lot} (hl : s.lot? k = some lot) {f : Lot → Lot}
    (h : t.lotTable = (s.modLot k f).lotTable) (boat : Nat) (ty : Fin 8) :
    t.lotTable.bound boat ty + lot.boundFor boat ty = s.lotTable.bound boat ty + (f lot).boundFor boat ty := by
  have hkey := lot?_key hl
  have hsum := sum_map_modKey ho.nodup (lot?_mem hl) (·.boundFor boat ty) f
  rw [hkey] at hsum
  rw [h]
  exact hsum

theorem bound_insert {new : Lot} {T : LotTable} (h : t.lotTable.lots.map Lot.claim = (insertLot new T.lots).map Lot.claim) (boat : Nat)
    (ty : Fin 8) : t.lotTable.bound boat ty = T.bound boat ty + new.boundFor boat ty := by
  have hinsert : t.lotTable.bound boat ty = ((insertLot new T.lots).map (·.boundFor boat ty)).sum :=
    SameClaims.bound_eq (s := { t with lotTable := { T with lots := insertLot new T.lots } }) h boat ty
  rw [hinsert, ((insertLot_perm new T.lots).map _).sum_eq, List.map_cons, List.sum_cons, Nat.add_comm]
  rfl

theorem bound_removeLot (ho : s.lotTable.Ordered) {lot : Lot} (hl : s.lot? lot.key = some lot) (boat : Nat) (ty : Fin 8) :
    (s.removeLot lot.key).lotTable.bound boat ty + lot.boundFor boat ty = s.lotTable.bound boat ty := by
  have hperm := ((removeLot_perm ho hl).map (·.boundFor boat ty)).sum_eq
  rw [List.map_cons, List.sum_cons] at hperm
  rw [LotTable.bound_eq s.lotTable, hperm, Nat.add_comm]
  rfl

end State

end Sys2Proof.Machine
end

section
/-! PROOF. The crate books with the accounts and the lots: what keeps them (R28, R118). -/

namespace Sys2Proof.Machine

theorem Lot.bound_withoutPending_le (l : Lot) : Lot.bound { l with pending := none } ≤ l.bound := Nat.le_add_right _ _

theorem get_bump (v : Vector Nat 8) (t u : Fin 8) (f : Nat → Nat) : (bump v t f)[u] = if u = t then f v[t] else v[u] := vector_get_set ..

namespace Account

/-- What the crate books speak of in an account record. -/
def stocks (a : Account) : Nat × Vector Nat 8 × Vector Nat 8 := (a.number, a.holding, a.committed)

/-- An account record with another holding of one type. -/
def bumpHolding (ty : Fin 8) (f : Nat → Nat) (a : Account) : Account := { a with holding := bump a.holding ty f }

/-- An account record with another committed count of one type. -/
def bumpCommitted (ty : Fin 8) (f : Nat → Nat) (a : Account) : Account := { a with committed := bump a.committed ty f }

theorem bumpCommitted_get (n : Nat) (ty u : Fin 8) (f : Nat → Nat) (a : Account) :
    (a.onNumber n (bumpCommitted ty f)).committed[u] = if a.number = n ∧ u = ty then f a.committed[u] else a.committed[u] := by
  by_cases hn : a.number = n
  · rw [onNumber_self hn, bumpCommitted, get_bump]
    by_cases hu : u = ty
    · simp [hn, hu]
    · simp [hu]
  · rw [onNumber_ne hn, if_neg (fun h => hn h.1)]

theorem bumpCommitted_holding (n : Nat) (ty : Fin 8) (f : Nat → Nat) (a : Account) :
    (a.onNumber n (bumpCommitted ty f)).holding = a.holding := a.onNumber_field (f := bumpCommitted ty f) (·.holding) n fun _ => rfl

theorem bumpHolding_get (n : Nat) (ty u : Fin 8) (f : Nat → Nat) (a : Account) :
    (a.onNumber n (bumpHolding ty f)).holding[u] = if a.number = n ∧ u = ty then f a.holding[u] else a.holding[u] := by
  by_cases hn : a.number = n
  · rw [onNumber_self hn, bumpHolding, get_bump]
    by_cases hu : u = ty
    · simp [hn, hu]
    · simp [hu]
  · rw [onNumber_ne hn, if_neg (fun h => hn h.1)]

theorem bumpHolding_committed (n : Nat) (ty : Fin 8) (f : Nat → Nat) (a : Account) :
    (a.onNumber n (bumpHolding ty f)).committed = a.committed := a.onNumber_field (f := bumpHolding ty f) (·.committed) n fun _ => rfl

theorem bumpHolding_number (n : Nat) (ty : Fin 8) (f : Nat → Nat) (a : Account) : (a.onNumber n (bumpHolding ty f)).number = a.number :=
  a.onNumber_number n (f := bumpHolding ty f) fun _ => rfl

end Account

/-- All holdings of a type, of a list of accounts. -/
def heldIn (as : List Account) (ty : Fin 8) : Nat := (as.map fun a => a.holding[ty]).sum

theorem holdingsOf_eq (s : State) (ty : Fin 8) : s.holdingsOf ty = heldIn s.accountTable.accounts ty := rfl

theorem heldIn_congr {xs ys : List Account} (h : xs.map Account.stocks = ys.map Account.stocks) (ty : Fin 8) :
    heldIn xs ty = heldIn ys ty := by
  have hstocks : ∀ zs : List Account, heldIn zs ty = ((zs.map Account.stocks).map fun x => x.2.1[ty]).sum := fun zs => by
    rw [List.map_map]
    rfl
  rw [hstocks, hstocks, h]

/-- All holdings after one account's holdings have changed. -/
theorem heldIn_onNumber {xs : List Account} (h : (xs.map (·.number)).Nodup) {a : Account} (ha : a ∈ xs) (f : Account → Account)
    (ty : Fin 8) : heldIn (xs.map (·.onNumber a.number f)) ty + a.holding[ty] = heldIn xs ty + (f a).holding[ty] :=
  sum_map_onNumber h ha (fun x => x.holding[ty]) f

theorem heldIn_bumpCommitted (xs : List Account) (n : Nat) (ty : Fin 8) (f : Nat → Nat) (u : Fin 8) :
    heldIn (xs.map (·.onNumber n (Account.bumpCommitted ty f))) u = heldIn xs u := by
  rw [heldIn, List.map_map]
  exact congrArg List.sum (List.map_congr_left fun a _ => congrArg (·[u]) (a.bumpCommitted_holding n ty f))

namespace State

variable {s t : State}

theorem account?_isSome_congr (h : t.accounts.map Account.stocks = s.accounts.map Account.stocks) (n : Nat) :
    (t.account? n).isSome = (s.account? n).isSome := by
  have hfind : ∀ u : State, (u.account? n).isSome = ((u.accounts.map Account.stocks).find? (·.1 == n)).isSome := fun u => by
    rw [List.find?_map, Option.isSome_map]
    rfl
  rw [hfind, hfind, h]

/-- Changed records, with a pool, holdings and lots that agree with them. -/
theorem CrateBooks.of_map {g : Account → Account} (haccounts : t.accounts.map Account.stocks = (s.accounts.map g).map Account.stocks)
    (hnumber : ∀ a, (g a).number = a.number)
    (hpool : ∀ ty, (t.crateType ty).yard + heldIn (s.accounts.map g) ty = (t.crateType ty).fleet)
    (hcovered : ∀ a ∈ s.accounts, ∀ ty : Fin 8, (g a).committed[ty] ≤ (g a).holding[ty])
    (hcommitted : ∀ a ∈ s.accounts, ∀ ty : Fin 8, (g a).committed[ty] = t.lotTable.bound a.number ty)
    (howned : ∀ l ∈ t.lotTable.lots, l.bound ≠ 0 → (s.account? l.boat).isSome = true) : t.CrateBooks := by
  have hall : ∀ a ∈ t.accounts, ∃ b ∈ s.accounts, a.number = b.number ∧ a.holding = (g b).holding ∧ a.committed = (g b).committed := by
    intro a ha
    have hmem : a.stocks ∈ (s.accounts.map g).map Account.stocks := haccounts ▸ List.mem_map_of_mem ha
    obtain ⟨x, hx, heq⟩ := List.mem_map.mp hmem
    obtain ⟨b, hb, rfl⟩ := List.mem_map.mp hx
    simp only [Account.stocks, Prod.mk.injEq] at heq
    exact ⟨b, hb, heq.1.symm.trans (hnumber b), heq.2.1.symm, heq.2.2.symm⟩
  refine ⟨fun ty => ?_, fun a ha ty => ?_, fun a ha ty => ?_, fun l hl hbound => ?_⟩
  · rw [Conserved, holdingsOf_eq, heldIn_congr haccounts]
    exact hpool ty
  · obtain ⟨b, hb, -, hholding, hcommit⟩ := hall a ha
    rw [hholding, hcommit]
    exact hcovered b hb ty
  · obtain ⟨b, hb, hnum, -, hcommit⟩ := hall a ha
    rw [hcommit, hnum]
    exact hcommitted b hb ty
  · let u : State := { s with accountTable := { s.accountTable with accounts := s.accounts.map g } }
    have hu : (u.account? l.boat).isSome = (s.account? l.boat).isSome := by
      simp only [u, account?, List.find?_map, Option.isSome_map, Function.comp_def, hnumber]
    rw [account?_isSome_congr (s := u) haccounts, hu]
    exact howned l hl hbound

/-- Neither the crates of the accounts nor the bound counts change; the pool stays conserved. -/
theorem CrateBooks.of_bound (h : s.CrateBooks) (haccounts : t.accounts.map Account.stocks = s.accounts.map Account.stocks)
    (hbound : ∀ n ty, t.lotTable.bound n ty = s.lotTable.bound n ty)
    (howned : ∀ l ∈ t.lotTable.lots, l.bound ≠ 0 → (s.account? l.boat).isSome = true)
    (hpool : ∀ ty held, (s.crateType ty).yard + held = (s.crateType ty).fleet → (t.crateType ty).yard + held = (t.crateType ty).fleet) :
    t.CrateBooks :=
  .of_map (g := id) (by rw [haccounts, List.map_id]) (fun _ => rfl) (fun ty => by rw [List.map_id]; exact hpool ty _ (h.conserved ty))
    h.covered (fun a ha ty => (h.committed a ha ty).trans (hbound _ _).symm) howned

/-- Neither the crates of the accounts nor those of the lots change; the pool stays conserved. -/
theorem CrateBooks.same (h : s.CrateBooks) (haccounts : t.accounts.map Account.stocks = s.accounts.map Account.stocks)
    (hlots : s.SameClaims t)
    (hpool : ∀ ty held, (s.crateType ty).yard + held = (s.crateType ty).fleet → (t.crateType ty).yard + held = (t.crateType ty).fleet) :
    t.CrateBooks :=
  h.of_bound haccounts hlots.bound_eq (hlots.owned (P := fun n => (s.account? n).isSome = true) h.owned) hpool

/-- One committed count changes with what the lots of its boat bind. -/
theorem CrateBooks.of_commit (h : s.CrateBooks) {boat : Nat} {ty : Fin 8} {f : Nat → Nat}
    (haccounts : t.accounts.map Account.stocks = (s.accounts.map (·.onNumber boat (Account.bumpCommitted ty f))).map Account.stocks)
    (hcrates : t.crates = s.crates) (hcovered : ∀ a ∈ s.accounts, a.number = boat → f a.committed[ty] ≤ a.holding[ty])
    (hbound : ∀ n u, t.lotTable.bound n u = if n = boat ∧ u = ty then f (s.lotTable.bound n u) else s.lotTable.bound n u)
    (howned : ∀ l ∈ t.lotTable.lots, l.bound ≠ 0 → (s.account? l.boat).isSome = true) : t.CrateBooks := by
  refine .of_map haccounts (fun a => a.onNumber_number boat (f := Account.bumpCommitted ty f) fun _ => rfl) (fun u => ?_)
    (fun a ha u => ?_) (fun a ha u => ?_) howned
  · rw [heldIn_bumpCommitted, crateType_congr hcrates]
    exact h.conserved u
  · rw [Account.bumpCommitted_get, Account.bumpCommitted_holding]
    split
    · next hat =>
      obtain ⟨hn, rfl⟩ := hat
      exact hcovered a ha hn
    · exact h.covered a ha u
  · rw [Account.bumpCommitted_get, hbound, h.committed a ha u]

/-- The holdings change with the pool; the lots bind what they bound. -/
theorem CrateBooks.of_holdings (h : s.CrateBooks) {g : Account → Account}
    (haccounts : t.accounts.map Account.stocks = (s.accounts.map g).map Account.stocks) (hnumber : ∀ a, (g a).number = a.number)
    (hcommitted : ∀ a, (g a).committed = a.committed) (hlots : t.lotTable = s.lotTable)
    (hpool : ∀ ty, (t.crateType ty).yard + heldIn (s.accounts.map g) ty = (t.crateType ty).fleet)
    (hcovered : ∀ a ∈ s.accounts, ∀ ty : Fin 8, a.committed[ty] ≤ (g a).holding[ty]) : t.CrateBooks := by
  refine .of_map haccounts hnumber hpool (fun a ha ty => ?_) (fun a ha ty => ?_) fun l hl => ?_
  · rw [hcommitted]
    exact hcovered a ha ty
  · rw [hcommitted, hlots]
    exact h.committed a ha ty
  · rw [hlots] at hl
    exact h.owned l hl

/-! ## Weighings -/

/-- A pending part ends without being taken (R32). -/
theorem weighingEnded_crateBooks (h : s.CrateBooks) (ho : s.lotTable.Ordered) (ht : s.links.Tied) (i : Fin 8) {result : WeighResult}
    (hr : result ≠ .taken) (gross : Option Int) : (s.endWeighing i result gross none none).CrateBooks := by
  cases hp : (s.lane i).weighing with
  | none => rwa [show s.endWeighing i result gross none none = s by simp [endWeighing, hp]]
  | some p =>
    obtain ⟨lot, hlot, hpending⟩ := weighing_of_links ht hp
    obtain ⟨hlots, -⟩ := endWeighing_blocks hp hr gross none none
    have hbound := bound_modLot (s := s) ho hlot hlots
    have hstate : lot.bound = (if lot.state = .sold then 0 else lot.n) + p.crates := by rw [Lot.bound, hpending]; rfl
    have hleft : Lot.bound { lot with pending := none } = if lot.state = .sold then 0 else lot.n := rfl
    refine h.of_commit (boat := lot.boat) (ty := lot.crateType) (f := (· - p.crates)) ?_ (by simp) (fun a ha hn => ?_) (fun n u => ?_)
      fun l hl hb => ?_
    · rw [accounts_endWeighing hp hr]
      have hat : s.uncommitted p = fun a => a.onNumber lot.boat (Account.bumpCommitted lot.crateType (· - p.crates)) :=
        funext fun a => by
          simp only [uncommitted, hlot]
          rfl
      rw [hat]
    · exact (Nat.sub_le _ _).trans (h.covered a ha lot.crateType)
    · have hat := hbound n u
      simp only [Lot.boundFor, hstate, hleft] at hat
      by_cases hnu : n = lot.boat ∧ u = lot.crateType
      · obtain ⟨rfl, rfl⟩ := hnu
        simp only [and_self, if_true] at hat ⊢
        omega
      · have hnu' : ¬ (lot.boat = n ∧ lot.crateType = u) := fun heq => hnu ⟨heq.1.symm, heq.2.symm⟩
        simpa only [if_neg hnu, if_neg hnu', Nat.add_zero] using hat
    · rw [hlots] at hl
      obtain ⟨x, hx, rfl⟩ := List.mem_map.mp hl
      split at hb
      · next hk =>
        rw [if_pos hk]
        exact h.owned x hx fun hzero => hb (Nat.le_zero.mp (hzero ▸ x.bound_withoutPending_le))
      · next hk =>
        rw [if_neg hk]
        exact h.owned x hx hb

/-- A weighing that is TAKEN: the pending crates become the lot's own (R31). -/
theorem weighingTaken_sameClaims (ho : s.lotTable.Ordered) (ht : s.links.Tied) {i : Fin 8} {p : PendingWeighing}
    (hp : (s.lane i).weighing = some p) (gross : Nat) (e : Nat) :
    s.SameClaims (s.modLot p.key fun l => l.enter { lane := unitNumber i, gross, crates := p.crates } e) := by
  obtain ⟨lot, hlot, hpending⟩ := weighing_of_links ht hp
  have hopened : lot.state = .opened := ht.opened p.key lot.phase _ (links_lot hlot) hpending
  refine .modLot ho hlot rfl ?_
  simp [Lot.claim, Lot.bound, Lot.enter, hopened, hpending]

/-- The crates handed in are bound for the boat (R30). -/
theorem handIn_crateBooks (h : s.CrateBooks) (ho : s.lotTable.Ordered) (hacc : s.accountTable.Ordered) {lot : Lot}
    (hl : s.lot? lot.key = some lot) (i : Fin 8) {c : Nat} (hnone : lot.pending = none) (hleast : 1 ≤ c)
    (hfree : c ≤ ((s.account? lot.boat).map (·.free lot.crateType)).getD 0) : (s.handIn lot i c).CrateBooks := by
  obtain ⟨a, ha⟩ : ∃ a, s.account? lot.boat = some a := by
    cases hb : s.account? lot.boat with
    | none => rw [hb] at hfree; exact absurd (hleast.trans hfree) (by simp)
    | some a => exact ⟨a, rfl⟩
  rw [ha] at hfree
  have hroom : a.committed[lot.crateType] + c ≤ a.holding[lot.crateType] := by
    have hle : c ≤ a.holding[lot.crateType] - a.committed[lot.crateType] := hfree
    omega
  have hlots : (s.handIn lot i c).lotTable =
      (s.modLot lot.key fun l => { l with pending := some { lane := unitNumber i, crates := c } }).lotTable := rfl
  refine h.of_commit (boat := lot.boat) (ty := lot.crateType) (f := (· + c)) rfl (by simp) (fun b hb hn => ?_) (fun n u => ?_)
    fun l hmem hbound => ?_
  · rw [hacc.eq_of_number hb (account?_mem ha) (hn.trans (account?_number ha).symm)]
    exact hroom
  · have hat := bound_modLot (s := s) ho hl hlots n u
    simp only [Lot.boundFor, Lot.bound, hnone, Option.map_some, Option.getD_some, Option.map_none, Option.getD_none] at hat
    by_cases hnu : n = lot.boat ∧ u = lot.crateType
    · obtain ⟨rfl, rfl⟩ := hnu
      simp only [and_self, if_true] at hat ⊢
      omega
    · have hnu' : ¬ (lot.boat = n ∧ lot.crateType = u) := fun heq => hnu ⟨heq.1.symm, heq.2.symm⟩
      simpa only [if_neg hnu, if_neg hnu', Nat.add_zero] using hat
  · rw [hlots] at hmem
    obtain ⟨x, hx, rfl⟩ := List.mem_map.mp hmem
    split at hbound
    · next hk =>
      rw [if_pos hk, show x.boat = lot.boat from congrArg _ (ho.eq_of_key hx (lot?_mem hl) hk), ha]
      rfl
    · next hk =>
      rw [if_neg hk]
      exact h.owned x hx hbound

end State

end Sys2Proof.Machine
end

section
/-! PROOF. The crate books after lots and accounts that come and go, and after the press (R28, R97, R102, R118). -/

namespace Sys2Proof.Machine

namespace State

variable {s t : State}

/-! ## Lots that come and go -/

theorem openedLot_crateBooks (h : s.CrateBooks) (boat species : Nat) (ty : Fin 8) : (s.openedLot boat species ty).CrateBooks := by
  refine h.of_bound ?_ (fun n u => ?_) (fun l hl hbound => ?_) fun _ _ => id
  · rw [accounts_openedLot, map_field_onNumber]
    exact fun _ => rfl
  · have hzero : (Lot.opened { number := (searchNumber s.lotTable.lots Config.maxLots s.lotTable.counter s.lotTable.dayWrap).1, part := 0 }
        boat species ty).boundFor n u = 0 := by simp [Lot.boundFor, Lot.bound, Lot.opened]
    rw [bound_insert (T := s.lotTable) (new := Lot.opened _ boat species ty) rfl, hzero]
    rfl
  · rcases mem_insertLot.mp (show l ∈ insertLot _ s.lotTable.lots from hl) with rfl | hmem
    · exact absurd rfl hbound
    · exact h.owned l hmem hbound

theorem retiredAt_stocks (lot : Lot) (hnone : lot.pending = none) (a : Account) :
    (retiredAt lot a).stocks = (a.bumpCommitted lot.crateType (· - lot.bound)).stocks := by
  have hbound : lot.bound = if lot.state = .sold then 0 else lot.n := by rw [Lot.bound, hnone]; rfl
  by_cases hs : lot.state = .sold
  · have hsame : bump a.committed lot.crateType (· - 0) = a.committed := Vector.set_getElem_self _
    simp only [Account.stocks, retiredAt, Account.bumpCommitted, hbound, hs, if_true, hsame]
  · simp only [Account.stocks, retiredAt, Account.bumpCommitted, hbound, hs, if_false]

theorem retire_crateBooks (h : s.CrateBooks) (ho : s.lotTable.Ordered) (ht : s.links.Tied) {lot : Lot} (hl : s.lot? lot.key = some lot)
    (hmay : s.mayRetire lot) : (s.retire lot).CrateBooks := by
  obtain ⟨-, -, hnone, -⟩ := mayRetire_free ho ht hl hmay
  refine h.of_commit (boat := lot.boat) (ty := lot.crateType) (f := (· - lot.bound)) ?_ (by simp) (fun a ha hn => ?_) (fun n u => ?_)
    fun l hmem hbound => ?_
  · rw [accounts_retire, List.map_map, List.map_map]
    refine List.map_congr_left fun a _ => ?_
    by_cases hn : a.number = lot.boat
    · simpa only [Function.comp_apply, Account.onNumber_self hn] using retiredAt_stocks lot hnone a
    · simp only [Function.comp_apply, Account.onNumber_ne hn]
  · exact (Nat.sub_le _ _).trans (h.covered a ha lot.crateType)
  · have hat := bound_removeLot ho hl n u
    rw [retire_lotTable]
    simp only [Lot.boundFor] at hat
    by_cases hnu : n = lot.boat ∧ u = lot.crateType
    · obtain ⟨rfl, rfl⟩ := hnu
      simp only [and_self, if_true] at hat ⊢
      omega
    · have hnu' : ¬ (lot.boat = n ∧ lot.crateType = u) := fun heq => hnu ⟨heq.1.symm, heq.2.symm⟩
      simpa only [if_neg hnu, if_neg hnu', Nat.add_zero] using hat
  · rw [retire_lotTable] at hmem
    exact h.owned l (List.mem_of_mem_filter hmem) hbound

/-! ## Accounts that come and go (R97, R102) -/

theorem accountAdded_crateBooks (h : s.CrateBooks) {number : Nat} (kind : AccountKind) (limit cls : Nat)
    (hfresh : s.account? number = none) : (s.addAccount (Account.opened number kind limit cls)).CrateBooks := by
  have hzero : ∀ ty : Fin 8, (Account.opened number kind limit cls).holding[ty] = 0 ∧ (Account.opened number kind limit cls).committed[ty] = 0 :=
    fun ty => by simp [Account.opened]
  have hperm := insertAccount_perm (Account.opened number kind limit cls) s.accountTable.accounts
  refine ⟨fun ty => ?_, fun a ha ty => ?_, fun a ha ty => ?_, fun l hl hbound => ?_⟩
  · have hheld : (s.addAccount (Account.opened number kind limit cls)).holdingsOf ty = s.holdingsOf ty := by
      have hsum := (hperm.map fun a => a.holding[ty]).sum_eq
      rw [List.map_cons, List.sum_cons, (hzero ty).1, Nat.zero_add] at hsum
      exact hsum
    rw [Conserved, hheld]
    exact h.conserved ty
  · rcases mem_insertAccount.mp ha with rfl | hold
    · rw [(hzero ty).2]
      exact Nat.zero_le _
    · exact h.covered a hold ty
  · rcases mem_insertAccount.mp ha with rfl | hold
    · have hnone : (s.lotTable.lots.map fun l => if l.boat = number ∧ l.crateType = ty then l.bound else 0).sum = 0 := by
        refine List.sum_eq_zero fun x hx => ?_
        obtain ⟨l, hl, rfl⟩ := List.mem_map.mp hx
        split
        · next hat =>
          by_contra hbound
          have hsome := h.owned l hl hbound
          rw [hat.1, hfresh] at hsome
          cases hsome
        · rfl
      exact (hzero ty).2.trans hnone.symm
    · exact h.committed a hold ty
  · obtain ⟨a, ha⟩ := Option.isSome_iff_exists.mp (h.owned l hl hbound)
    rw [account?_isSome_iff]
    exact ⟨a, mem_insertAccount.mpr (.inr (account?_mem ha)), account?_number ha⟩

theorem accountClosed_crateBooks (h : s.CrateBooks) (ht : s.accountTable.Tallied) {a : Account} (hfound : s.account? a.number = some a)
    (hunheld : s.closeReason a = none) : (s.removeAccount a.number).CrateBooks := by
  obtain ⟨-, -, hholding, -⟩ := (s.closeReason_eq_none_iff a).mp hunheld
  have hmem := account?_mem hfound
  have hzero : ∀ ty : Fin 8, a.holding[ty] = 0 := fun ty => hholding _ (Vector.mem_toList_iff.mpr (Vector.getElem_mem _))
  have hperm : s.accounts.Perm (a :: s.accounts.filter (·.number != a.number)) := (filter_number_perm ht.ordered.nodup hmem)
  refine ⟨fun ty => ?_, fun b hb ty => h.covered b (List.mem_of_mem_filter hb) ty,
    fun b hb ty => h.committed b (List.mem_of_mem_filter hb) ty, fun l hl hbound => ?_⟩
  · have hheld : (s.removeAccount a.number).holdingsOf ty = s.holdingsOf ty := by
      have hsum := (hperm.map fun a => a.holding[ty]).sum_eq
      rw [List.map_cons, List.sum_cons, hzero, Nat.zero_add] at hsum
      exact hsum.symm
    rw [Conserved, hheld]
    exact h.conserved ty
  · obtain ⟨b, hb⟩ := Option.isSome_iff_exists.mp (h.owned l hl hbound)
    have hnumber := account?_number hb
    rw [account?_isSome_iff]
    refine ⟨b, List.mem_filter.mpr ⟨account?_mem hb, bne_iff_ne.mpr fun hn => ?_⟩, hnumber⟩
    have hcommitted := h.committed a hmem l.crateType
    have hcovered := h.covered a hmem l.crateType
    rw [hzero, Nat.le_zero] at hcovered
    rw [hcovered] at hcommitted
    have hown : l.boundFor a.number l.crateType = l.bound := if_pos ⟨hnumber.symm.trans hn, rfl⟩
    have hle : l.bound ≤ s.lotTable.bound a.number l.crateType :=
      hown ▸ List.le_sum_of_mem (List.mem_map_of_mem hl)
    rw [← hcommitted] at hle
    exact hbound (Nat.le_zero.mp hle)

end State

end Sys2Proof.Machine
end

section
/-! PROOF. The crate books after crates have changed hands (R86, R121, R126, R128). -/

namespace Sys2Proof.Machine

/-- All holdings after one account's holding of one type has changed. -/
theorem heldIn_bump {xs : List Account} (h : (xs.map (·.number)).Nodup) {a : Account} (ha : a ∈ xs) {n : Nat} (hn : a.number = n)
    (ty u : Fin 8) (f : Nat → Nat) :
    heldIn (xs.map (·.onNumber n (Account.bumpHolding ty f))) u + (if u = ty then a.holding[u] else 0) =
      heldIn xs u + if u = ty then f a.holding[u] else 0 := by
  have hsum := heldIn_onNumber h ha (Account.bumpHolding ty f) u
  have hget : (a.bumpHolding ty f).holding[u] = if u = ty then f a.holding[u] else a.holding[u] := by
    rw [Account.bumpHolding, get_bump]
    split
    · next hu => rw [hu]
    · rfl
  rw [hn, hget] at hsum
  split <;> rename_i hu
  · simpa [hu] using hsum
  · simpa [hu] using hsum

theorem numbers_map_onNumber (xs : List Account) (n : Nat) {f : Account → Account} (hf : ∀ a, (f a).number = a.number) :
    (xs.map (·.onNumber n f)).map (·.number) = xs.map (·.number) := map_field_onNumber (·.number) n hf xs

/-- Changes of a record that differ in what the crate books do not speak of. -/
theorem stocks_map_onNumber {xs ys : List Account} (h : xs.map Account.stocks = ys.map Account.stocks) (n : Nat)
    {f g : Account → Account} (hfg : ∀ {a b}, a.stocks = b.stocks → (f a).stocks = (g b).stocks) :
    (xs.map (·.onNumber n f)).map Account.stocks = (ys.map (·.onNumber n g)).map Account.stocks :=
  map_onNumber_congr (fun h => (Prod.mk.inj h).1) hfg h n

theorem stocks_eq_iff {a b : Account} : a.stocks = b.stocks ↔ a.number = b.number ∧ a.holding = b.holding ∧ a.committed = b.committed := by
  simp only [Account.stocks, Prod.mk.injEq]

namespace State

variable {s t : State}

/-! ## Issue, settlement and transfer -/

theorem issueCrates_crateBooks (h : s.CrateBooks) (hacc : s.accountTable.Ordered) {a : Account} (ha : s.account? a.number = some a)
    (ty : Fin 8) {k : Nat} (hstock : k ≤ (s.crateType ty).yard) (d : Nat) : (s.issueCrates a.number ty k d).CrateBooks := by
  refine h.of_holdings (g := fun x => x.onNumber a.number (Account.bumpHolding ty (· + k))) ?_ (fun x => x.bumpHolding_number ..)
    (fun x => x.bumpHolding_committed ..) (by simp) (fun u => ?_) (fun x hx u => ?_)
  · rw [accounts_issueCrates]
    refine stocks_map_onNumber rfl _ fun hab => ?_
    obtain ⟨hn, hh, hc⟩ := stocks_eq_iff.mp hab
    exact stocks_eq_iff.mpr ⟨hn, congrArg (bump · ty (· + k)) hh, hc⟩
  · have hsum := heldIn_bump (xs := s.accounts) hacc.nodup (account?_mem ha) rfl ty u (· + k)
    have hconserved : (s.crateType u).yard + heldIn s.accounts u = (s.crateType u).fleet := h.conserved u
    rw [crateType_congr (s.crates_issueCrates ..), crateType_modCrateType]
    by_cases hu : u = ty
    · subst hu
      simp only [if_true] at hsum ⊢
      omega
    · simp only [if_neg hu] at hsum ⊢
      omega
  · rw [Account.bumpHolding_get]
    split
    · exact (h.covered x hx u).trans (Nat.le_add_right _ _)
    · exact h.covered x hx u

theorem settle_crateBooks (h : s.CrateBooks) (hacc : s.accountTable.Ordered) (g : Fin 2) (w : Session) {a : Account}
    (ha : s.account? a.number = some a) : (s.settle g w a).CrateBooks := by
  let f : Account → Account := fun x => { x with holding := settledHolding w a all8 x.holding }
  have hget : ∀ x u, (f x).holding[(u : Fin 8)] = x.holding[u] - w.credited a u := fun x u => get_settledHolding w a x.holding u
  have hcredited : ∀ u, w.credited a u ≤ a.holding[u] - a.committed[u] := fun u => Nat.min_le_right _ _
  have hcovered := h.covered a (account?_mem ha)
  refine h.of_holdings (g := fun x => x.onNumber a.number f) ?_ (Account.onNumber_number a.number (f := f) fun _ => rfl)
    (fun x => x.onNumber_field (f := f) (·.committed) _ fun _ => rfl) (by simp) (fun u => ?_) (fun x hx u => ?_)
  · rw [accounts_settle]
    refine stocks_map_onNumber rfl _ fun hab => ?_
    obtain ⟨hn, hh, hc⟩ := stocks_eq_iff.mp hab
    exact stocks_eq_iff.mpr ⟨hn, congrArg (settledHolding w a all8) hh, hc⟩
  · have hsum := heldIn_onNumber (xs := s.accounts) hacc.nodup (account?_mem ha) f u
    have hconserved : (s.crateType u).yard + heldIn s.accounts u = (s.crateType u).fleet := h.conserved u
    have hexcess : w.excess a u = w.counted[u] - w.credited a u := rfl
    have hcounted : w.credited a u ≤ w.counted[u] := Nat.min_le_left _ _
    have hfree := hcredited u
    have hheld := hcovered u
    rw [hget] at hsum
    rw [crateType_congr (s.crates_settle g w a), crateType_modGate, crateType_foldl_modCrateType]
    simp only [settledType]
    omega
  · by_cases hn : x.number = a.number
    · rw [hacc.eq_of_number hx (account?_mem ha) hn, Account.onNumber_self rfl, hget]
      have hfree := hcredited u
      have hheld := hcovered u
      omega
    · rw [Account.onNumber_ne hn]
      exact h.covered x hx u

/-- Crates that pass from one account to another. -/
def passed (giver taker : Nat) (ty : Fin 8) (k : Nat) (a : Account) : Account :=
  (a.onNumber giver (Account.bumpHolding ty (· - k))).onNumber taker (Account.bumpHolding ty (· + k))

theorem passed_number (giver taker : Nat) (ty : Fin 8) (k : Nat) (a : Account) : (passed giver taker ty k a).number = a.number :=
  (Account.bumpHolding_number ..).trans (Account.bumpHolding_number ..)

theorem passed_committed (giver taker : Nat) (ty : Fin 8) (k : Nat) (a : Account) : (passed giver taker ty k a).committed = a.committed :=
  (Account.bumpHolding_committed ..).trans (Account.bumpHolding_committed ..)

/-- The giver's holding falls, the taker's rises. -/
theorem passed_holding (giver taker : Nat) (ty : Fin 8) (k : Nat) (a : Account) (u : Fin 8) :
    (if a.number = giver ∧ u = ty then a.holding[u] - k else a.holding[u]) ≤ (passed giver taker ty k a).holding[u] := by
  rw [passed, Account.bumpHolding_get taker, Account.bumpHolding_get giver]
  split
  · split <;> omega
  · split <;> omega

/-- What passes from one account to another leaves all holdings as they were. -/
theorem heldIn_passed {as : List Account} (hacc : (as.map (·.number)).Nodup) {a b : Account} (ha : a ∈ as) (hb : b ∈ as) (ty : Fin 8)
    {k : Nat} (hk : k ≤ a.holding[ty]) (u : Fin 8) : heldIn (as.map (passed a.number b.number ty k)) u = heldIn as u := by
  obtain ⟨xs, hxs⟩ : ∃ xs, xs = as.map (·.onNumber a.number (Account.bumpHolding ty (· - k))) := ⟨_, rfl⟩
  have hmap : as.map (passed a.number b.number ty k) = xs.map (·.onNumber b.number (Account.bumpHolding ty (· + k))) := by
    rw [hxs, List.map_map]
    rfl
  have hnodup : (xs.map (·.number)).Nodup := by
    rw [hxs, numbers_map_onNumber]
    · exact hacc
    · exact fun _ => rfl
  have hfirst := heldIn_bump hacc ha rfl ty u (· - k)
  have hsecond := heldIn_bump hnodup (a := b.onNumber a.number (Account.bumpHolding ty (· - k))) (hxs ▸ List.mem_map_of_mem hb)
    (b.bumpHolding_number ..) ty u (· + k)
  rw [← hxs] at hfirst
  rw [hmap]
  by_cases hu : u = ty
  · subst hu
    simp only [if_true] at hfirst hsecond
    omega
  · simp only [if_neg hu, Nat.add_zero] at hfirst hsecond
    exact hsecond.trans hfirst

theorem transferCrates_crateBooks (h : s.CrateBooks) (hacc : s.accountTable.Ordered) {a b : Account} (ha : s.account? a.number = some a)
    (hb : s.account? b.number = some b) (ty : Fin 8) {k : Nat} (hfree : k ≤ a.free ty) (d : Nat) :
    (s.transferCrates a.number b.number ty k d).CrateBooks := by
  have hk : k ≤ a.holding[ty] - a.committed[ty] := hfree
  refine h.of_holdings (g := passed a.number b.number ty k) ?_ (passed_number a.number b.number ty k) (passed_committed a.number b.number ty k) (by simp) (fun u => ?_)
    (fun x hx u => ?_)
  · rw [accounts_transferCrates, map_field_onNumber, map_field_onNumber]
    · simp only [List.map_map]
      rfl
    · exact fun _ => rfl
    · exact fun _ => rfl
  · rw [heldIn_passed hacc.nodup (account?_mem ha) (account?_mem hb) ty (hk.trans (Nat.sub_le _ _))]
    rw [crateType_congr (s := s) (by simp)]
    exact h.conserved u
  · refine le_trans ?_ (passed_holding ..)
    have hcovered := h.covered x hx u
    split
    · next hat =>
      obtain ⟨hn, rfl⟩ := hat
      obtain rfl := hacc.eq_of_number hx (account?_mem ha) hn
      omega
    · exact hcovered

/-! ## The press (R67, R86) -/

/-- The lot of a winning press is on the clock, with nothing pending. -/
theorem judged_lot (ht : s.links.Tied) {r : RostrumId} {d : Fin 96} {quantity : Nat} {c : Candidate} {v : Valuation}
    (hj : s.judgePress r d quantity = .ok (c, v)) :
    s.lot? c.lot.key = some c.lot ∧ c.lot.state = .onClock ∧ c.lot.pending = none ∧ c.k ≤ c.lot.n := by
  obtain ⟨o, ho, hl, hk, -⟩ := judgePress_lot hj
  obtain ⟨lot, hlot, hclock, -⟩ := offer_of_links ht ho
  obtain rfl := Option.some.inj (hlot.symm.trans hl)
  rw [← lot?_key hl] at hl
  refine ⟨hl, hclock, Option.eq_none_iff_forall_ne_some.mpr fun x hx => ?_, hk⟩
  exact absurd (hclock.symm.trans (ht.opened c.lot.key c.lot.phase x (links_lot hl) hx)) (by decide)

theorem bound_postSale (ho : s.lotTable.Ordered) {c : Candidate} (hl : s.lot? c.lot.key = some c.lot) (hclock : c.lot.state = .onClock)
    (hnone : c.lot.pending = none) (v : Valuation) (n : Nat) (u : Fin 8) :
    (s.postSale c v).lotTable.bound n u + (if n = c.lot.boat ∧ u = c.lot.crateType then c.lot.n else 0) = s.lotTable.bound n u := by
  have hat := bound_modLot (s := s) (k := c.lot.key) (f := fun l => { l with state := .sold, sale := some (c.sale v) }) ho hl
    (lotTable_postSale s c v) n u
  simp only [Lot.boundFor, Lot.bound, hclock, hnone, reduceCtorEq, if_false, if_true, Option.map_none, Option.getD_none, Nat.add_zero,
    ite_self] at hat
  simpa only [@eq_comm Nat c.lot.boat, @eq_comm (Fin 8) c.lot.crateType] using hat

/-- After a press for a part the lots bind what the sold lot and its remainder bind. -/
theorem claims_win_part (ho : s.lotTable.Ordered) (ht : s.links.Tied) {r : RostrumId} {c : Candidate} (hpart : c.isPart = true)
    (hl : s.lot? c.lot.key = some c.lot) (hclock : c.lot.state = .onClock) (v : Valuation) :
    (s.win r c v).lotTable.lots.map Lot.claim = (insertLot (c.remainder r) (s.postSale c v).lotTable.lots).map Lot.claim := by
  have hlots : (s.win r c v).lotTable.lots =
      (insertLot (c.remainder r) (s.postSale c v).lotTable.lots).map
        (Lot.displacedBy ((s.rostrum r).displaces (some (c.remainder r).key))) := by
    rw [lotTable_win_part hpart]
    rfl
  rw [hlots, List.map_map]
  refine List.map_congr_left fun l hmem => ?_
  rw [Function.comp_apply, Lot.displacedBy]
  split
  · next hd =>
    refine Lot.claim_congr rfl rfl rfl rfl (iff_of_false (by simp) ?_)
    rcases mem_insertLot.mp hmem with rfl | hold
    · simp [Candidate.remainder]
    · rw [lotTable_postSale] at hold
      obtain ⟨x, hx, rfl⟩ := List.mem_map.mp hold
      have hkey : (if x.key = c.lot.key then { x with state := .sold, sale := some (c.sale v) } else x).key = x.key := by split <;> rfl
      rw [hkey] at hd
      have hqueued := queued_of_links ho ht hx (Rostrum.displaces_mem hd.symm)
      split
      · next hk =>
        rw [ho.eq_of_key hx (lot?_mem hl) hk, hclock] at hqueued
        cases hqueued
      · rw [hqueued]
        simp
  · rfl

/-- The lots after a winning press bind the crates less that were sold (R43, R44). -/
theorem bound_win (ho : s.lotTable.Ordered) (ht : s.links.Tied) {r : RostrumId} {d : Fin 96} {quantity : Nat} {c : Candidate}
    {v : Valuation} (hj : s.judgePress r d quantity = .ok (c, v)) (n : Nat) (u : Fin 8) :
    (s.win r c v).lotTable.bound n u + (if n = c.lot.boat ∧ u = c.lot.crateType then c.k else 0) = s.lotTable.bound n u := by
  obtain ⟨hl, hclock, hnone, hk⟩ := judged_lot ht hj
  have hsold := bound_postSale ho hl hclock hnone v n u
  cases hpart : c.isPart with
  | false =>
    have hall : c.k = c.lot.n := Nat.le_antisymm hk (Nat.not_lt.mp (of_decide_eq_false hpart))
    rw [lotTable_win_whole hpart, hall]
    exact hsold
  | true =>
    have hnew := bound_insert (T := (s.postSale c v).lotTable) (claims_win_part (r := r) ho ht hpart hl hclock v) n u
    have hremainder : (c.remainder r).boundFor n u = if n = c.lot.boat ∧ u = c.lot.crateType then c.lot.n - c.k else 0 := by
      simp [Lot.boundFor, Lot.bound, Candidate.remainder, eq_comm]
    rw [hnew, hremainder]
    split at hsold <;> rename_i hat
    · rw [if_pos hat, if_pos hat]
      omega
    · rw [if_neg hat, if_neg hat]
      exact hsold

/-- A boat's committed count falls by the crates sold, which pass to the buyer (R86). -/
def sold (boat buyer : Nat) (ty : Fin 8) (k : Nat) (a : Account) : Account :=
  passed boat buyer ty k (a.onNumber boat (Account.bumpCommitted ty (· - k)))

theorem stocks_soldAccounts (xs : List Account) (c : Candidate) (v : Valuation) :
    (soldAccounts xs c v).map Account.stocks = (xs.map (sold c.lot.boat c.account.number c.lot.crateType c.k)).map Account.stocks := by
  have hlist : xs.map (sold c.lot.boat c.account.number c.lot.crateType c.k) =
      (xs.map (·.onNumber c.lot.boat fun a =>
        (a.bumpCommitted c.lot.crateType (· - c.k)).bumpHolding c.lot.crateType (· - c.k))).map
        (·.onNumber c.account.number (Account.bumpHolding c.lot.crateType (· + c.k))) := by
    rw [← map_onNumber_onNumber xs c.lot.boat (f := Account.bumpCommitted c.lot.crateType (· - c.k)) (fun _ => rfl), List.map_map,
      List.map_map]
    rfl
  rw [hlist]
  refine stocks_map_onNumber (stocks_map_onNumber ?_ _ fun hab => ?_) _ fun hab => ?_
  · rw [map_field_onNumber, map_field_onNumber] <;> exact fun _ => rfl
  · obtain ⟨hn, hh, hc⟩ := stocks_eq_iff.mp hab
    exact stocks_eq_iff.mpr ⟨hn, congrArg (bump · c.lot.crateType (· - c.k)) hh, congrArg (bump · c.lot.crateType (· - c.k)) hc⟩
  · obtain ⟨hn, hh, hc⟩ := stocks_eq_iff.mp hab
    exact stocks_eq_iff.mpr ⟨hn, congrArg (bump · c.lot.crateType (· + c.k)) hh, hc⟩

theorem sold_number (boat buyer : Nat) (ty : Fin 8) (k : Nat) (a : Account) : (sold boat buyer ty k a).number = a.number :=
  (passed_number ..).trans (a.onNumber_number boat (f := Account.bumpCommitted ty (· - k)) fun _ => rfl)

theorem sold_committed (boat buyer : Nat) (ty : Fin 8) (k : Nat) (a : Account) (u : Fin 8) :
    (sold boat buyer ty k a).committed[u] = if a.number = boat ∧ u = ty then a.committed[u] - k else a.committed[u] := by
  simp only [sold, passed_committed, Account.bumpCommitted_get]

theorem sold_holding (boat buyer : Nat) (ty : Fin 8) (k : Nat) (a : Account) (u : Fin 8) :
    (if a.number = boat ∧ u = ty then a.holding[u] - k else a.holding[u]) ≤ (sold boat buyer ty k a).holding[u] := by
  have hle := passed_holding boat buyer ty k (a.onNumber boat (Account.bumpCommitted ty (· - k))) u
  simp only [Account.bumpCommitted_holding, a.onNumber_number boat (f := Account.bumpCommitted ty (· - k)) fun _ => rfl] at hle
  exact hle

/-- A sale leaves all holdings as they were. -/
theorem heldIn_sold {xs : List Account} (h : (xs.map (·.number)).Nodup) {a b : Account} (ha : a ∈ xs) (hb : b ∈ xs) (ty : Fin 8) {k : Nat}
    (hk : k ≤ a.holding[ty]) (u : Fin 8) : heldIn (xs.map (sold a.number b.number ty k)) u = heldIn xs u := by
  obtain ⟨ys, hys⟩ : ∃ ys, ys = xs.map (·.onNumber a.number (Account.bumpCommitted ty (· - k))) := ⟨_, rfl⟩
  have hnumber : ∀ x : Account, (x.onNumber a.number (Account.bumpCommitted ty (· - k))).number = x.number :=
    Account.onNumber_number a.number (f := Account.bumpCommitted ty (· - k)) fun _ => rfl
  have hnodup : (ys.map (·.number)).Nodup := by
    rw [hys, numbers_map_onNumber]
    · exact h
    · exact fun _ => rfl
  have hmap : xs.map (sold a.number b.number ty k) = ys.map (passed a.number b.number ty k) := by
    rw [hys, List.map_map]
    rfl
  have hpassed := heldIn_passed hnodup (a := a.onNumber a.number (Account.bumpCommitted ty (· - k)))
    (b := b.onNumber a.number (Account.bumpCommitted ty (· - k))) (hys ▸ List.mem_map_of_mem ha) (hys ▸ List.mem_map_of_mem hb) ty
    (k := k) (by rwa [Account.bumpCommitted_holding]) u
  rw [hnumber, hnumber] at hpassed
  rw [hmap, hpassed, hys, heldIn_bumpCommitted]

/-- The lots after a winning press, with their boats: those that were, and the remainder. -/
theorem owned_win (h : s.CrateBooks) (ho : s.lotTable.Ordered) (ht : s.links.Tied) {r : RostrumId} {d : Fin 96} {quantity : Nat}
    {c : Candidate} {v : Valuation} (hj : s.judgePress r d quantity = .ok (c, v)) :
    ∀ l ∈ (s.win r c v).lotTable.lots, l.bound ≠ 0 → (s.account? l.boat).isSome = true := by
  obtain ⟨hl, hclock, -, -⟩ := judged_lot ht hj
  obtain ⟨-, hboat, -, -⟩ := judgePress_ok hj
  have hown : (s.account? c.lot.boat).isSome = true := by rw [hboat]; rfl
  have hsold : ∀ l ∈ (s.postSale c v).lotTable.lots, l.bound ≠ 0 → (s.account? l.boat).isSome = true := by
    intro l hmem hbound
    rw [lotTable_postSale] at hmem
    obtain ⟨x, hx, rfl⟩ := List.mem_map.mp hmem
    split at hbound
    · next hk =>
      rw [if_pos hk, ho.eq_of_key hx (lot?_mem hl) hk]
      exact hown
    · next hk =>
      rw [if_neg hk]
      exact h.owned x hx hbound
  cases hpart : c.isPart with
  | false =>
    rw [lotTable_win_whole hpart]
    exact hsold
  | true =>
    let u : State := { s with lotTable := { s.lotTable with lots := insertLot (c.remainder r) (s.postSale c v).lotTable.lots } }
    have hclaims : u.SameClaims (s.win r c v) := claims_win_part ho ht hpart hl hclock v
    refine hclaims.owned (P := fun n => (s.account? n).isSome = true) fun l hmem hbound => ?_
    rcases mem_insertLot.mp hmem with rfl | hold
    · exact hown
    · exact hsold l hold hbound

theorem win_crateBooks (h : s.CrateBooks) (ho : s.lotTable.Ordered) (ht : s.links.Tied) (hacc : s.accountTable.Ordered) {r : RostrumId}
    {d : Fin 96} {quantity : Nat} {c : Candidate} {v : Valuation} (hj : s.judgePress r d quantity = .ok (c, v)) :
    (s.win r c v).CrateBooks := by
  obtain ⟨⟨n, hbuyer⟩, hboat, -, -⟩ := judgePress_ok hj
  have hbuyernumber := account?_number hbuyer
  have hboatnumber := account?_number hboat
  have hcommit := fun a ha u => h.committed a (ha : a ∈ s.accounts) u
  have hbound := bound_win ho ht hj
  have hk : c.k ≤ c.boat.holding[c.lot.crateType] := by
    have hsold := hbound c.boat.number c.lot.crateType
    rw [if_pos ⟨hboatnumber, rfl⟩, ← hcommit c.boat (account?_mem hboat)] at hsold
    have hcovered := h.covered c.boat (account?_mem hboat) c.lot.crateType
    omega
  refine .of_map (g := sold c.lot.boat c.account.number c.lot.crateType c.k) ?_ (sold_number c.lot.boat c.account.number c.lot.crateType c.k) (fun u => ?_) (fun a ha u => ?_)
    (fun a ha u => ?_) (owned_win h ho ht hj)
  · rw [accounts_win, map_field_onNumber]
    · exact stocks_soldAccounts s.accounts c v
    · exact fun _ => rfl
  · rw [← hboatnumber, heldIn_sold hacc.nodup (account?_mem hboat) (account?_mem hbuyer) c.lot.crateType hk, crateType_congr (s := s) (by simp)]
    exact h.conserved u
  · rw [sold_committed]
    refine le_trans ?_ (sold_holding ..)
    have hcovered := h.covered a ha u
    split <;> omega
  · have hsold := hbound a.number u
    rw [sold_committed, hcommit a ha u]
    split <;> rename_i hat
    · rw [if_pos hat] at hsold
      omega
    · rw [if_neg hat] at hsold
      exact hsold.symm

end State

end Sys2Proof.Machine
end

section
/-! PROOF. Every elementary change, RECORDS CLEAR, the loss of the main supply and a power-on keep the crate books (R28, R118). -/

namespace Sys2Proof.Machine

namespace State

variable {s t : State}

theorem pool_congr (h : t.crates = s.crates) (ty : Fin 8) (held : Nat) (hs : (s.crateType ty).yard + held = (s.crateType ty).fleet) :
    (t.crateType ty).yard + held = (t.crateType ty).fleet := by rwa [crateType_congr h]

theorem completeOrder_stocks (s : State) (b : Fin 4) (code : IceCode) :
    (s.completeOrder b code).accounts.map Account.stocks = s.accounts.map Account.stocks := by
  cases ho : (s.bay b).order with
  | none => rw [show s.completeOrder b code = s by simp [completeOrder, ho]]
  | some o =>
    rw [accounts_completeOrder ho, map_field_onNumber]
    exact fun _ => rfl

/-- A lot that is neither SOLD before nor after. -/
theorem SameClaims.modLot_unsold (ho : s.lotTable.Ordered) {k : Key} {lot : Lot} (hl : s.lot? k = some lot) {f : Lot → Lot}
    (h : t.lotTable = (s.modLot k f).lotTable) (hb : (f lot).boat = lot.boat) (hty : (f lot).crateType = lot.crateType)
    (hn : (f lot).n = lot.n) (hp : (f lot).pending = lot.pending) (hs : (f lot).state ≠ .sold) (hold : lot.state ≠ .sold) :
    s.SameClaims t := .modLot ho hl h (Lot.claim_congr hb hty hn hp (iff_of_false hs hold))

end State

open State in
/-- Every elementary change keeps the crate books. -/
theorem Change.crateBooks {s t : State} (h : Change s t) (ho : s.lotTable.Ordered) (ht : s.links.Tied) (hacc : s.accountTable.Tallied)
    (hs : s.CrateBooks) : t.CrateBooks := by
  cases h
  case weighingEnded i result gross hr => exact weighingEnded_crateBooks hs ho ht i hr gross
  case weighingTaken i p legal number ticket hp _ _ _ =>
    rw [endWeighing_taken (s := s.modLot p.key _) hp]
    exact hs.same rfl (weighingTaken_sameClaims ho ht hp legal.toNat (s.store.laneCal i).e) (pool_congr rfl)
  case opened boat species ty a _ _ _ => exact openedLot_crateBooks hs boat species ty
  case handedIn lot i c hl _ hnone _ _ _ _ hleast _ hfree _ => exact handIn_crateBooks hs ho hacc.ordered hl i hnone hleast hfree
  case closed lot hl hopened _ _ _ =>
    exact hs.same rfl (.modLot_unsold ho hl rfl rfl rfl rfl rfl (by simp) (by simp [hopened])) (pool_congr rfl)
  case retired lot hl hmay => exact retire_crateBooks hs ho ht hl hmay
  case queued r atHead override lot hl hw _ =>
    have hold : lot.state ≠ .sold := by rcases Lot.isWaiting_iff.mp hw with h | h <;> simp [h]
    exact hs.same (by simp [accounts])
      (.modLot_unsold ho hl (f := fun l => { l with override := overrideOf override, rostrum := some r, state := .queued })
        (by simp [enqueue]) rfl rfl rfl rfl (by simp) hold) (pool_congr (by simp))
  case unqueued lot hl hq =>
    exact hs.same (by simp [accounts])
      (.modLot_unsold ho hl (f := fun l => { l with state := .ready, rostrum := none }) (by simp [modLot_lotTable]) rfl rfl rfl rfl
        (by simp) (by simp [hq])) (pool_congr (by simp))
  case offerStarted r _ _ => exact hs.same (by simp [accounts]) (.startOffer ho ht r) (pool_congr (by simp))
  case putBack r f _ _ _ _ =>
    exact hs.same (by simp [accounts]) ((SameClaims.putBack ho ht r).trans (.of_eq (by simp))) (pool_congr (by simp))
  case unsold r o f hoffer _ _ _ _ =>
    obtain ⟨lot, hl, hclock, -⟩ := offer_of_links ht hoffer
    exact hs.same (by simp [accounts])
      (.modLot_unsold ho hl (f := fun l => { l with state := .unsold }) (by simp) rfl rfl rfl rfl (by simp) (by simp [hclock]))
      (pool_congr (by simp))
  case won r d quantity c v hj => exact win_crateBooks hs ho ht hacc.ordered hj
  case deskAssigned r d buyer _ _ _ _ =>
    refine hs.same ?_ (.of_eq (by simp)) (pool_congr (by simp))
    rw [modDeskCount, accounts_modAccount, map_field_onNumber]
    · simp [accounts]
    · exact fun _ => rfl
  case deskReleased r d buyer _ =>
    refine hs.same ?_ (.of_eq (by simp)) (pool_congr (by simp))
    rw [modDeskCount, accounts_modAccount, map_field_onNumber]
    · simp [accounts]
    · exact fun _ => rfl
  case accountSet n limit cls state =>
    exact hs.same (by rw [accounts_modAccount, map_field_onNumber]; exact fun _ => rfl) (.of_eq rfl) (pool_congr rfl)
  case accountAdded number kind limit cls hfresh _ => exact accountAdded_crateBooks hs kind limit cls hfresh
  case accountClosed a hfound hunheld => exact accountClosed_crateBooks hs hacc hfound hunheld
  case posted n d =>
    exact hs.same (by rw [accounts_post, map_field_onNumber]; exact fun _ => rfl) (.of_eq (by simp)) (pool_congr (by simp))
  case issued a ty n d ha _ hstock => exact issueCrates_crateBooks hs hacc.ordered ha ty hstock d
  case settled g w a ha => exact settle_crateBooks hs hacc.ordered g w ha
  case transferred a b ty n d ha hb _ _ hfree => exact transferCrates_crateBooks hs hacc.ordered ha hb ty hfree d
  case crates ty f hconserved =>
    refine hs.same rfl (.of_eq rfl) fun u held hpool => ?_
    rw [crateType_modCrateType]
    split
    · next hu => exact hconserved held (hu ▸ hpool)
    · exact hpool
  case gate g f => exact hs.same rfl (.of_eq rfl) fun _ _ => id
  case orderTaken b a q price weight _ _ _ _ _ =>
    exact hs.same (by rw [accounts_takeOrder, map_field_onNumber]; exact fun _ => rfl) (.of_eq rfl) (pool_congr rfl)
  case orderCompleted b code => exact hs.same (completeOrder_stocks s b code) (.of_eq (by simp)) (pool_congr (by simp))
  all_goals exact hs.same (by simp [accounts]) (.of_eq (by simp)) (pool_congr (by simp))

namespace State

variable {s t : State}

/-- Cleared records hold no crate. -/
theorem crateBooks_of_empty (ha : s.accounts = []) (hl : s.lotTable.lots = []) (hc : s.crates = CratePool.empty) : s.CrateBooks where
  conserved ty := by
    rw [Conserved, holdingsOf, show s.accountTable.accounts = [] from ha, crateType, hc]
    simp [CratePool.empty]
  covered a h := by
    rw [show s.accountTable.accounts = [] from ha] at h
    cases h
  committed a h := by
    rw [show s.accountTable.accounts = [] from ha] at h
    cases h
  owned l h := by
    rw [hl] at h
    cases h

theorem loseVolatile_crateBooks (h : s.CrateBooks) : s.loseVolatile.CrateBooks :=
  h.same (by simp [accounts]) (.of_eq (by rw [loseVolatile_lotTable])) (pool_congr (by simp [loseVolatile, all8, all4]))

theorem tick_crateBooks (h : s.CrateBooks) : s.tick.CrateBooks :=
  h.same (by simp [accounts]) (.of_eq (by simp)) (pool_congr (by simp))

/-- A power-on moves lots from a clock to a queue and from a queue to READY alone. -/
theorem Linked.settled_state_iff (h : s.Linked) {l : Lot} (hl : l ∈ s.lotTable.lots) (weighed : List Key) {st : LotState}
    (hclock : st ≠ .onClock) (hqueued : st ≠ .queued) (hready : st ≠ .ready) :
    (l.settled weighed (bothKeys s.foundOnClock) (bothKeys fun r => (s.rostrum r).displaces (s.foundOnClock r))).state = st ↔
      l.state = st := by
  have hback : l.key ∈ bothKeys s.foundOnClock → l.state = .onClock := fun hk => by
    obtain ⟨r, hr⟩ := mem_bothKeys.mp hk
    obtain ⟨m, hm, hclock, hkey⟩ := h.foundOnClock_eq_some_iff.mp hr
    exact h.ordered.eq_of_key hm hl hkey ▸ (of_decide_eq_true hclock).1
  have hdisplaced : l.key ∈ bothKeys (fun r => (s.rostrum r).displaces (s.foundOnClock r)) → l.state = .queued := fun hk => by
    obtain ⟨r, hr⟩ := mem_bothKeys.mp hk
    exact queued_of_links h.ordered h.tied hl (Rostrum.displaces_mem hr)
  simp only [Lot.settled]
  split
  · next hk => simp [hback hk, hqueued.symm, hclock.symm]
  · split
    · next hk => simp [hdisplaced hk, hready.symm, hqueued.symm]
    · rfl

/-- A lot that a power-on puts back or displaces was not SOLD. -/
theorem Linked.settled_sold (h : s.Linked) {l : Lot} (hl : l ∈ s.lotTable.lots) (weighed : List Key) :
    (l.settled weighed (bothKeys s.foundOnClock) (bothKeys fun r => (s.rostrum r).displaces (s.foundOnClock r))).state = .sold ↔
      l.state = .sold := h.settled_state_iff hl weighed (by decide) (by decide) (by decide)

/-- What a lot binds once its pending part is gone (R47). -/
theorem bound_settled {l : Lot} {weighed back displaced : List Key} (hw : l.key ∈ weighed)
    (hs : (l.settled weighed back displaced).state = .sold ↔ l.state = .sold) (boat : Nat) (ty : Fin 8) :
    (l.settled weighed back displaced).boundFor boat ty + l.pendingFor boat ty = l.boundFor boat ty := by
  have hpending : (l.settled weighed back displaced).pending = none := if_pos hw
  have hbound : (l.settled weighed back displaced).bound = if l.state = .sold then 0 else l.n := by
    rw [Lot.bound, hpending]
    simp only [hs]
    rfl
  simp only [Lot.boundFor, Lot.pendingFor, hbound]
  by_cases hat : l.boat = boat ∧ l.crateType = ty
  · simp [hat, Lot.settled, Lot.bound]
  · simp [hat, Lot.settled]

/-- The retained records put right: every pending part goes, with the crates that it bound (R47). -/
theorem warmReconcile_crateBooks (h : s.CrateBooks) (hl : s.Linked) (cause : RestartCause) : (s.warmReconcile.powered cause).CrateBooks := by
  obtain ⟨hlots, -, haccounts, -⟩ := s.warmReconcile_reconciled
  let settled := Lot.settled (s.lotTable.lots.map (·.key)) (bothKeys s.foundOnClock)
    (bothKeys fun r => (s.rostrum r).displaces (s.foundOnClock r))
  have hlots' : (s.warmReconcile.powered cause).lotTable.lots = s.lotTable.lots.map settled := congrArg LotTable.lots (hlots hl)
  have hone : ∀ l ∈ s.lotTable.lots, ∀ n ty, (settled l).boundFor n ty + l.pendingFor n ty = l.boundFor n ty := fun l hmem =>
    bound_settled (List.mem_map_of_mem hmem) (hl.settled_sold hmem _)
  have hbound : ∀ n ty, (s.warmReconcile.powered cause).lotTable.bound n ty + s.foundCrates n ty = s.lotTable.bound n ty := fun n ty => by
    have hfound : s.foundCrates n ty = (s.lotTable.lots.map (·.pendingFor n ty)).sum := rfl
    rw [LotTable.bound_eq, LotTable.bound_eq, hlots', hfound, List.map_map, ← List.sum_map_add]
    exact congrArg List.sum (List.map_congr_left fun l hmem => hone l hmem n ty)
  have hget : ∀ (a : Account) (ty : Fin 8), (Vector.ofFn fun u : Fin 8 => a.committed[u] - s.foundCrates a.number u)[ty] =
      a.committed[ty] - s.foundCrates a.number ty := fun a ty => by simp
  refine .of_map (s := s)
    (g := fun a => { a with reserved := 0, committed := Vector.ofFn fun ty => a.committed[ty] - s.foundCrates a.number ty })
    ?_ (fun _ => rfl) (fun ty => ?_) (fun a ha ty => ?_) (fun a ha ty => ?_) fun l hmem hb => ?_
  · show s.warmReconcile.accountTable.accounts.map Account.stocks = _
    rw [haccounts]
  · rw [crateType_congr (s := s) (by simp), heldIn, List.map_map]
    exact h.conserved ty
  · rw [hget]
    exact (Nat.sub_le _ _).trans (h.covered a ha ty)
  · have hat := hbound a.number ty
    rw [hget, h.committed a ha ty]
    omega
  · rw [hlots'] at hmem
    obtain ⟨x, hx, rfl⟩ := List.mem_map.mp hmem
    refine h.owned x hx fun hzero => hb ?_
    have hat := hone x hx x.boat x.crateType
    rw [show x.boundFor x.boat x.crateType = x.bound from if_pos ⟨rfl, rfl⟩, hzero,
      show (settled x).boundFor x.boat x.crateType = (settled x).bound from if_pos ⟨rfl, rfl⟩] at hat
    exact Nat.eq_zero_of_add_eq_zero_right hat

end State

theorem crateBooks_kept : KeptGiven (fun s => s.InTrade ∧ s.accountTable.Tallied) State.CrateBooks where
  change _ _ h hp := h.crateBooks hp.1.2.ordered hp.1.2.tied hp.2
  cleared _ _ _ _ := State.crateBooks_of_empty (by simp [State.accounts, AccountTable.empty]) (by simp [LotTable.empty]) (by simp)
  lost _ _ hs := State.loseVolatile_crateBooks hs
  cold _ _ _ := State.crateBooks_of_empty rfl rfl rfl
  warm _ _ hp hs := State.warmReconcile_crateBooks hs hp.1.2 _

end Sys2Proof.Machine
end

section
/-! PROOF. The deposit books (R111, R156), and the statement of R118, R28 and R111. -/

namespace Sys2Proof.Machine

/-! ## Sums over the crate types -/

/-- A sum over the types of which one term grows. -/
theorem sum_all8_add (f g : Fin 8 → Nat) {ty : Fin 8} {d : Nat} (h : ∀ t, g t = f t + if t = ty then d else 0) :
    (all8.map g).sum = (all8.map f).sum + d := by
  have hone : (all8.map fun t => if t = ty then d else 0).sum = d := by
    match ty with
    | 0 | 1 | 2 | 3 | 4 | 5 | 6 | 7 => simp [all8]
  rw [show g = fun t => f t + if t = ty then d else 0 from funext h, List.sum_map_add, hone]

namespace State

variable {s t : State}

/-- The deposits of all holdings. -/
def deposits (s : State) : Nat := (all8.map fun t => s.store.deposit t * s.holdingsOf t).sum

/-- The deposit float. -/
def float (s : State) : Word64 := s.accountTable.hall.depositFloat

/-- The float, the holdings and the deposits of the types held stay as they are. -/
theorem DepositBooks.of_held (h : s.DepositBooks) (hfloat : t.float = s.float) (hheld : ∀ ty, t.holdingsOf ty = s.holdingsOf ty)
    (hdeposit : ∀ ty, 0 < s.holdingsOf ty → t.store.deposit? ty = s.store.deposit? ty) : t.DepositBooks where
  identity := by
    have hterm : ∀ ty, t.store.deposit ty * t.holdingsOf ty = s.store.deposit ty * s.holdingsOf ty := fun ty => by
      rw [hheld]
      rcases Nat.eq_zero_or_pos (s.holdingsOf ty) with hzero | hpos
      · rw [hzero, Nat.mul_zero, Nat.mul_zero]
      · rw [Store.deposit, hdeposit ty hpos, Store.deposit]
    show t.float = _
    simp only [hterm, hfloat]
    exact h.identity
  backed ty hpos := by
    rw [hheld] at hpos
    rw [hdeposit ty hpos]
    exact h.backed ty hpos

theorem DepositBooks.same (h : s.DepositBooks) (hfloat : t.float = s.float) (hheld : ∀ ty, t.holdingsOf ty = s.holdingsOf ty)
    (hstore : t.store = s.store) : t.DepositBooks := h.of_held hfloat hheld fun ty _ => by rw [hstore]

/-- The fleet and the yard tell what the accounts hold (R118). -/
theorem holdingsOf_of_conserved (hs : s.CrateBooks) (ht : t.CrateBooks) {ty : Fin 8} {d e : Nat}
    (h : (t.crateType ty).yard + (s.crateType ty).fleet + d = (s.crateType ty).yard + (t.crateType ty).fleet + e) :
    t.holdingsOf ty + e = s.holdingsOf ty + d := by
  have hold : (s.crateType ty).yard + s.holdingsOf ty = (s.crateType ty).fleet := hs.conserved ty
  have hnew : (t.crateType ty).yard + t.holdingsOf ty = (t.crateType ty).fleet := ht.conserved ty
  omega

theorem holdingsOf_congr (hs : s.CrateBooks) (ht : t.CrateBooks) (h : t.crates = s.crates) (ty : Fin 8) :
    t.holdingsOf ty = s.holdingsOf ty :=
  holdingsOf_of_conserved hs ht (d := 0) (e := 0) (by rw [crateType_congr h])

/-! ## Crates issued and returned (R121, R126) -/

theorem issueCrates_depositBooks (h : s.DepositBooks) (hs : s.CrateBooks) {a : Account} (ha : s.account? a.number = some a) {ty : Fin 8}
    {k d : Nat} (hd : s.store.deposit? ty = some d) (hstock : k ≤ (s.crateType ty).yard) (ht : (s.issueCrates a.number ty k d).CrateBooks) :
    (s.issueCrates a.number ty k d).DepositBooks := by
  have hstore : (s.issueCrates a.number ty k d).store = s.store := by simp
  have hheld : ∀ u, (s.issueCrates a.number ty k d).holdingsOf u = s.holdingsOf u + if u = ty then k else 0 := fun u => by
    refine holdingsOf_of_conserved hs ht (e := 0) ?_
    rw [crateType_congr (s.crates_issueCrates ..), crateType_modCrateType]
    split
    · next hu =>
      subst hu
      dsimp only
      omega
    · omega
  have hdeposit : s.store.deposit ty = d := by rw [Store.deposit, hd]; rfl
  refine ⟨?_, fun u hpos => ?_⟩
  · have hsum := sum_all8_add (fun u => s.store.deposit u * s.holdingsOf u)
      (fun u => s.store.deposit u * (s.issueCrates a.number ty k d).holdingsOf u) (ty := ty) (d := k * d) fun u => by
        rw [hheld, Nat.mul_add]
        split
        · next hu => rw [hu, hdeposit, Nat.mul_comm d k]
        · rw [Nat.mul_zero]
    rw [hstore, hsum, accountTable_issueCrates ha]
    dsimp only
    rw [h.identity, BitVec.ofNat_add]
  · rw [hstore]
    by_cases hu : u = ty
    · rw [hu, hd]
      rfl
    · rw [hheld, if_neg hu] at hpos
      exact h.backed u hpos

theorem settle_depositBooks (h : s.DepositBooks) (hs : s.CrateBooks) (g : Fin 2) (w : Session) {a : Account}
    (ha : s.account? a.number = some a) (ht : (s.settle g w a).CrateBooks) : (s.settle g w a).DepositBooks := by
  have hstore : (s.settle g w a).store = s.store := by simp
  have hheld : ∀ u, (s.settle g w a).holdingsOf u + w.credited a u = s.holdingsOf u := fun u => by
    refine holdingsOf_of_conserved hs ht (d := 0) ?_
    have hexcess : w.excess a u = w.counted[u] - w.credited a u := rfl
    have hcounted : w.credited a u ≤ w.counted[u] := Nat.min_le_left _ _
    rw [crateType_congr (s.crates_settle g w a), crateType_modGate, crateType_foldl_modCrateType]
    simp only [settledType]
    omega
  refine ⟨?_, fun u hpos => ?_⟩
  · have hsum : (all8.map fun u => s.store.deposit u * s.holdingsOf u).sum =
        (all8.map fun u => s.store.deposit u * (s.settle g w a).holdingsOf u).sum + s.closeDeposit w a := by
      rw [closeDeposit, sumOf, ← List.sum_map_add]
      refine congrArg (fun f : Fin 8 → Nat => (all8.map f).sum) (funext fun u => ?_)
      rw [← hheld u, Nat.mul_add, Nat.mul_comm (w.credited a u)]
    rw [hstore, accountTable_settle (by rw [ha]; rfl)]
    dsimp only
    rw [h.identity, hsum, BitVec.ofNat_add, add_sub_cancel_right]
  · rw [hstore]
    exact h.backed u (hpos.trans_le (Nat.le.intro (hheld u)))

/-! ## The store (R155, R156) -/

theorem deposit?_congr {st st' : Store} {ty : Fin 8} (h : st'.live (.crateDeposit ty) = st.live (.crateDeposit ty)) :
    st'.deposit? ty = st.deposit? ty := by rw [Store.deposit?, Store.deposit?, Store.contents?, Store.contents?, h]

/-- A completed write leaves the deposit of a type that accounts hold (R156). -/
theorem deposit?_written (h : s.DepositBooks) {w : WriteBuffer} (held : s.store.buffer = some w)
    (free : s.inUse w.target w.contents = false) {ty : Fin 8} (hpos : 0 < s.holdingsOf ty) :
    (s.store.complete w .ok).deposit? ty = s.store.deposit? ty := by
  by_cases htarget : w.target = .crateDeposit ty
  · obtain ⟨d, hd⟩ := Option.isSome_iff_exists.mp (h.backed ty hpos)
    have hsame : d = field w.contents 0 2 := by
      rw [htarget] at free
      simp only [inUse, hd, Option.any_some, hpos, decide_true, Bool.and_true, bne_eq_false_iff_eq] at free
      exact free
    have hnew : (s.store.complete w .ok).contents? (.crateDeposit ty) = some w.contents := htarget ▸ Store.contents?_complete held
    rw [Store.deposit?, hnew, hd, hsame]
    rfl
  · refine deposit?_congr ?_
    rw [Store.live_complete held, if_neg fun h => htarget h.1]

theorem live_lose (st : Store) (id : RecordId) : st.lose.live id = st.live id := by
  unfold Store.lose Store.suspend Store.live
  cases st.buffer <;> rfl

/-! ## The float -/

theorem float_post (s : State) (n : Nat) (d : Int) : (s.post n d).float = s.float := by
  unfold post
  split <;> rfl

theorem float_endWeighing (s : State) (i : Fin 8) (result : WeighResult) (gross : Option Int) (number : Option Nat)
    (ticket : Option TicketStatus) : (s.endWeighing i result gross number ticket).float = s.float := by
  unfold endWeighing releaseWeighing
  (repeat' split) <;> rfl

theorem float_retire (s : State) (lot : Lot) : (s.retire lot).float = s.float := by
  unfold retire
  split <;> rfl

theorem float_completeOrder (s : State) (b : Fin 4) (code : IceCode) : (s.completeOrder b code).float = s.float := by
  unfold completeOrder
  split
  · rfl
  · exact float_post (s.modAccount _ _) _ _

theorem float_transferCrates (s : State) (giver taker : Nat) (ty : Fin 8) (k d : Nat) :
    (s.transferCrates giver taker ty k d).float = s.float :=
  (float_post _ _ _).trans (float_post ((s.modHolding giver ty (· - k)).modHolding taker ty (· + k)) _ _)

theorem float_win (s : State) (r : RostrumId) (c : Candidate) (v : Valuation) : (s.win r c v).float = s.float := by
  have hsale : (s.postSale c v).float = s.float :=
    (float_post (s.debit c.account.number v.buyerTotal) c.lot.boat v.boatCredit).trans (float_post s _ _)
  rw [float, accountTable_win]
  split <;> exact hsale

end State

end Sys2Proof.Machine
end

section
/-! PROOF. Every step conserves the crates and their deposits (R28, R111, R118, R156). -/

namespace Sys2Proof.Machine

open State in
/-- Every elementary change keeps the deposit books. -/
theorem Change.depositBooks {s t : State} (h : Change s t) (hstore : s.store.Sound) (hs : s.CrateBooks) (ht : t.CrateBooks)
    (hd : s.DepositBooks) : t.DepositBooks := by
  cases h
  case store f _ live => exact hd.of_held rfl (fun _ => rfl) fun ty _ => deposit?_congr (live hstore _)
  case written w held free => exact hd.of_held rfl (fun _ => rfl) fun ty hpos => deposit?_written hd held free hpos
  case weighingEnded => exact hd.same (float_endWeighing ..) (holdingsOf_congr hs ht (by simp)) (by simp)
  case weighingTaken =>
    exact hd.same (float_endWeighing (s.modLot _ _) ..) (holdingsOf_congr hs ht (by simp)) (by simp)
  case retired => exact hd.same (float_retire ..) (holdingsOf_congr hs ht (by simp)) (by simp)
  case won => exact hd.same (float_win ..) (holdingsOf_congr hs ht (by simp)) (by simp)
  case posted => exact hd.same (float_post ..) (holdingsOf_congr hs ht (by simp)) (by simp)
  case hall f hfloat => exact hd.same (hfloat _) (fun _ => rfl) rfl
  case issued a ty n d ha hdeposit hstock => exact issueCrates_depositBooks hd hs ha hdeposit hstock ht
  case settled g w a ha => exact settle_depositBooks hd hs g w ha ht
  case transferred => exact hd.same (float_transferCrates ..) (holdingsOf_congr hs ht (by simp)) (by simp)
  case crates => exact hd.same rfl (fun _ => rfl) rfl
  case gate => exact hd.same rfl (fun _ => rfl) rfl
  case orderCompleted => exact hd.same (float_completeOrder ..) (holdingsOf_congr hs ht (by simp)) (by simp)
  case deskAssigned r d buyer _ _ _ _ =>
    exact hd.same (by simp [float, modDeskCount]) (holdingsOf_congr hs ht (by simp)) (by simp)
  case deskReleased r d buyer _ =>
    exact hd.same (by simp [float, modDeskCount]) (holdingsOf_congr hs ht (by simp)) (by simp)
  case opened => exact hd.same rfl (holdingsOf_congr hs ht rfl) rfl
  case accountAdded => exact hd.same rfl (holdingsOf_congr hs ht rfl) rfl
  case accountClosed => exact hd.same rfl (holdingsOf_congr hs ht rfl) rfl
  case accountSet => exact hd.same rfl (holdingsOf_congr hs ht rfl) rfl
  case orderTaken => exact hd.same rfl (holdingsOf_congr hs ht rfl) rfl
  case handedIn => exact hd.same rfl (holdingsOf_congr hs ht rfl) rfl
  all_goals exact hd.same (by simp [float]) (holdingsOf_congr hs ht (by simp)) (by simp)

namespace State

variable {s : State}

/-- Cleared records owe no deposit. -/
theorem depositBooks_of_empty (ha : s.accountTable = AccountTable.empty) : s.DepositBooks := by
  have hzero : ∀ ty, s.holdingsOf ty = 0 := fun ty => by rw [holdingsOf, ha]; rfl
  refine ⟨?_, fun ty hpos => absurd (hzero ty) hpos.ne'⟩
  simp only [hzero, Nat.mul_zero, ha]
  rfl

theorem loseVolatile_depositBooks (h : s.DepositBooks) : s.loseVolatile.DepositBooks :=
  h.of_held (by simp [float]) (fun ty => by simp [holdingsOf]) fun ty _ => deposit?_congr (by simp [live_lose])

theorem warmReconcile_depositBooks (h : s.DepositBooks) (cause : RestartCause) : (s.warmReconcile.powered cause).DepositBooks := by
  have haccounts := s.warmReconcile_reconciled.accounts
  refine h.same ?_ (fun ty => ?_) (by simp)
  · show s.warmReconcile.accountTable.hall.depositFloat = _
    rw [haccounts]
    rfl
  · show heldIn s.warmReconcile.accountTable.accounts ty = _
    rw [haccounts, heldIn, List.map_map]
    rfl

theorem tick_depositBooks (h : s.DepositBooks) : s.tick.DepositBooks :=
  h.same (by simp [float]) (fun ty => by simp [holdingsOf]) (by simp)

end State

/-- What the deposit books rest on. -/
def State.Stocked (s : State) : Prop := (s.InTrade ∧ s.accountTable.Tallied) ∧ s.CrateBooks

theorem stocked_kept : KeptGiven (fun _ => True) State.Stocked := inTrade_tallied_kept.and crateBooks_kept

theorem storeSound_kept : KeptGiven (fun _ => True) fun s => s.store.Sound where
  change _ _ h _ := h.store_sound
  cleared _ _ _ hs := by simpa using hs
  lost _ _ hs := by simpa using hs.lose
  cold _ _ hs := hs.loseBuffer _
  warm _ _ _ hs := by simpa using hs

theorem depositBooks_kept : KeptGiven (fun s => s.Stocked ∧ s.store.Sound) State.DepositBooks where
  change _ _ h hp := h.depositBooks hp.2 hp.1.2 (h.crateBooks hp.1.1.1.2.ordered hp.1.1.1.2.tied hp.1.1.2 hp.1.2)
  cleared _ _ _ _ := State.depositBooks_of_empty (by simp)
  lost _ _ hs := State.loseVolatile_depositBooks hs
  cold _ _ _ := State.depositBooks_of_empty rfl
  warm _ _ _ hs := State.warmReconcile_depositBooks hs _

theorem State.stocked_withPending {s : State} (h : s.Stocked) (q : List Instr) : State.Stocked { s with pending := q } :=
  ⟨State.inTrade_tallied_withPending h.1 q, h.2.same rfl (.of_eq rfl) (pool_congr rfl)⟩

theorem State.tick_stocked {s : State} (h : s.Stocked) : s.tick.Stocked := ⟨tick_inTrade_tallied h.1, tick_crateBooks h.2⟩

/-- Settles O18: every elementary change moves holdings, yard, fleet and bound crates together, and deposits with the float. -/
theorem stepConservesCrates : Obligations.StepConservesCrates := by
  intro s t ht hr hl hc h
  have hstocked : s.Stocked := ⟨⟨⟨hr, hl⟩, ht⟩, hc⟩
  refine ⟨(stocked_kept.step (fun _ q h => State.stocked_withPending h q) (fun _ => State.tick_stocked) h hstocked).2, fun hstore hd => ?_⟩
  refine (((stocked_kept.and (storeSound_kept.mono fun _ _ => trivial)).and depositBooks_kept).step (fun s q hs => ?_) (fun s hs => ?_) h
    ⟨⟨hstocked, hstore⟩, hd⟩).2
  · exact ⟨⟨State.stocked_withPending hs.1.1 q, hs.1.2⟩, hs.2.same rfl (fun _ => rfl) rfl⟩
  · exact ⟨⟨State.tick_stocked hs.1.1, by simpa using hs.1.2⟩, State.tick_depositBooks hs.2⟩

end Sys2Proof.Machine
end

section
/-! PROOF. Every step keeps the keys and the snapshots of the lots, the counter and the day within their ranges (R25, R26, R35, R44). -/

namespace Sys2Proof.Machine

/-- What the soundness of the lot table asks of a lot. -/
def Lot.label (l : Lot) : Key × Option Snapshot := (l.key, l.snapshot)

/-- A key within its ranges, and a snapshot whose levy is in its range. -/
def Lot.Labelled (l : Lot) : Prop := 1 ≤ l.key.number ∧ l.key.number ≤ 9999 ∧ l.key.part ≤ 7 ∧ ∀ x ∈ l.snapshot, x.levy ≤ 50

theorem Lot.Labelled.of_label {l m : Lot} (h : l.Labelled) (hm : m.label = l.label) : m.Labelled := by
  obtain ⟨hkey, hsnapshot⟩ := Prod.mk.inj hm
  rw [Lot.Labelled, hkey, hsnapshot]
  exact h

/-- What the soundness of the lot table speaks of. -/
def LotTable.frame (T : LotTable) : List (Key × Option Snapshot) × Nat × Nat := (T.lots.map Lot.label, T.counter, T.day)

namespace LotTable

variable {T U : LotTable}

theorem Sound.labelled (h : T.Sound) {l : Lot} (hl : l ∈ T.lots) : l.Labelled := h.2.2.2.2 l hl

/-- Other lots, under the same counter in the same day. -/
theorem Sound.withLots (h : T.Sound) (hcounter : U.counter = T.counter) (hday : U.day = T.day) (hroom : U.lots.length ≤ 1024)
    (hlots : ∀ l ∈ U.lots, l.Labelled) : U.Sound := by
  obtain ⟨-, least, most, day, -⟩ := h
  exact ⟨hroom, hcounter ▸ least, hcounter ▸ most, hday ▸ day, hlots⟩

theorem Sound.of_frame (h : T.Sound) (hU : U.frame = T.frame) : U.Sound := by
  simp only [frame, Prod.mk.injEq] at hU
  obtain ⟨hlots, hcounter, hday⟩ := hU
  have hlength : U.lots.length = T.lots.length := by simpa using congrArg List.length hlots
  refine h.withLots hcounter hday (hlength ▸ h.1) fun l hl => ?_
  have hmem : l.label ∈ T.lots.map Lot.label := hlots ▸ List.mem_map_of_mem hl
  obtain ⟨m, hm, heq⟩ := List.mem_map.mp hmem
  exact (h.labelled hm).of_label heq.symm

/-- A change of the lots, each in its place and each with its label. -/
theorem frame_map {f : Lot → Lot} (hU : U = { T with lots := T.lots.map f }) (hf : ∀ l, (f l).label = l.label) : U.frame = T.frame := by
  subst hU
  simp only [frame, List.map_map, Prod.mk.injEq, and_true]
  exact List.map_congr_left fun l _ => hf l

/-- The empty table is sound (R48). -/
theorem empty_sound : LotTable.empty.Sound := by simp [Sound, empty]

end LotTable

/-- The levy of a snapshot taken from a sound store. -/
theorem State.valuation_levy {s : State} (h : s.store.Sound) (lot : Lot) : (s.valuation lot).2.levy ≤ 50 := by
  show (((unitIndex? 64 lot.species).bind s.store.species?).getD (speciesOf [])).levy ≤ 50
  cases hspecies : (unitIndex? 64 lot.species).bind s.store.species? with
  | none => decide
  | some x =>
    obtain ⟨i, -, hx⟩ := Option.bind_eq_some_iff.mp hspecies
    obtain ⟨bs, hbs, rfl⟩ := Option.map_eq_some_iff.mp hx
    have hok := h.contentsOk (id := .species i) nofun hbs
    simp only [RecordId.contentsOk, within, Bool.and_eq_true, decide_eq_true_eq] at hok
    exact hok.1.2.2

/-- The search stays within the numbers (R25). -/
theorem searchNumber_range (lots : List Lot) {fuel c : Nat} {w : Bool} (least : 1 ≤ c) (most : c ≤ 9999) :
    (1 ≤ (searchNumber lots fuel c w).1 ∧ (searchNumber lots fuel c w).1 ≤ 9999) ∧
      1 ≤ (searchNumber lots fuel c w).2.1 ∧ (searchNumber lots fuel c w).2.1 ≤ 9999 := by
  induction fuel generalizing c w with
  | zero => exact ⟨⟨least, most⟩, nextNumber_pos c, nextNumber_le c⟩
  | succ fuel ih =>
    unfold searchNumber
    split
    · exact ih (nextNumber_pos c) (nextNumber_le c)
    · exact ⟨⟨least, most⟩, nextNumber_pos c, nextNumber_le c⟩

theorem length_insertLot (new : Lot) (ls : List Lot) : (insertLot new ls).length = ls.length + 1 := (State.insertLot_perm new ls).length_eq

namespace State

variable {s t : State}

/-! ## What an operation leaves of the labels -/

theorem frame_modLot (s : State) (k : Key) {f : Lot → Lot} (h : t.lotTable = (s.modLot k f).lotTable) (hf : ∀ l, (f l).label = l.label) :
    t.lotTable.frame = s.lotTable.frame :=
  LotTable.frame_map (f := fun l => if l.key = k then f l else l) h fun l => by split <;> [exact hf l; rfl]

theorem frame_headInsert (s : State) (r : RostrumId) (k : Key) : (s.headInsert r k).lotTable.frame = s.lotTable.frame :=
  LotTable.frame_map (f := Lot.displacedBy ((s.rostrum r).displaces (some k))) (lotTable_headInsert ..) fun l => by
    unfold Lot.displacedBy
    split <;> rfl

theorem frame_putBack (s : State) (r : RostrumId) : (s.putBack r).lotTable.frame = s.lotTable.frame := by
  unfold putBack
  split
  · rfl
  · next o _ => exact (frame_headInsert ..).trans (frame_modLot s o.key rfl fun _ => rfl)

theorem frame_startOffer (s : State) (r : RostrumId) : (s.startOffer r).lotTable.frame = s.lotTable.frame := by
  cases hq : (s.rostrum r).queue with
  | nil => rw [startOffer_nil hq]
  | cons k rest => exact frame_modLot s k (f := fun l => { l with state := .onClock }) (by simp [startOffer_cons hq]) fun _ => rfl

theorem frame_weighingEnded (s : State) (i : Fin 8) {result : WeighResult} (hr : result ≠ .taken) (gross : Option Int) :
    (s.endWeighing i result gross none none).lotTable.frame = s.lotTable.frame := by
  cases hp : (s.lane i).weighing with
  | none => simp [endWeighing, hp]
  | some p => exact frame_modLot s p.key (endWeighing_blocks hp hr gross none none).1 fun _ => rfl

theorem unqueue_lotTable (s : State) (lot : Lot) : (s.unqueue lot).lotTable = s.lotTable := by
  unfold unqueue
  cases lot.rostrum <;> simp

theorem frame_dropPending (s : State) (l : Lot) : (s.dropPending l).lotTable.frame = s.lotTable.frame := by
  unfold dropPending
  split
  · rfl
  · exact frame_modLot s l.key (f := fun l => { l with pending := none }) (by simp) fun _ => rfl

theorem frame_putBackFound (s : State) (l : Lot) : (s.putBackFound l).lotTable.frame = s.lotTable.frame := by
  unfold putBackFound
  split
  · split
    · rfl
    · exact (frame_headInsert ..).trans (frame_modLot s l.key rfl fun _ => rfl)
  · rfl

theorem frame_warmReconcile (s : State) : s.warmReconcile.lotTable.frame = s.lotTable.frame := by
  have hwarm : s.warmReconcile.lotTable = s.reconcileLots.lotTable := by simp [warmReconcile]
  rw [hwarm]
  exact (foldl_keeps (g := (·.lotTable.frame)) frame_putBackFound s.lotTable.lots _).trans
    (foldl_keeps (g := (·.lotTable.frame)) frame_dropPending s.lotTable.lots s)

theorem frame_postSale (s : State) (c : Candidate) (v : Valuation) : (s.postSale c v).lotTable.frame = s.lotTable.frame :=
  frame_modLot s c.lot.key (f := fun l => { l with state := .sold, sale := some (c.sale v) }) (lotTable_postSale ..) fun _ => rfl

/-! ## Lots that come and are valued -/

theorem openedLot_lots_sound (h : s.lotTable.Sound) (boat species : Nat) (ty : Fin 8) (hroom : s.lotTable.lots.length < 1024) :
    (s.openedLot boat species ty).lotTable.Sound := by
  obtain ⟨-, least, most, day, lots⟩ := h
  obtain ⟨⟨hpos, hle⟩, hpos', hle'⟩ := searchNumber_range s.lotTable.lots (fuel := Config.maxLots) (w := s.lotTable.dayWrap) least most
  refine ⟨?_, hpos', hle', day, fun l hl => ?_⟩
  · show (insertLot _ s.lotTable.lots).length ≤ 1024
    rw [length_insertLot]
    exact hroom
  · rcases mem_insertLot.mp (show l ∈ insertLot _ s.lotTable.lots from hl) with rfl | hmem
    · exact ⟨hpos, hle, Nat.zero_le _, nofun⟩
    · exact lots l hmem

theorem closeLot_lots_sound (h : s.lotTable.Sound) (hstore : s.store.Sound) (lot : Lot) : (s.closeLot lot).lotTable.Sound := by
  refine h.withLots rfl rfl ?_ fun l hl => ?_
  · show (List.map _ s.lotTable.lots).length ≤ 1024
    rw [List.length_map]
    exact h.1
  · obtain ⟨m, hm, rfl⟩ := List.mem_map.mp (show l ∈ List.map _ s.lotTable.lots from hl)
    obtain ⟨hpos, hle, hpart, hlevy⟩ := h.labelled hm
    split
    · exact ⟨hpos, hle, hpart, fun x hx => Option.some.inj hx ▸ valuation_levy hstore lot⟩
    · exact ⟨hpos, hle, hpart, hlevy⟩

/-- A part sale leaves a remainder with room for it in the key and in the table (R65). -/
theorem partCheck_room {lot : Lot} {k : Nat} (h : s.partCheck lot k = none) : lot.key.part ≠ 7 ∧ s.lotTable.lots.length < 1024 := by
  unfold partCheck at h
  extract_lets at h
  split at h; · cases h
  next hpart =>
    split at h; · cases h
    split at h; · cases h
    next hroom => exact ⟨hpart, Nat.not_le.mp hroom⟩

theorem win_lots_sound (h : s.lotTable.Sound) {r : RostrumId} {d : Fin 96} {quantity : Nat} {c : Candidate} {v : Valuation}
    (hj : s.judgePress r d quantity = .ok (c, v)) : (s.win r c v).lotTable.Sound := by
  obtain ⟨o, -, hlot, -, -, hcheck⟩ := judgePress_lot hj
  have hsold : (s.postSale c v).lotTable.Sound := h.of_frame (frame_postSale ..)
  cases hpart : c.isPart with
  | false => exact (lotTable_win_whole hpart r v).symm ▸ hsold
  | true =>
    obtain ⟨hlast, hroom⟩ := partCheck_room (hcheck hpart)
    obtain ⟨hpos, hle, hpartNo, hlevy⟩ := h.labelled (lot?_mem hlot)
    have hnew : ((s.postSale c v).addLot (c.remainder r)).lotTable.Sound := by
      refine hsold.withLots rfl rfl ?_ fun l hl => ?_
      · show (insertLot _ (s.postSale c v).lotTable.lots).length ≤ 1024
        rw [length_insertLot, lotTable_postSale, List.length_map]
        exact hroom
      · rcases mem_insertLot.mp (show l ∈ insertLot _ (s.postSale c v).lotTable.lots from hl) with rfl | hmem
        · have hnext : c.lot.key.part + 1 ≤ 7 := by omega
          exact ⟨hpos, hle, hnext, hlevy⟩
        · exact hsold.labelled hmem
    refine hnew.of_frame (LotTable.frame_map (f := Lot.displacedBy ((s.rostrum r).displaces (some (c.remainder r).key))) ?_ fun l => ?_)
    · rw [lotTable_win_part hpart, addLot_lotTable, lotTable_postSale]
      rfl
    · unfold Lot.displacedBy
      split <;> rfl

end State

/-- Every elementary change keeps the lot table sound, with snapshots from a sound store. -/
theorem Change.lots_sound {s t : State} (h : Change s t) (hstore : s.store.Sound) (hs : s.lotTable.Sound) : t.lotTable.Sound := by
  cases h
  case weighingEnded i result gross hr => exact hs.of_frame (State.frame_weighingEnded s i hr gross)
  case weighingTaken i p legal number ticket hp _ _ _ =>
    rw [State.endWeighing_taken (s := s.modLot p.key _) hp]
    exact hs.of_frame (State.frame_modLot s p.key rfl fun _ => rfl)
  case opened boat species ty a _ _ hroom => exact State.openedLot_lots_sound hs boat species ty hroom
  case handedIn lot i c _ _ _ _ _ _ _ _ _ _ _ =>
    exact hs.of_frame (State.frame_modLot s lot.key (f := fun l => { l with pending := some { lane := unitNumber i, crates := c } })
      (by simp [State.handIn, State.commit]) fun _ => rfl)
  case closed lot _ _ _ _ _ => exact State.closeLot_lots_sound hs hstore lot
  case retired lot _ _ =>
    rw [State.retire_lotTable]
    exact hs.withLots rfl rfl ((List.length_filter_le ..).trans hs.1) fun l hl => hs.labelled (List.mem_of_mem_filter hl)
  case queued r atHead override lot _ _ _ =>
    exact hs.of_frame (State.frame_modLot s lot.key
      (f := fun l => { l with override := overrideOf override, rostrum := some r, state := .queued }) (by simp [State.enqueue]) fun _ => rfl)
  case unqueued lot _ _ =>
    exact (State.unqueue_lotTable s lot ▸ hs : (s.unqueue lot).lotTable.Sound).of_frame (State.frame_modLot _ lot.key rfl fun _ => rfl)
  case dayBegun =>
    obtain ⟨room, -, -, -, lots⟩ := hs
    exact ⟨room, Nat.le_refl 1, Nat.le_add_left 1 9998, Nat.le_of_lt_succ (Nat.mod_lt _ (by decide)), lots⟩
  case offerStarted r _ _ => exact hs.of_frame (State.frame_startOffer s r)
  case putBack r f _ _ _ _ =>
    rw [State.modRostrum_lotTable]
    exact hs.of_frame (State.frame_putBack s r)
  case unsold r o f _ _ _ _ _ =>
    rw [State.modRostrum_lotTable]
    exact hs.of_frame (State.frame_modLot s o.key rfl fun _ => rfl)
  case won r d quantity c v hj => exact State.win_lots_sound hs hj
  all_goals exact hs.of_frame (congrArg LotTable.frame (by simp))

theorem lotsSound_kept : KeptGiven (fun s => s.store.Sound) fun s => s.lotTable.Sound where
  change _ _ h hstore := h.lots_sound hstore
  cleared _ _ _ _ := by simpa using LotTable.empty_sound
  lost s _ hs := State.loseVolatile_lotTable s ▸ hs
  cold _ _ _ := LotTable.empty_sound
  warm s _ _ hs := hs.of_frame s.frame_warmReconcile

end Sys2Proof.Machine
end

section
/-! PROOF. The ranges of one lot record through what happens to it (R29, R31, R34, R44). -/

namespace Sys2Proof.Machine

/-! ## Figures (R34, R79) -/

theorem netValuation_dvd (n gross e t a : Nat) : (e : Int) ∣ (netValuation n gross e t a).net := Int.dvd_mul_left ..

/-- The net is at most the gross (R34). -/
theorem netValuation_le (n gross : Nat) {e : Nat} (he : 0 < e) (t a : Nat) : (netValuation n gross e t a).net ≤ gross := by
  let rest : Int := (gross : Int) - (n * t : Nat)
  have hallowance : 0 ≤ if 0 < rest then rest * a / 1000 else 0 := by
    split
    · next hpos => exact Int.ediv_nonneg (Int.mul_nonneg hpos.le (Int.natCast_nonneg a)) (by decide)
    · exact le_rfl
  have hfloor : (netValuation n gross e t a).net ≤ rest - if 0 < rest then rest * a / 1000 else 0 := by
    simp only [netValuation, rest, Int.natCast_mul]
    exact Int.ediv_mul_le _ (by omega)
  have hrest : rest ≤ gross := by omega
  omega

theorem partNet_dvd (net k n e : Nat) : e ∣ partNet net k n e := Dvd.intro_left _ rfl

theorem division_pos {e : Nat} (he : e ∈ [1, 2, 5, 10, 20, 50, 100]) : 0 < e := by
  simp only [List.mem_cons, List.not_mem_nil, or_false] at he
  omega

namespace Lot

/-- What the ranges of a lot record speak of, besides its being OPEN. -/
def figures (l : Lot) :
    Nat × Nat × Option LotPending × List Weighing × Option Nat × Option Nat × Option Snapshot × Option Int :=
  (l.key.part, l.n, l.pending, l.weighings, l.gross, l.division, l.snapshot, l.net)

namespace Ranged

variable {l m : Lot}

/-- A lot of the same figures that is OPEN where it was. -/
theorem moved (h : l.Ranged) (hfigures : m.figures = l.figures) (hstate : m.state = .opened ↔ l.state = .opened) : m.Ranged := by
  simp only [figures, Prod.mk.injEq] at hfigures
  obtain ⟨hpart, hn, hpending, hweighings, hgross, hdivision, hsnapshot, hnet⟩ := hfigures
  obtain ⟨crates, weighings, entries, pending, gross, weighed, opened, division, divided, valued⟩ := h
  constructor
  case opened => exact fun ho => hpart.trans (opened (hstate.mp ho))
  case valued =>
    intro hs
    rw [hsnapshot, hdivision, hnet]
    exact valued fun ho => hs (hstate.mpr ho)
  all_goals simpa only [hpart, hn, hpending, hweighings, hgross, hdivision]

/-- A pending part goes. -/
theorem unpended (h : l.Ranged) : ({ l with pending := none } : Lot).Ranged := by
  obtain ⟨crates, weighings, entries, -, gross, weighed, opened, division, divided, valued⟩ := h
  exact ⟨(Nat.le_add_right ..).trans crates, (Nat.le_add_right ..).trans weighings, entries, nofun, gross, weighed, opened, division,
    divided, valued⟩

/-- A pending part comes (R29). -/
theorem handedIn (h : l.Ranged) (p : LotPending) (hweighings : l.weighings.length < 16) (hcrates : l.n + p.crates ≤ 255)
    (hlane : 1 ≤ p.lane ∧ p.lane ≤ 8) (hp : 1 ≤ p.crates ∧ p.crates ≤ 99) : ({ l with pending := some p } : Lot).Ranged := by
  obtain ⟨-, -, entries, -, gross, weighed, opened, division, divided, valued⟩ := h
  exact ⟨hcrates, hweighings, entries, fun q hq => Option.some.inj hq ▸ ⟨hlane.1, hlane.2, hp⟩, gross, weighed, opened, division, divided,
    valued⟩

/-- The pending part enters as a weighing (R31). -/
theorem enter (h : l.Ranged) {p : LotPending} (hp : l.pending = some p) (hopened : l.state = .opened) {g e : Nat}
    (hg : l.gross.getD 0 + g ≤ 9600000) (he : e ∈ [1, 2, 5, 10, 20, 50, 100]) :
    (l.enter { lane := p.lane, gross := g, crates := p.crates } e).Ranged := by
  obtain ⟨crates, weighings, entries, pending, -, weighed, opened, division, -, -⟩ := h
  rw [hp] at crates weighings
  constructor
  case crates => exact crates
  case weighings => simpa [Lot.enter] using weighings
  case entries =>
    intro w hw
    rcases List.mem_append.mp hw with hold | hnew
    · exact entries w hold
    · obtain ⟨least, most, hp, hp'⟩ := pending p hp
      obtain rfl := List.mem_singleton.mp hnew
      exact ⟨least, most, hp, hp', (Nat.le_add_left ..).trans hg⟩
  case pending => nofun
  case gross => exact fun x hx => Option.some.inj hx ▸ hg
  case weighed => exact iff_of_true rfl (opened hopened)
  case opened => exact opened
  case division =>
    intro x hx
    obtain rfl := Option.some.inj hx
    cases hd : l.division with
    | none => exact he
    | some d => exact division d hd
  case divided => exact fun _ => rfl
  case valued => exact fun hs => absurd hopened hs

/-- A lot is closed and valued (R33, R34, R35). -/
theorem closed (h : l.Ranged) (hweighed : l.weighings ≠ []) (t a : Nat) (d : Option Deductions) (x : Snapshot)
    (least : 20 * ((l.division.getD 0 : Nat) : Int) ≤ (netValuation l.n (l.gross.getD 0) (l.division.getD 0) t a).net) :
    ({ l with
        state := .ready, deductions := d, net := some (netValuation l.n (l.gross.getD 0) (l.division.getD 0) t a).net,
        snapshot := some x } : Lot).Ranged := by
  obtain ⟨crates, weighings, entries, pending, gross, weighed, opened, division, divided, -⟩ := h
  obtain ⟨e, he⟩ := Option.isSome_iff_exists.mp (divided hweighed)
  refine ⟨crates, weighings, entries, pending, gross, weighed, nofun, division, divided, fun _ => ⟨rfl, e, he, _, rfl, ?_⟩⟩
  rw [he, Option.getD_some] at least ⊢
  refine ⟨netValuation_dvd .., least, (netValuation_le _ _ (division_pos (division e he)) t a).trans ?_⟩
  cases hg : l.gross with
  | none => exact Int.natCast_nonneg 9600000
  | some g => exact Int.ofNat_le.mpr (gross g hg)

/-- A new lot (R27). -/
theorem ofOpened (number boat species : Nat) (t : Fin 8) : (Lot.opened { number, part := 0 } boat species t).Ranged := by
  constructor <;> simp [Lot.opened]

end Ranged

end Lot

/-- The remainder of a part sale (R44, R65). -/
theorem Candidate.remainder_ranged {c : Candidate} {s : State} (h : c.lot.Ranged) (hs : c.lot.state ≠ .opened) (hpart : c.isPart = true)
    (hnet : c.net = soldNet c.lot c.k) (hcheck : s.partCheck c.lot c.k = none) (r : RostrumId) : (c.remainder r).Ranged := by
  obtain ⟨crates, -, -, -, -, -, -, division, -, valued⟩ := h
  obtain ⟨hsnapshot, e, he, net, hn, hdvd, hleast, hmost⟩ := valued hs
  obtain ⟨N, rfl⟩ := Int.eq_ofNat_of_zero_le (show 0 ≤ net by omega)
  have hsold : c.net = partNet N c.k c.lot.n e := by
    have hlt : c.k < c.lot.n := of_decide_eq_true hpart
    rw [hnet, soldNet, if_pos hlt, hn, he]
    rfl
  have hrest : 20 * e ≤ N - partNet N c.k c.lot.n e := by
    rw [State.partCheck_eq hn he] at hcheck
    split at hcheck; · cases hcheck
    split at hcheck; · cases hcheck
    next hsmall => exact Nat.not_lt.mp fun hlt => hsmall (.inr hlt)
  have hpos := division_pos (division e he)
  constructor
  case crates =>
    show c.lot.n - c.k + 0 ≤ 255
    omega
  case weighings => exact Nat.zero_le _
  case entries | pending | gross => nofun
  case weighed => exact iff_of_false nofun nofun
  case opened => nofun
  case division => exact division
  case divided => exact fun hw => absurd rfl hw
  case valued =>
    refine fun _ => ⟨hsnapshot, e, he, (N : Int) - c.net, ?_, ?_, ?_, ?_⟩
    · show some (c.lot.net.getD 0 - (c.net : Int)) = _
      rw [hn]
      rfl
    · exact Int.dvd_sub hdvd (Int.natCast_dvd_natCast.mpr (hsold ▸ partNet_dvd ..))
    · rw [hsold]
      omega
    · omega

end Sys2Proof.Machine
end

section
/-! PROOF. Every elementary change keeps the lots within their ranges (R29, R31, R34, R44) and the lanes in use calibrated (R15). -/

namespace Sys2Proof.Machine

namespace State

variable {s t : State}

/-! ## Lots -/

/-- A change of one lot. -/
theorem ranged_modLot (h : s.lotTable.Ranged) (ho : s.lotTable.Ordered) {k : Key} {lot : Lot} (hl : s.lot? k = some lot)
    {f : Lot → Lot} (ht : t.lotTable = (s.modLot k f).lotTable) (hf : lot.Ranged → (f lot).Ranged) : t.lotTable.Ranged := by
  rw [ht]
  intro m hm
  obtain ⟨l, hmem, rfl⟩ := List.mem_map.mp hm
  split
  · next hk =>
    obtain rfl := ho.eq_of_key hmem (lot?_mem hl) (hk.trans (lot?_key hl).symm)
    exact hf (h l hmem)
  · exact h l hmem

/-- A change of one lot's state between two past OPEN. -/
theorem ranged_moveLot (h : s.lotTable.Ranged) (ho : s.lotTable.Ordered) {k : Key} {lot : Lot} (hl : s.lot? k = some lot)
    (hstate : lot.state ≠ .opened) {f : Lot → Lot} (ht : t.lotTable = (s.modLot k f).lotTable) (hf : (f lot).figures = lot.figures)
    (hnew : (f lot).state ≠ .opened) : t.lotTable.Ranged :=
  ranged_modLot h ho hl ht fun hr => hr.moved hf (iff_of_false hnew hstate)

theorem ranged_congr (h : s.lotTable.Ranged) (ht : t.lotTable.lots = s.lotTable.lots) : t.lotTable.Ranged := fun l hl => h l (ht ▸ hl)

/-- The tail that a full queue loses was past OPEN. -/
theorem ranged_displaced {ls : List Lot} {tail : Option Key} (h : ∀ l ∈ ls, l.Ranged)
    (hd : ∀ l ∈ ls, tail = some l.key → l.state ≠ .opened) : ∀ l ∈ ls.map (Lot.displacedBy tail), l.Ranged := by
  intro m hm
  obtain ⟨l, hl, rfl⟩ := List.mem_map.mp hm
  unfold Lot.displacedBy
  split
  · next htail => exact (h l hl).moved rfl (iff_of_false nofun (hd l hl htail.symm))
  · exact h l hl

theorem not_opened_of_queued (ho : s.lotTable.Ordered) (ht : s.links.Tied) {r : RostrumId} {l : Lot} (hl : l ∈ s.lotTable.lots)
    {key : Option Key} (hd : (s.rostrum r).displaces key = some l.key) : l.state ≠ .opened := by
  rw [queued_of_links ho ht hl (Rostrum.displaces_mem hd)]
  decide

theorem putBack_ranged (h : s.lotTable.Ranged) (ho : s.lotTable.Ordered) (ht : s.links.Tied) (r : RostrumId) :
    (s.putBack r).lotTable.Ranged := by
  cases hoffer : (s.rostrum r).offer with
  | none => exact ranged_congr h (by simp [putBack, hoffer])
  | some o =>
    obtain ⟨lot, hlot, hclock, -⟩ := offer_of_links ht hoffer
    have hback : s.putBack r = (s.modLot o.key fun l => { l with state := .queued }).headInsert r o.key := by simp [putBack, hoffer]
    have hqueued : (s.modLot o.key fun l => { l with state := .queued }).lotTable.Ranged :=
      ranged_moveLot h ho hlot (by rw [hclock]; decide) rfl rfl nofun
    rw [hback, lotTable_headInsert, rostrum_modLot_frame]
    refine ranged_displaced hqueued fun l hl hd => ?_
    obtain ⟨x, hx, rfl⟩ := List.mem_map.mp hl
    split at hd
    · next hk => simp [hk]
    · next hk =>
      rw [if_neg hk]
      exact not_opened_of_queued ho ht hx hd

theorem startOffer_ranged (h : s.lotTable.Ranged) (ho : s.lotTable.Ordered) (ht : s.links.Tied) (r : RostrumId) :
    (s.startOffer r).lotTable.Ranged := by
  cases hq : (s.rostrum r).queue with
  | nil => exact ranged_congr h (by rw [startOffer_nil hq])
  | cons k rest =>
    have hk : k ∈ (s.rostrum r).queue := hq ▸ List.mem_cons_self
    obtain ⟨p, hp, -⟩ := ht.queued r k hk
    obtain ⟨lot, hlot, -⟩ := links_lot_eq_some_iff.mp hp
    have hstate := queued_of_links ho ht (lot?_mem hlot) ((lot?_key hlot).symm ▸ hk)
    exact ranged_moveLot h ho hlot (by rw [hstate]; decide) (f := fun l => { l with state := .onClock }) (by simp [startOffer_cons hq])
      rfl nofun

theorem weighingEnded_ranged (h : s.lotTable.Ranged) (ho : s.lotTable.Ordered) (ht : s.links.Tied) (i : Fin 8) {result : WeighResult}
    (hr : result ≠ .taken) (gross : Option Int) : (s.endWeighing i result gross none none).lotTable.Ranged := by
  cases hp : (s.lane i).weighing with
  | none => exact ranged_congr h (by simp [endWeighing, hp])
  | some p =>
    obtain ⟨lot, hlot, -⟩ := weighing_of_links ht hp
    exact ranged_modLot h ho hlot (endWeighing_blocks hp hr gross none none).1 (·.unpended)

/-- The division of a lane in use is one of those that a lane may have (R15, R150). -/
theorem Calibrated.division (h : s.Calibrated) (hstore : s.store.Sound) {i : Fin 8} (used : (s.lane i).state ≠ .off) :
    (s.store.laneCal i).e ∈ [1, 2, 5, 10, 20, 50, 100] := by
  obtain ⟨cal, hcal⟩ := Option.isSome_iff_exists.mp (h i (.inr used))
  rw [Store.laneCal, hcal, Option.getD_some]
  obtain ⟨bs, hbs, rfl⟩ := Option.map_eq_some_iff.mp hcal
  have hok := hstore.contentsOk (id := .laneCal i) nofun hbs
  simp only [RecordId.contentsOk, divisionOk, Bool.and_eq_true, List.contains_iff_mem] at hok
  exact hok.1.1.1.2

theorem weighingTaken_ranged (h : s.lotTable.Ranged) (ho : s.lotTable.Ordered) (ht : s.links.Tied) {i : Fin 8} {p : PendingWeighing}
    (hp : (s.lane i).weighing = some p) {legal : Int} {e : Nat} (he : e ∈ [1, 2, 5, 10, 20, 50, 100]) (least : 20 * (e : Int) ≤ legal)
    (most : (((s.lot? p.key).bind (·.gross)).getD 0 : Int) + legal ≤ 9600000) :
    (s.modLot p.key fun l => l.enter { lane := unitNumber i, gross := legal.toNat, crates := p.crates } e).lotTable.Ranged := by
  obtain ⟨lot, hlot, hpending⟩ := weighing_of_links ht hp
  have hopened : lot.state = .opened := ht.opened p.key lot.phase _ (links_lot hlot) hpending
  rw [hlot, Option.bind_some] at most
  exact ranged_modLot h ho hlot rfl fun hr => hr.enter hpending hopened (by omega) he

theorem handIn_ranged (h : s.lotTable.Ranged) (ho : s.lotTable.Ordered) {lot : Lot} (hl : s.lot? lot.key = some lot) (i : Fin 8) {c : Nat}
    (hweighings : lot.weighings.length < 16) (hcrates : lot.n + c ≤ 255) (least : 1 ≤ c) (most : c ≤ 99) :
    (s.handIn lot i c).lotTable.Ranged :=
  ranged_modLot h ho hl (f := fun l => { l with pending := some { lane := unitNumber i, crates := c } })
    (by simp [handIn, commit]) fun hr => hr.handedIn _ hweighings hcrates ⟨Nat.le_add_left 1 i, i.isLt⟩ ⟨least, most⟩

theorem postSale_ranged (h : s.lotTable.Ranged) (ho : s.lotTable.Ordered) {c : Candidate} (hl : s.lot? c.lot.key = some c.lot)
    (hclock : c.lot.state = .onClock) (v : Valuation) : (s.postSale c v).lotTable.Ranged :=
  ranged_moveLot h ho hl (by rw [hclock]; decide) (f := fun l => { l with state := .sold, sale := some (c.sale v) })
    (lotTable_postSale ..) rfl nofun

theorem win_ranged (h : s.lotTable.Ranged) (ho : s.lotTable.Ordered) (ht : s.links.Tied) {r : RostrumId} {d : Fin 96} {quantity : Nat}
    {c : Candidate} {v : Valuation} (hj : s.judgePress r d quantity = .ok (c, v)) : (s.win r c v).lotTable.Ranged := by
  obtain ⟨o, hoffer, hl, -, hnet, hcheck⟩ := judgePress_lot hj
  obtain ⟨lot, hlot, hclock, -⟩ := offer_of_links ht hoffer
  obtain rfl := Option.some.inj (hlot.symm.trans hl)
  rw [← lot?_key hl] at hl
  have hsold := postSale_ranged h ho hl hclock v
  cases hpart : c.isPart with
  | false => exact (lotTable_win_whole hpart r v).symm ▸ hsold
  | true =>
    have hremainder : (c.remainder r).Ranged :=
      Candidate.remainder_ranged (h c.lot (lot?_mem hl)) (by rw [hclock]; decide) hpart hnet (hcheck hpart) r
    rw [lotTable_win_part hpart]
    refine ranged_displaced (fun l hmem => ?_) fun l hmem hd => ?_
    · rcases mem_insertLot.mp hmem with rfl | hold
      · exact hremainder
      · exact hsold l hold
    · rcases mem_insertLot.mp hmem with rfl | hold
      · exact nofun
      · rw [lotTable_postSale] at hold
        obtain ⟨x, hx, rfl⟩ := List.mem_map.mp hold
        split at hd
        · next hk => simp [hk]
        · next hk =>
          rw [if_neg hk]
          exact not_opened_of_queued ho ht hx hd

/-! ## Lanes -/

/-- The lanes are used as before, with the calibrations that they had. -/
theorem Calibrated.same (h : s.Calibrated) (hstore : t.store = s.store)
    (hlanes : ∀ i, (t.lane i).enabled = (s.lane i).enabled ∧ (t.lane i).state = (s.lane i).state) : t.Calibrated := by
  intro i
  rw [hstore, (hlanes i).1, (hlanes i).2]
  exact h i

theorem Calibrated.of_lanes (h : s.Calibrated) (hstore : t.store = s.store) (hlanes : t.lanes = s.lanes) : t.Calibrated :=
  h.same hstore fun i => by simp [lane_congr hlanes i]

theorem laneCal?_congr {st st' : Store} {i : Fin 8} (h : st'.live (.laneCal i) = st.live (.laneCal i)) : st'.laneCal? i = st.laneCal? i := by
  rw [Store.laneCal?, Store.laneCal?, Store.contents?, Store.contents?, h]

/-- A write that becomes live leaves every calibration VALID that was, and makes its own so. -/
theorem laneCal?_written {w : WriteBuffer} (held : s.store.buffer = some w) {i : Fin 8} (h : (s.store.laneCal? i).isSome = true) :
    ((s.store.complete w .ok).laneCal? i).isSome = true := by
  by_cases htarget : w.target = .laneCal i
  · have hnew : (s.store.complete w .ok).contents? (.laneCal i) = some w.contents := htarget ▸ Store.contents?_complete held
    rw [Store.laneCal?, hnew]
    rfl
  · rwa [laneCal?_congr]
    rw [Store.live_complete held, if_neg fun h => htarget h.1]

theorem modLane_calibrated (h : s.Calibrated) {i : Fin 8} {f : Lane → Lane} (hstore : t.store = s.store) (ht : t.lanes = (s.modLane i f).lanes)
    (hf : (f (s.lane i)).enabled = true ∨ (f (s.lane i)).state ≠ .off →
      (s.lane i).enabled = true ∨ (s.lane i).state ≠ .off ∨ (s.store.laneCal? i).isSome = true) : t.Calibrated := by
  intro j hj
  rw [lane_congr ht, lane_modLane] at hj
  rw [hstore]
  split at hj
  · next hji =>
    subst hji
    rcases hf hj with hen | hstate | hcal
    · exact h j (.inl hen)
    · exact h j (.inr hstate)
    · exact hcal
  · exact h j hj

theorem endWeighing_calibrated (h : s.Calibrated) (i : Fin 8) (result : WeighResult) (gross : Option Int) (number : Option Nat)
    (ticket : Option TicketStatus) : (s.endWeighing i result gross number ticket).Calibrated := by
  cases hp : (s.lane i).weighing with
  | none => simpa [endWeighing, hp] using h
  | some p =>
    refine modLane_calibrated h (i := i)
      (f := fun l => { l with weighing := none, last := some { result, gross, key := p.key, number, ticket }, attention := true })
      (by simp) ?_ fun hu => hu.imp_right .inl
    by_cases hr : result = .taken
    · rw [hr, endWeighing_taken hp]
    · exact (endWeighing_blocks hp hr gross number ticket).2

end State

open State in
/-- Every elementary change keeps the lots within their ranges. -/
theorem Change.ranged {s t : State} (h : Change s t) (hstore : s.store.Sound) (ho : s.lotTable.Ordered) (ht : s.links.Tied)
    (hc : s.Calibrated) (hs : s.lotTable.Ranged) : t.lotTable.Ranged := by
  cases h
  case weighingEnded i result gross hr => exact weighingEnded_ranged hs ho ht i hr gross
  case weighingTaken i p legal number ticket hp used least most =>
    rw [endWeighing_taken (s := s.modLot p.key _) hp]
    exact weighingTaken_ranged hs ho ht hp (hc.division hstore used) least most
  case opened boat species ty a _ _ _ =>
    intro l hl
    rcases mem_insertLot.mp (show l ∈ insertLot _ s.lotTable.lots from hl) with rfl | hmem
    · exact .ofOpened ..
    · exact hs l hmem
  case handedIn lot i c hl _ _ _ _ hweighings hcrates least most _ _ => exact handIn_ranged hs ho hl i hweighings hcrates least most
  case closed lot hl hopened _ hweighed least =>
    exact ranged_modLot hs ho hl (t := s.closeLot lot) rfl fun hr => hr.closed hweighed _ _ _ _ least
  case retired lot _ _ =>
    rw [retire_lotTable]
    exact fun l hl => hs l (List.mem_of_mem_filter hl)
  case queued r atHead override lot hl hw _ =>
    refine ranged_moveLot hs ho hl (fun hopened => ?_)
      (f := fun l => { l with override := overrideOf override, rostrum := some r, state := .queued }) (by simp [enqueue]) rfl nofun
    rcases Lot.isWaiting_iff.mp hw with hstate | hstate <;> exact absurd (hopened.symm.trans hstate) (by decide)
  case unqueued lot hl hq =>
    refine ranged_moveLot hs ho hl (by rw [hq]; decide) (f := fun l => { l with state := .ready, rostrum := none }) ?_ rfl nofun
    rw [modLot_lotTable, modLot_lotTable, unqueue_lotTable]
  case offerStarted r _ _ => exact startOffer_ranged hs ho ht r
  case putBack r f _ _ _ _ =>
    rw [modRostrum_lotTable]
    exact putBack_ranged hs ho ht r
  case unsold r o f hoffer _ _ _ _ =>
    rw [modRostrum_lotTable]
    obtain ⟨lot, hlot, hclock, -⟩ := offer_of_links ht hoffer
    exact ranged_moveLot hs ho hlot (by rw [hclock]; decide) rfl rfl nofun
  case won r d quantity c v hj => exact win_ranged hs ho ht hj
  all_goals exact ranged_congr hs (by simp)

open State in
/-- Every elementary change keeps the lanes in use calibrated. -/
theorem Change.calibrated {s t : State} (h : Change s t) (hstore : s.store.Sound) (hs : s.Calibrated) : t.Calibrated := by
  cases h
  case store f _ live =>
    intro i hi
    rw [modStore_store, laneCal?_congr (live hstore _)]
    exact hs i hi
  case written w held _ => exact fun i hi => laneCal?_written held (hs i hi)
  case lane i f _ _ use => exact modLane_calibrated hs rfl rfl use
  case weighingEnded i result gross _ => exact endWeighing_calibrated hs i result gross none none
  case weighingTaken i p legal number ticket _ _ _ _ =>
    exact endWeighing_calibrated (s := s.modLot p.key _) (hs.of_lanes rfl rfl) i .taken _ _ _
  case handedIn lot i c _ _ _ _ _ _ _ _ _ _ _ =>
    refine hs.same (by simp) fun j => ?_
    rw [lane_handIn]
    split
    · next hj => simp [hj]
    · simp
  all_goals exact hs.of_lanes (by simp) (by simp)

end Sys2Proof.Machine
end

section
/-! PROOF. Every step keeps the lots within their ranges and the lanes in use calibrated (R15, R29, R31, R34, R44). -/

namespace Sys2Proof.Machine

/-- What a command can come to: a run of elementary changes, at a power-on from the records cleared or put right; RECORDS CLEAR, with
its answer at the port; or the loss of the main supply. -/
inductive Effect (s : State) : State → Prop
  | run {t : State} (changes : Changes s t) : Effect s t
  | cleared (f : Port → Port) : Effect s (s.clearRecords.modPort f)
  | lost : Effect s s.loseVolatile
  | cold {t : State} (changes : Changes (s.coldClear.powered .powerOnCold) t) : Effect s t
  | warm {t : State} (absent : s.supply.absent = true) (changes : Changes (s.warmReconcile.powered .powerOnWarm) t) : Effect s t

theorem recordsClear_effect (s : State) : Effect s (request 0x79 recordsClear s) := by
  cases ht : s.trading with
  | false =>
    rw [request_idle ht]
    exact .run (.refl s)
  | true =>
    rw [request_trading ht]
    unfold recordsClear
    split
    · exact .run (.one (.port (fun p => { p with answer := _, frameCrc := _ }) id))
    · exact .cleared fun p => { p with answer := _, frameCrc := _ }

theorem powersOn_effect (s : State) : Effect s s.powersOn := by
  cases ha : s.supply.absent with
  | false => exact .run (.of_eq (by simp [State.powersOn, ha]))
  | true =>
    rw [State.powersOn_eq ha]
    dsimp only
    cases s.supply.latch <;> cases s.supply.resetLine
    · exact .warm ha (State.powered_finishStart_changes ..)
    · exact .warm ha (.refl _)
    · exact .cold (State.powered_finishStart_changes ..)
    · exact .cold (.refl _)

theorem exec_effect {c : Instr} {s t : State} (h : exec c s = .next t) : Effect s t := by
  by_cases hclear : c = .recordsClear
  · subst hclear
    rw [eq_run_of_exec h]
    exact recordsClear_effect s
  by_cases hlost : c = .supplyAbsent
  · subst hlost
    rw [eq_run_of_exec h]
    show Effect s s.supplyLost
    unfold State.supplyLost
    split
    · exact .run (.refl s)
    · exact .lost
  by_cases hon : c = .powerOn
  · subst hon
    rw [eq_run_of_exec h]
    exact powersOn_effect s
  exact .run (exec_changes hclear hlost hon h)

/-- The lots are within their ranges and the lanes in use calibrated. -/
def State.InRange (s : State) : Prop := s.lotTable.Ranged ∧ s.Calibrated

/-- The ranges with what they rest on. -/
structure State.Weighed (s : State) : Prop where
  store : s.store.Sound
  ordered : s.lotTable.Ordered
  tied : s.links.Tied
  range : s.InRange

theorem Change.weighed {s t : State} (h : Change s t) (hs : s.Weighed) : t.Weighed where
  store := h.store_sound hs.store
  ordered := h.ordered hs.ordered hs.tied
  tied := (h.steps (sound := false) hs.ordered hs.tied nofun).tied hs.tied
  range := ⟨h.ranged hs.store hs.ordered hs.tied hs.range.2 hs.range.1, h.calibrated hs.store hs.range.2⟩

theorem Changes.inRange {s t : State} (h : Changes s t) (hs : s.Weighed) : t.InRange := (h.keeps (fun _ _ hc => hc.weighed) hs).range

namespace State

variable {s : State}

theorem calibrated_of_off (h : ∀ i, (s.lane i).enabled = false ∧ (s.lane i).state = .off) : s.Calibrated := by
  intro i hi
  simp [h i] at hi

/-- No lot is out of range where there is none. -/
theorem ranged_of_empty (h : s.lotTable.lots = []) : s.lotTable.Ranged := by
  intro l hl
  rw [h] at hl
  cases hl

theorem clearRecords_inRange (s : State) (f : Port → Port) : (s.clearRecords.modPort f).InRange := by
  refine ⟨ranged_of_empty (by simp [LotTable.empty]), calibrated_of_off fun i => ?_⟩
  rw [lane_congr (t := s.clearRecords.modPort f) (s := s.clearRecords) rfl, clearRecords_lane]
  exact ⟨rfl, rfl⟩

theorem loseVolatile_inRange (h : s.InRange) : s.loseVolatile.InRange := by
  refine ⟨s.loseVolatile_lotTable.symm ▸ h.1, fun i hi => ?_⟩
  rw [loseVolatile_lane] at hi
  have henabled : (s.lane i).enabled = true := hi.resolve_right fun hstate => hstate rfl
  rw [(loseVolatile_blocks s).2.2.2.1, laneCal?_congr (live_lose ..)]
  exact h.2 i (.inl henabled)

theorem coldClear_weighed (hstore : s.store.Sound) (cause : RestartCause) : (s.coldClear.powered cause).Weighed where
  store := storeSound_kept.cold s trivial hstore
  ordered := (s.coldClear_linked cause).ordered
  tied := (s.coldClear_linked cause).tied
  range := ⟨ranged_of_empty rfl, calibrated_of_off fun i => by rw [lane_powered, coldClear_lane]; exact ⟨rfl, rfl⟩⟩

theorem warmReconcile_ranged (h : s.Linked) (hr : s.lotTable.Ranged) : s.warmReconcile.lotTable.Ranged := by
  have hlots := congrArg LotTable.lots (s.warmReconcile_reconciled.lots h)
  intro m hm
  rw [hlots] at hm
  obtain ⟨l, hl, rfl⟩ := List.mem_map.mp hm
  refine (hr l hl).unpended.moved ?_ (h.settled_state_iff hl _ (by decide) (by decide) (by decide))
  rw [Lot.figures, Lot.figures, Lot.settled, if_pos (List.mem_map_of_mem hl)]

theorem warmReconcile_weighed (h : s.Linked) (hstore : s.store.Sound) (hs : s.InRange) (ha : s.supply.absent = true) (cause : RestartCause) :
    (s.warmReconcile.powered cause).Weighed where
  store := by simpa using hstore
  ordered := (warmReconcile_linked h ha cause).ordered
  tied := (warmReconcile_linked h ha cause).tied
  range := ⟨warmReconcile_ranged h hs.1, hs.2.of_lanes (by simp) (by simp)⟩

end State

theorem Effect.inRange {s t : State} (h : Effect s t) (hstore : s.store.Sound) (hl : s.Linked) (hs : s.InRange) : t.InRange := by
  cases h with
  | run changes => exact changes.inRange ⟨hstore, hl.ordered, hl.tied, hs⟩
  | cleared f => exact s.clearRecords_inRange f
  | lost => exact State.loseVolatile_inRange hs
  | cold changes => exact changes.inRange (State.coldClear_weighed hstore _)
  | warm absent changes => exact changes.inRange (State.warmReconcile_weighed hl hstore hs absent _)

/-- A step is one millisecond, or the first command of the queue. -/
theorem step_cases {s t : State} (h : step s = .next t) : t = s.tick ∨ ∃ c q, exec c { s with pending := q } = .next t := by
  unfold step at h
  split at h
  · exact .inl (Host.Outcome.next.inj h).symm
  · exact .inr ⟨_, _, h⟩

theorem State.tick_inRange {s : State} (h : s.InRange) : s.tick.InRange := by
  refine ⟨State.ranged_congr h.1 (by simp), h.2.same (by simp) fun i => ?_⟩
  rw [tick_lane]
  exact ⟨rfl, rfl⟩

/-- Settles O13: the lots' labels by every change from a sound store; their figures and the lanes' calibrations, with the links. -/
theorem stepKeepsTheLotsSound : Obligations.StepKeepsTheLotsSound := by
  intro s t hstore hlots h
  refine ⟨((storeSound_kept.and lotsSound_kept).step (fun _ _ hs => hs) (fun s hs => by simpa using hs) h ⟨hstore, hlots⟩).2,
    fun hl hc hr => ?_⟩
  rcases step_cases h with rfl | ⟨c, q, hexec⟩
  · exact State.tick_inRange ⟨hr, hc⟩
  · exact (exec_effect hexec).inRange hstore (State.linked_of_links hl.ordered hl.tied hl.whole hl.still) ⟨hr, hc⟩

end Sys2Proof.Machine
end
